-- ==== Sys2Proof/Word.lean ====
section
/-! DEFINITION. Bit-vector abbreviations, fields of numbers, and the sparse association lists
that State is made of. -/

namespace Sys2Proof

/-- A byte of device memory. -/
abbrev Byte := BitVec 8
/-- A facet register (R10: naturally aligned 32-bit words). -/
abbrev Word := BitVec 32
/-- A tile operation, a scalar register (R132, 06 V-core state). -/
abbrev DWord := BitVec 64
/-- One lattice granule's data (R255). -/
abbrev Granule := BitVec 256

/-- Field [hi:lo] of a number. -/
def fieldOf (x hi lo : Nat) : Nat := (x >>> lo) % 2 ^ (hi + 1 - lo)

/-- One bit of a number, as a Bool. -/
def bitOf (x i : Nat) : Bool := x.testBit i

/-- Number of a Bool. -/
def b2n (b : Bool) : Nat := if b then 1 else 0

/-- `x` with field [hi:lo] replaced by `v` (cut to the field's width). -/
def putField (x hi lo v : Nat) : Nat :=
  let w := hi + 1 - lo
  x - (fieldOf x hi lo <<< lo) + ((v % 2 ^ w) <<< lo)

/-- A signed number from `w` bits in two's complement. -/
def signedOf (w x : Nat) : Int :=
  let y := x % 2 ^ w
  if w = 0 then 0 else if y < 2 ^ (w - 1) then (y : Int) else (y : Int) - (2 ^ w : Nat)

/-- The low `w` bits of an integer, in two's complement. -/
def unsignedOf (w : Nat) (x : Int) : Nat := (x % ((2 ^ w : Nat) : Int)).toNat

/-- Rounded-up quotient. -/
def ceilDiv (a b : Nat) : Nat := (a + b - 1) / b

/-- A counter that stops at `top`. -/
def satAdd (top a b : Nat) : Nat := min top (a + b)

/-- The distance from frame number `a` forward to `b`, modulo 2^48 (R84). -/
def frameAhead (a b : Nat) : Nat := (b + 2 ^ 48 - a % 2 ^ 48) % 2 ^ 48

/-- `b` is later than `a` under R84. -/
def frameLater (a b : Nat) : Bool := let d := frameAhead a b; decide (0 < d) && decide (d < 2 ^ 47)

/-! Sparse association lists keyed by numbers, strictly rising. -/

namespace Assoc

variable {α : Type}

/-- The value at key `k`, or `none`. -/
def get? (k : Nat) : List (Nat × α) → Option α
  | [] => none
  | (j, v) :: rest => if j = k then some v else get? k rest

/-- The value at key `k`, or the default. -/
def getD (d : α) (k : Nat) (l : List (Nat × α)) : α := (get? k l).getD d

/-- `l` with key `k` mapped to `v`, or with no entry for `k` when `v` is `none`. -/
def put (k : Nat) (v : Option α) : List (Nat × α) → List (Nat × α)
  | [] => match v with
    | none => []
    | some x => [(k, x)]
  | (j, w) :: rest =>
    if j < k then (j, w) :: put k v rest
    else if j = k then match v with
      | none => rest
      | some x => (k, x) :: rest
    else match v with
      | none => (j, w) :: rest
      | some x => (k, x) :: (j, w) :: rest

/-- `l` with key `k` mapped to `f` of its present value. -/
def modify (d : α) (k : Nat) (f : α → α) (l : List (Nat × α)) : List (Nat × α) :=
  put k (some (f (getD d k l))) l

/-- Keys strictly rising. -/
def sorted : List (Nat × α) → Bool
  | [] => true
  | [_] => true
  | (a, _) :: (b, y) :: rest => decide (a < b) && sorted ((b, y) :: rest)

end Assoc

/-- Little-endian bytes of a number (R7). -/
def leBytes : Nat → Nat → List Byte
  | 0, _ => []
  | n + 1, x => BitVec.ofNat 8 x :: leBytes n (x / 256)

/-- The number little-endian bytes spell (R7). -/
def leNat : List Byte → Nat
  | [] => 0
  | b :: bs => b.toNat + 256 * leNat bs

/-- Element `i` of a list of numbers, 0 beyond its end. -/
def nth (l : List Nat) (i : Nat) : Nat := l.getD i 0

/-- `l` with element `i` replaced. -/
def setNth {α : Type} (l : List α) (i : Nat) (v : α) : List α := l.set i v

end Sys2Proof
end

