-- ==== Sys2Proof/Syntax.lean ====
section
/-! DEFINITION. The commands of the block (one per row of spec/opcode_table.json) and the operands
they carry: the operations of the tile sequencers (R132-R138) and of the V-cores (R197, R198) as
decoded fields, what links and pins deliver, and the outcomes of tests and measurements that lie
outside the digital model. Fields hold the encoded values: a count whose 0 means the full count is
held as 0. -/

namespace Sys2Proof

/-- A core that runs a SYNC operation: an M-core by its global index or a V-core by its stack. -/
inductive CoreId where
  | mcore (g : Nat)
  | vcore (v : Nat)
deriving DecidableEq, Repr

/-- Fields of MAC (R133). -/
structure MacOp where
  mode : Nat
  wsrc : Nat
  wfmt : Nat
  afmt : Nat
  acc : Nat
  rumask : Nat
  arow : Nat
  areg : Nat
  aoff : Nat
  steps : Nat
  wbase : Nat
  woff : Nat
deriving DecidableEq, Repr

/-- Fields of LDA (R134); `lines` is LINES - 1 as encoded. -/
structure LdaOp where
  areg : Nat
  side : Nat
  dline : Nat
  lines : Nat
  base : Nat
  off : Nat
deriving DecidableEq, Repr

/-- Fields of FIN (R135); `rows` is ROWS - 1 as encoded. -/
structure FinOp where
  arow : Nat
  rows : Nat
  ofmt : Nat
  func : Nat
  sat : Nat
  scaleEn : Nat
  smx : Nat
  dest : Nat
  dbase : Nat
  doff : Nat
  sbbase : Nat
  sboff : Nat
deriving DecidableEq, Repr

/-- A tile operation (R132-R138). -/
inductive TileOp where
  | nop
  | mac (o : MacOp)
  | lda (o : LdaOp)
  | fin (o : FinOp)
  | clr (row rows : Nat)
  | wait (slot cc : Nat)
  | sync (kind target line : Nat)
  | loop (count len : Nat)
  | setb (reg imm plog stride : Nat)
  | addb (reg : Nat) (imm : Int)
  | brf (plog value skip : Nat)
  | fill (count rumask : Nat)
  | endFrame
deriving DecidableEq, Repr

/-- A V-core instruction (R197, R198). -/
inductive VInstr where
  | nop
  | sop (sd sa sb fn : Nat)
  | saddi (sd sa : Nat) (imm : Int)
  | smovk (sd q imm : Nat)
  | sld (sd sa : Nat) (imm : Int)
  | sst (sd sa : Nat) (imm : Int)
  | beq (sa sb : Nat) (off : Int)
  | bne (sa sb : Nat) (off : Int)
  | blt (sa sb : Nat) (off : Int)
  | jmp (off : Int)
  | csrr (sd idx : Nat)
  | waits (slot cc : Nat)
  | sync (kind target line : Nat)
  | tblw (sa mcmask u : Nat)
  | rld (sa sb : Nat)
  | rst (sa sb : Nat)
  | endFrame
  | vld (vd sa : Nat) (off : Int)
  | vst (vd sa : Nat) (off : Int)
  | vgather (vd sa vb t : Nat)
  | vscatter (vd sa vb t : Nat)
  | vint (vd va vb t fn : Nat)
  | vflt (vd va vb t fn : Nat)
  | vsel (vd va vb t : Nat)
  | vbcast (vd sa t : Nat)
  | vred (sd va t fn : Nat)
  | vcvt (vd va src t mod : Nat)
  | vperm (vd va vb t : Nat)
  | vsort (vd va vb t : Nat)
  | vtopk (vd va vb t : Nat)
  | vrng (vd sa sb sc : Nat)
deriving DecidableEq, Repr

/-- A flit (R309): payload, lattice check bits, tag. The same shape names the bits that a wire
inverts on the way (`noise`: all zero for a good wire). -/
structure Flit where
  pay : BitVec 256
  chk : BitVec 32
  tag : BitVec 64
deriving DecidableEq, Repr

/-- Who reaches a column in the acceptance order of R229. -/
inductive PortSrc where
  | router
  | mover (i : Nat)
deriving DecidableEq, Repr

/-- Who asks for a register access (R57, R346). -/
inductive Requester where
  | mgmt
  | boot
  | zeleri
  | vcore (v : Nat)
deriving DecidableEq, Repr

/-- A defect (R551): block entry index, UNIT kind 1-10, WHERE. -/
structure Defect where
  block : Nat
  unit : Nat
  pos : Nat
deriving DecidableEq, Repr

/-- What a Garlet port learns of its peer in training (R451-R458). -/
structure GarletPeer where
  port : Nat
  ownMask : Nat
  peerMask : Nat
  peerPort : Nat
  peerTag : Nat
deriving DecidableEq, Repr

/-- What ends a step of Garlet training (R451). -/
inductive GarletStep where
  | peerFound
  | equalised (ownMask : Nat)
  | limitPassed
  | probed
deriving DecidableEq, Repr

/-- What ends a step of Zeleri training (R483). -/
inductive ZeleriStep where
  | peerFound
  | equalised
  | qualified (ownMask peerMask : Nat)
  | limitPassed
deriving DecidableEq, Repr

/-- What the plate's memory answers at bring-up (R523, R524): the identity block and both wear
records, 64 bytes each. -/
structure PlateRead where
  ident : List Byte
  recA : List Byte
  recB : List Byte
deriving DecidableEq, Repr

/-- A rail's PMBus reading (R494): rail, READ_VOUT in mV, READ_IOUT in 0.1 A, STATUS_WORD, and how
many tries failed (R494: the third failure gives up). -/
structure RailRead where
  rail : Nat
  mv : Nat
  deciamps : Nat
  status : Nat
  failedTries : Nat
deriving DecidableEq, Repr

/-- What a bring-up finds (R539): the places it gives the facets (R637, one page number per block
entry, empty for the order of the entries), the failures of its start-up test and qualification
(R542, R543), the Garlet peers that answered (R544), the plate's answer (R523) and the first reads
of the sensors (R503). -/
structure BringUpIn where
  place : List Nat
  fails : List Defect
  d2dBad : List (Nat × Nat × Nat)
  peers : List GarletPeer
  plate : Option PlateRead
  reads : List Int
deriving DecidableEq, Repr


/-- The commands of the block, one constructor per row of the table of operations and events. -/
inductive Instr where
  /-- LOCAL_TICK (R70). At cc 0 of the boundary slot the frame timer ticks, advances the frame number and checks frame N for overrun; refresh debt, layer judgements, partitions and program start or end are handled in the same cc. -/
  | localTick
  /-- SKEW_WINDOW_CLOSE (R441). At cc 21 of the boundary slot each Garlet port discards every flit of the ended frame still held, setting STALE and raising a frame fault. -/
  | skewWindowClose
  /-- EVENT_SETTLE (R353). At cc 28 of the boundary slot undelivered SYNC messages are discarded, event lines are cleared, held notices are applied, open barriers are checked and the completion signature closes. -/
  | eventSettle
  /-- COMMIT (R378). At cc 29–44 of the boundary slot the prefix engine commits the staged page changes of frame N in fixed steps and ascending ORD. -/
  | commit
  /-- TICK_MISS (R640). At cc 44 of the boundary slot a marker not matched to the frame is counted missing, and eight misses while running raise a tick-loss fault. -/
  | tickMiss
  /-- BOUNDARY_ENABLE_APPLY (R70). At cc 45–52 of the boundary slot held ENABLE writes apply, row-unit roles rotate, staged finisher tables become active and the stretch of the next frame is fixed. -/
  | boundaryEnableApply
  /-- SLOT1_START (R127). At cc 0 of slot 1 the tile sequencers, V-cores and stack movers restart their frame programs from their initial state. -/
  | slot1Start
  /-- SERVICE_SLOT_ENTRY (R65). At a SERVICE or stretch slot the unscheduled traffic held at its entry points enters in arrival order. -/
  | serviceSlotEntry
  /-- TICK_MARKER (R640). A tick marker arriving on the tick parent is checked, matched to a local frame and used to compute delay and skew. -/
  | tickMarker (link : Nat) (m : BitVec 128) (arr : Nat) (replay : Bool)
  /-- TICK_MARKER_SEND (R74). 24 cc after the master's tick or a matched marker's arrival, the package sends or forwards a tick marker on every TICK_CHILDREN port. -/
  | tickMarkerSend
  /-- RESYNC_MARKER (R85). A valid RESYNC marker moves the package's frame number and tick, or is ignored and counted in PSTATE 3 and 4. -/
  | resyncMarker (link : Nat) (m : BitVec 128) (arr : Nat)
  /-- RESYNC_CMD (R106). A non-zero write on the master starts 32 frames of RESYNC markers from the next frame. -/
  | resyncCmd (count : Nat)
  /-- DELAY_PROBE (R77). A delay probe arrives at a port and schedules the echo 24 cc later. -/
  | delayProbe (port : Nat) (m : BitVec 128)
  /-- DELAY_ECHO_SEND (R446). Exactly 24 cc after a probe arrives, the port sends the delay echo unless a tick marker holds that cc. -/
  | delayEchoSend (port : Nat)
  /-- DELAY_ECHO (R77). A delay echo arrives and the prober stores the one-way delay of the link. -/
  | delayEcho (link : Nat) (m : BitVec 128) (arr : Nat)
  /-- LOAD (R96). PROG_CMD 1 begins loading the frame program image, checking and distributing it in SERVICE slots of the idle schedule. -/
  | load
  /-- LOAD_COMPLETE (R95). Loading completes: data images are written, START_FRAME is checked, and the program is armed or the load is refused. -/
  | loadComplete
  /-- UNLOAD (R106). PROG_CMD 2 unloads the program, or stops a load with code 0x10, at the next boundary slot. -/
  | unload
  /-- MAC (R133). A MAC operation starts matrix steps into accumulator rows from the operand store or stream buffer. -/
  | mac (g : Nat) (o : MacOp)
  /-- MAC_STEP (R124). A step of a MAC operation issues once the lines it needs have been read or have arrived. -/
  | macStep (g : Nat)
  /-- MAC_WRITEBACK (R140). 24 cc after a MAC's last step its lane accumulators are written, or added, into the accumulator rows. -/
  | macWriteback (g : Nat)
  /-- LDA (R134). An LDA operation loads lines of an activation register from the operand store. -/
  | lda (g : Nat) (o : LdaOp)
  /-- FIN (R135). A FIN operation starts a finisher pass that reads accumulator rows one per cc. -/
  | fin (g : Nat) (o : FinOp)
  /-- FIN_OUTPUT (R136). 12 cc after a row is read the finisher writes its converted result to its destination or injection queue. -/
  | finOutput (g : Nat)
  /-- CLR (R137). A CLR operation clears accumulator rows to +0.0, four rows per cc. -/
  | clr (g row rows : Nat)
  /-- WAIT (R137). A WAIT operation holds issue until its frame position. -/
  | wait (g slot cc : Nat)
  /-- WAIT_RELEASE (R137). A WAIT releases the sequencer at its position, or at once with WAIT_LATE if reached late. -/
  | waitRelease (g : Nat)
  /-- SYNC_SIGNAL (R138). A SYNC of KIND 0 sends an EVENT to its target line. -/
  | syncSignal (c : CoreId) (target line : Nat)
  /-- SYNC_WAIT (R352). A SYNC of KIND 1 holds issue until the event line count is at least 1, then subtracts 1. -/
  | syncWait (c : CoreId) (target line : Nat)
  /-- SYNC_ARRIVE (R355). A SYNC of KIND 2 sends an ARRIVE to a barrier counter without waiting. -/
  | syncArrive (c : CoreId) (target line : Nat)
  /-- SYNC_ARRIVE_WAIT (R355). A SYNC of KIND 3 sends an ARRIVE and holds issue until the release of its round. -/
  | syncArriveWait (c : CoreId) (target line : Nat)
  /-- LOOP (R138). A LOOP operation repeats the following body COUNT times. -/
  | loop (g count len : Nat)
  /-- SETB (R138). SETB sets a base register from the frame number. -/
  | setb (g reg imm plog stride : Nat)
  /-- ADDB (R138). ADDB adds a signed immediate to a base register. -/
  | addb (g reg : Nat) (imm : Int)
  /-- BRF (R138). BRF skips operations when the frame number meets its condition. -/
  | brf (g plog value skip : Nat)
  /-- FILL (R137). FILL runs the named row units at full activity on an internal pattern and writes nothing. -/
  | fill (g count rumask : Nat)
  /-- NOP (R132). A tile NOP does nothing. -/
  | nop (g : Nat)
  /-- TILE_END (R130). A tile END marks the end-of-frame point of the M-core's program. -/
  | tileEnd (g : Nat)
  /-- MCORE_DONE (R130). Once END has issued, all units are free and the last writes are made, the M-core marks its frame work done. -/
  | mcoreDone (g : Nat)
  /-- VCORE_NOP (R198). A V-core NOP does nothing. -/
  | vcoreNop (v : Nat)
  /-- SOP (R199). SOP applies its scalar function to two scalar registers. -/
  | sop (v sd sa sb fn : Nat)
  /-- SADDI (R198). SADDI adds a signed immediate to a scalar register. -/
  | saddi (v sd sa : Nat) (imm : Int)
  /-- SMOVK (R198). SMOVK writes a 16-bit immediate into one quarter of a scalar register. -/
  | smovk (v sd q imm : Nat)
  /-- SLD (R198). SLD loads a 64-bit local word into a scalar register. -/
  | sld (v sd sa : Nat) (imm : Int)
  /-- SST (R198). SST stores a scalar register to a 64-bit local word. -/
  | sst (v sd sa : Nat) (imm : Int)
  /-- BEQ (R198). BEQ branches when two scalar registers are equal. -/
  | beq (v sa sb : Nat) (off : Int)
  /-- BNE (R198). BNE branches when two scalar registers differ. -/
  | bne (v sa sb : Nat) (off : Int)
  /-- BLT (R198). BLT branches when one scalar register is less than another, signed. -/
  | blt (v sa sb : Nat) (off : Int)
  /-- JMP (R198). JMP adds its offset to the PC. -/
  | jmp (v : Nat) (off : Int)
  /-- CSRR (R213). CSRR reads a control and status register into a scalar register. -/
  | csrr (v sd idx : Nat)
  /-- WAITS (R210). WAITS holds V-core issue until its frame position. -/
  | waits (v slot cc : Nat)
  /-- WAITS_RELEASE (R210). A WAITS releases at its position, or at once with WAIT_LATE if reached late. -/
  | waitsRelease (v : Nat)
  /-- TBLW (R192). TBLW writes a user table record from local memory to the staged copy of the masked M-cores' finishers. -/
  | tblw (v sa mcmask u : Nat)
  /-- RLD (R208). RLD starts an unscheduled copy of 32 bytes from a device address into local memory. -/
  | rld (v sa sb : Nat)
  /-- RST (R208). RST starts an unscheduled copy of 32 bytes from local memory to a device address. -/
  | rst (v sa sb : Nat)
  /-- REMOTE_ACCESS_COMPLETE (R208). An RLD or RST completes and releases any instruction waiting on it. -/
  | remoteAccessComplete (v : Nat)
  /-- VCORE_END (R210). A V-core END marks the V-core's end-of-frame point. -/
  | vcoreEnd (v : Nat)
  /-- VLD (R198). VLD loads 256 bytes of local memory into a vector register. -/
  | vld (v vd sa : Nat) (off : Int)
  /-- VST (R198). VST stores a vector register to 256 bytes of local memory. -/
  | vst (v vd sa : Nat) (off : Int)
  /-- VGATHER (R198). VGATHER loads elements from indexed local addresses. -/
  | vgather (v vd sa vb t : Nat)
  /-- VSCATTER (R206). VSCATTER stores elements to indexed local addresses in ascending order. -/
  | vscatter (v vd sa vb t : Nat)
  /-- VINT (R199). VINT applies its integer function element by element. -/
  | vint (v vd va vb t fn : Nat)
  /-- VFLT (R199). VFLT applies its floating function element by element. -/
  | vflt (v vd va vb t fn : Nat)
  /-- VSEL (R198). VSEL selects elements where the mask register is non-zero. -/
  | vsel (v vd va vb t : Nat)
  /-- VBCAST (R198). VBCAST fills every element of a vector register from a scalar register. -/
  | vbcast (v vd sa t : Nat)
  /-- VRED (R201). VRED reduces a vector register to a scalar by sum, max or min. -/
  | vred (v sd va t fn : Nat)
  /-- VCVT (R200). VCVT converts elements between types. -/
  | vcvt (v vd va src t mod : Nat)
  /-- VPERM (R198). VPERM permutes elements by an index vector. -/
  | vperm (v vd va vb t : Nat)
  /-- VSORT (R202). VSORT sorts 64 key and index pairs. -/
  | vsort (v vd va vb t : Nat)
  /-- VTOPK (R202). VTOPK keeps the top 64 of two ordered pair sets. -/
  | vtopk (v vd va vb t : Nat)
  /-- VRNG (R203). VRNG fills a vector register with 64 Philox4x32-10 words. -/
  | vrng (v vd sa sb sc : Nat)
  /-- STREAM_TRANSFER (R222). In a column-available cc of a STREAM window the slice's columns deliver stream lines to the M-core's stream buffer. -/
  | streamTransfer (g : Nat)
  /-- PORT_REQUEST (R229). A request reaches a column, waits in the port queue, and is served in a PORT window in acceptance order. -/
  | portRequest (col : Nat) (src : PortSrc)
  /-- COLUMN_DONE (R227). A column marks its frame work done once its entries, row steps, events and port queue are finished. -/
  | columnDone (col : Nat)
  /-- ROW_STEP_START (R287). A row step of a ROWENG entry starts in the first cc in which all its conditions hold, or is refused hot or over budget. -/
  | rowStepStart (col : Nat)
  /-- ROW_STEP_END (R286). 152 cc after it starts a row step writes D after the residue check and releases its banks; the entry's completion event follows its last step. -/
  | rowStepEnd (col : Nat)
  /-- QUEUE_PLACE (R299). A step place of a QUEUE entry runs the next row step of the oldest queued request when its conditions hold. -/
  | queuePlace (col : Nat)
  /-- WITHHELD_PRECHARGE (R220). At cc 40 of every withheld slot every bank of each column is precharged. -/
  | withheldPrecharge
  /-- REFRESH_SLOT (R233). In a REFRESH or stretch slot each layer refreshes, performs owed activity refreshes, or is free for scrubbing. -/
  | refreshSlot (col : Nat)
  /-- SCRUB_STEP_DUE (R264). The scrub timer expires and one further scrub step falls due, or is lost with SCRUB_BEHIND. -/
  | scrubStepDue (col : Nat)
  /-- BOND_SUBSTITUTION (R271). A hard bond is replaced by the next free spare bond of its group at cc 0 of the column's next withheld slot. -/
  | bondSubstitution (col : Nat)
  /-- CAL_MEM (R238). In the CAL_MEM slot column C(c) of every stack trains its bond sampling delays and checks sensor offsets. -/
  | calMem (weak : List (Nat × Nat))
  /-- CAL_D2D (R307). In the CAL_D2D slot a die-to-die connection runs training patterns, adjusts its wires and marks failing lanes bad. -/
  | calD2d (weak : List (Nat × Nat × Nat))
  /-- CAL_GARLET (R450). In its CAL_GARLET window a port sends a delay probe, adapts its receive side and measures lane eyes. -/
  | calGarlet (port : Nat) (eyes : List Nat) (weak : List Nat)
  /-- SRAM_WRITE_BACK (R261). A queued corrected SRAM granule is written back in the first cc its bank accepts no other write. -/
  | sramWriteBack (a : Nat)
  /-- CTRL_WRITE_BACK (R277). A corrected control-memory word is written back in the next cc the memory is not written. -/
  | ctrlWriteBack (blk word : Nat) (uncorr : Bool)
  /-- SLM_ACCESS (R250). A request reaches an SLM bank and is served in hub router order, through scratchpad, cache or adder. -/
  | slmAccess
  /-- FLIT_ARRIVAL (R313). A scheduled flit arriving at a router is checked, matched to a flow and copied to its outputs, ejected or reduced. -/
  | flitArrival (r port : Nat) (noise : Flit)
  /-- REDUCTION_RESULT (R328). When all inputs of a reduction item have arrived the folded result re-enters the router on port 31 after C cc. -/
  | reductionResult (r : Nat)
  /-- INJECTION (R325). A finisher flit in an injection queue enters the router's injection input at its flow's rate. -/
  | injection (r m q : Nat)
  /-- ROUTER_DONE (R317). A router reaches its end-of-frame point once every flow has passed its flits and its queues are empty. -/
  | routerDone (r : Nat)
  /-- UNSCHEDULED_FLIT (R318). An unscheduled flit is forwarded one step along the default route, or held for the next SERVICE slot. -/
  | unscheduledFlit (id : Nat) (noise : Flit)
  /-- REQ (R312). An unscheduled request packet reaches its target unit and is performed. -/
  | req (id : Nat)
  /-- RESP (R312). Reply flits of a request, closed by a status flit, reach the requester. -/
  | resp (id : Nat)
  /-- D2D_RETRAIN_MARKER (R332). The far end of a partially reset connection sees the retrain marker, stops sending, tests its lanes and replies with its mask and width. -/
  | d2dRetrainMarker (e : Nat)
  /-- D2D_MASK_REPLY (R332). The reset end receives the far end's mask and width and sends its own width. -/
  | d2dMaskReply (e : Nat)
  /-- D2D_WIDTH_CONFIRM (R334). The far end compares the widths and enables the connection at the next boundary slot, or records a disagreement and restarts. -/
  | d2dWidthConfirm (e : Nat)
  /-- HALT (R359). A Chord HALT reaches units, which finish their issue group and are gated, discard scheduled work and set PSTATE 4. -/
  | halt (parityAt : Nat)
  /-- TRIP (R359). A Chord TRIP reaches units, whose clocks are gated at cc 0 of the next slot. -/
  | trip
  /-- FENCE (R578). A FENCE message fences its unit as a write of CONTROL.FENCE does. -/
  | fence (id : Nat) (parityBad : Bool)
  /-- FAULT (R561). A FAULT message carries a frame fault to the root, which records it and raises the HALT. -/
  | fault (id : Nat) (parityBad : Bool)
  /-- THERM (R345). A THERM message carries a sensor crossing to the sensor aggregator at the root. -/
  | therm (id : Nat) (parityBad : Bool)
  /-- EVENT (R352). An EVENT adds 1 to its target core's event line, or sets a hub target's flag. -/
  | event (id : Nat) (parityBad : Bool)
  /-- ARRIVE (R355). An ARRIVE adds 1 to a barrier counter, which sends a RELEASE when it reaches its limit. -/
  | arrive (id : Nat) (parityBad : Bool)
  /-- RELEASE (R355). A barrier RELEASE reaches local units and resumes units waiting on that round. -/
  | release (id : Nat) (parityBad : Bool)
  /-- NOTICE (R350). A notice reaches its target: held until the boundary for a core, applied at once for a hub unit. -/
  | notice (id : Nat) (parityBad : Bool)
  /-- CHORD_TELEM (R345). A TELEM message carries a sensor value to the sensor aggregator. -/
  | chordTelem (id : Nat) (parityBad : Bool)
  /-- EVT_PIN_WRITE (R363). A write to EVT_PIN_k takes or releases pin ownership, or is refused. -/
  | evtPinWrite (k : Nat) (value : Word)
  /-- EVENT_IN (R364). A falling edge on an EVENT_IN pin sends a notice to its target line. -/
  | eventIn (k : Nat)
  /-- PIN_HALT (R362). A filtered low on HALT_N gates the cores through the tick tree and the root sends a Chord HALT. -/
  | pinHalt (held : Bool)
  /-- KV_REQUEST (R376). A KV request record reaches the prefix engine and is staged for its frame, or raises a frame fault. -/
  | kvRequest (rec : BitVec 256)
  /-- COPY_END_REPORT (R382). A column reports the end of a queued copy to the prefix engine, which drops the copy pin at the next commit. -/
  | copyEndReport (id : Nat)
  /-- PREFIX_FLUSHED (R374). After a halt the prefix engine completes pending write-through and sets FLUSHED. -/
  | prefixFlushed
  /-- DESCRIPTOR_START (R403). A stack mover descriptor starts after the previous one completes and at its position. -/
  | descriptorStart (m : Nat)
  /-- DESCRIPTOR_COMPLETE (R407). A stack mover descriptor's last write is accepted, OWN is cleared and its event is sent. -/
  | descriptorComplete (m : Nat)
  /-- HUB_DESCRIPTOR_FETCH (R409). A hub channel reads the CTRL word at its head and runs the descriptor or waits for the doorbell. -/
  | hubDescriptorFetch (ch : Nat)
  /-- HUB_DESCRIPTOR_COMPLETE (R411). All writes of a hub descriptor are acknowledged, OWN is written back, the notice sent and the head advanced. -/
  | hubDescriptorComplete (ch : Nat)
  /-- HMOVER_TIMEOUT (R412). A reply not arrived within TIMEOUT is a bus error of CAUSE 4. -/
  | hmoverTimeout (ch : Nat)
  /-- DOORBELL (R409). A write to DOORBELL wakes a waiting hub channel to read CTRL again. -/
  | doorbell (ch : Nat)
  /-- RETRY (R415). CMD 1 runs a halted hub channel's descriptor again from its first element. -/
  | retry (ch : Nat)
  /-- SKIP (R415). CMD 2 writes OWN 0 back to a halted hub channel's descriptor and advances the head. -/
  | skip (ch : Nat)
  /-- APPEND (R422). APPEND adds two entries to an outbound queue, opening a packet if none is open. -/
  | append (q : Nat) (data : BitVec 256) (scheduled : Bool)
  /-- CLOSE (R422). CLOSE closes the open packet of an outbound queue. -/
  | close (q : Nat) (scheduled : Bool)
  /-- READ (R422). READ returns the next whole packet of an inbound queue. -/
  | read (q len : Nat)
  /-- STALE_TIMEOUT (R424). A mailbox stale timer reaches STALE_CC and sends one notice. -/
  | staleTimeout (q : Nat)
  /-- GARLET_RECORD (R434). A port decodes a cycle record, checks its flits and writes them to the receive buffer and dispatches its control block. -/
  | garletRecord (port : Nat) (rec : BitVec 2000) (uncorr : Bool) (corrected : Nat)
  /-- PORT_RELEASE (R439). A port schedule entry releases buffered flits into router port 18, or a missing flit is a late arrival. -/
  | portRelease (port : Nat)
  /-- PORT_DONE (R443). A port reaches its end-of-frame point once every entry has released and its transmit queue is empty. -/
  | portDone (port : Nat)
  /-- HALT_BLOCK (R447). A halt block received before halting raises the HALT and is forwarded on every other port. -/
  | haltBlock (port : Nat) (b : BitVec 128)
  /-- MASK (R448). A MASK link-control block gives the peer's good-lane mask, and both ends recompute the connection mask and width. -/
  | mask (port : Nat) (b : BitVec 128)
  /-- WIDTH (R454). A WIDTH block gives the peer's width, and differing widths return training to MASK. -/
  | width (port : Nat) (b : BitVec 128)
  /-- SWAP (R457). A SWAP block tells the receiver to use the new lane set from the next code group. -/
  | swap (port : Nat) (b : BitVec 128)
  /-- RETRAIN (R451). A RETRAIN block makes the port begin training. -/
  | retrain (port : Nat) (b : BitVec 128)
  /-- LANE_SWAP (R457). At the chosen code-group boundary an end changes its transmit lane set. -/
  | laneSwap (port : Nat)
  /-- GARLET_TRAINING (R451). A port trains through SEARCH, EQUALISE, MASK, WIDTH, QUALIFY and PROBE to READY. -/
  | garletTraining (port : Nat) (e : GarletStep)
  /-- QUALIFY_END (R453). A port's error-rate measurement ends, marking failing lanes bad and passing or returning to MASK. -/
  | qualifyEnd (port : Nat) (badLanes : List Nat) (uncorr : Bool) (symErrs : List Nat)
  /-- GPORT_RETRAIN_CMD (R451). A write of 1 to GPORT.TRAIN_CMD.RETRAIN starts training and sends RETRAIN. -/
  | gportRetrainCmd (port : Nat)
  /-- ZELERI_GROUP (R468). A Zeleri group is received, checked by CRC and sequence, accepted or discarded, and its ACK, NAK and CREDIT acted on. -/
  | zeleriGroup (data : List (BitVec 256)) (ctrl : BitVec 256) (arr : Nat)
  /-- UNACK_RESEND (R469). Groups unacknowledged for 800 cc without a NAK are resent. -/
  | unackResend
  /-- LINK_FAIL (R471). A retry episode that outlasts the budget fails the link, which stops and retrains. -/
  | linkFail
  /-- TRANSACTION_ADMIT (R474). A host transaction held at the link is admitted into hub router port 9 in a SERVICE or stretch slot. -/
  | transactionAdmit
  /-- MRD (R473). MRD reads memory from ADDR and returns data with end-to-end checks. -/
  | mrd (tag len addr : Nat)
  /-- MWR (R473). MWR writes memory, or performs an adder operation, after verifying end-to-end checks. -/
  | mwr (tag aop addr : Nat) (data : List (BitVec 256)) (checks : List Word)
  /-- RRD (R473). RRD reads a facet register. -/
  | rrd (tag addr : Nat)
  /-- RWR (R473). RWR writes a facet register. -/
  | rwr (tag addr : Nat) (data : Word)
  /-- MBX (R481). MBX writes one whole packet into an inbound mailbox queue. -/
  | mbx (tag q : Nat) (odd : Bool) (source : Word) (data : List (BitVec 256)) (checks : List Word)
  /-- MBR (R481). MBR returns the next whole packet of an outbound mailbox queue. -/
  | mbr (tag len q : Nat)
  /-- EVT (R473). EVT sends a notice to a target line. -/
  | evt (tag cls : Nat) (data : Word)
  /-- TELEM (R514). TELEM passes a rack telemetry item to the sensor aggregator. -/
  | telem (item : Nat) (value : Word)
  /-- CPL (R473). A completion from the host ends a device-initiated HRD or HWR. -/
  | cpl (tag status : Nat) (data : List (BitVec 256)) (checks : List Word)
  /-- HOST_HALT (R477). A halt block from the host raises the root HALT. -/
  | hostHalt (b : BitVec 128)
  /-- ZELERI_TRAINING (R483). The Zeleri link trains through SEARCH, EQUALISE and QUALIFY to READY at x16 or x8. -/
  | zeleriTraining (e : ZeleriStep)
  /-- ZLINK_RETRAIN_CMD (R483). A write of ZLINK.TRAIN_CMD.RETRAIN starts training. -/
  | zlinkRetrainCmd
  /-- SENSOR_READ (R503). Every 125 µs each sensor is read and judged for death, split, thresholds, rate, requests and trips. -/
  | sensorRead (reads : List Int)
  /-- GRACE_EXPIRY (R511). The grace timer expires and the package clamps at the next boundary slot. -/
  | graceExpiry
  /-- THERMAL_TRIP (R515). A governing value at its trip level or a rate trip sends THERM level 3, gates clocks, enters retention hold and Tripped. -/
  | thermalTrip
  /-- TRIP_CLEAR (R517). A write of TRIP_CLEAR after 1 s below warn leaves Tripped by warm bring-up. -/
  | tripClear
  /-- TELEM_STALE (R514). An inlet item older than 1 s sets TELEM_STALE and T_in becomes 45 °C. -/
  | telemStale
  /-- LOW_FLOW (R514). Flow below 80 % of RATED_FLOW for 1 s raises the low-flow request, which clears after 1 s above. -/
  | lowFlow
  /-- POWER_WINDOW (R520). Each 1 ms window the power estimate E is formed and checked against the peak and ramp limits. -/
  | powerWindow
  /-- PMBUS_POLL (R494). Every 10 ms the PMBus master reads each rail's voltage, current and status. -/
  | pmbusPoll (reads : List RailRead)
  /-- BACKUP_SWITCHOVER (R496). A main path below 95 % for 1 µs is disconnected and the rail carried by its backup. -/
  | backupSwitchover (rail : Nat)
  /-- MAIN_RETURN (R497). A rail on backup returns to main after 100 ms of good main supply. -/
  | mainReturn (rail : Nat)
  /-- RAIL_LOST (R498). Loss of both paths of a rail ends operation or loses a quadrant's DRAM contents. -/
  | railLost (rail : Nat)
  /-- RETENTION_ENTRY (R499). A core rail undervoltage puts every stack into retention hold with DRAM in self-refresh. -/
  | retentionEntry (rail : Nat)
  /-- SELF_REFRESH_REACHED (R502). Every column in self-refresh sets RETAINED and, at a trip or activation, raises RAIL_REQ_0. -/
  | selfRefreshReached
  /-- PLATE_MINUTE (R525). Each minute in Ready or Run is counted, and a wear record is written every 60 minutes or at life thresholds. -/
  | plateMinute (writeOk : Bool)
  /-- SWING_JUDGEMENT (R525). Once per second the thermal swing counter is judged on the 1 s mean hot-spot value. -/
  | swingJudgement
  /-- UCAL_VAL (R530). A write of UCAL_VAL stores a clamped user calibration offset at the selected index. -/
  | ucalVal (value : Int)
  /-- PERST_RISE (R537). PERST_N going high with VAUX present samples the straps and starts a cold bring-up. -/
  | perstRise (addrStraps : Nat) (factory : Bool)
  /-- BRING_UP (R539). A bring-up runs its steps from aux through test and qualification to publish the Gnomon and enter Ready or Aux. -/
  | bringUp (i : BringUpIn)
  /-- WARM_BRING_UP (R541). After the cause of Hold clears, the always-on island starts a bring-up, warm if RETAINED is set. -/
  | warmBringUp
  /-- PACKAGE_RESET (R624). PERST_N low for 25 samples resets the package to Off. -/
  | packageReset
  /-- CONTROL_RESET (R49). A write of 1 to CONTROL.RESET resets the block's state other than LOCK. -/
  | controlReset (blk : Nat)
  /-- CONTROL_FENCE (R578). A write of 1 to CONTROL.FENCE fences the block at once, a frame fault while running. -/
  | controlFence (blk : Nat)
  /-- CONTROL_ENABLE (R51). A write to CONTROL.ENABLE lets the block run, at once or at the next boundary slot. -/
  | controlEnable (blk : Nat) (value : Bool)
  /-- LOCK (R55). A write of 1 to LOCK freezes every RWL field of the facet until reset. -/
  | lock (blk : Nat)
  /-- FLIP_ARM (R274). Setting FLIP.ARM makes the column invert the enabled bits of its next granule written. -/
  | flipArm (col : Nat)
  /-- FAULT_INFO_CLEAR (R573). Clearing FAULT_INFO.VALID re-arms the fault record and releases HALT_N and FAULT_OUT. -/
  | faultInfoClear
  /-- REGISTER_WRITE (R8). A write to a facet register with no row of its own updates the fields by their access codes. -/
  | registerWrite (who : Requester) (addr : Nat) (value : Word)
  /-- STAGE (R597). FL_CMD STAGE starts copying an image into the unit's staged flash slot. -/
  | stage (unit : Nat)
  /-- STAGE_COMPLETE (R597). The flash controller finishes a stage and reports its code. -/
  | stageComplete (verifyError : Bool)
  /-- ARM (R598). FL_CMD ARM arms a firmware activation at ACT_FRAME. -/
  | arm
  /-- DISARM (R598). FL_CMD DISARM disarms the activation. -/
  | disarm
  /-- ACTIVATION (R599). At ACT_FRAME the package writes held records, marks staged slots and warm-restarts, or cancels. -/
  | activation
  /-- HEALTH (R601). A trial image writes its HEALTH word, its slot becomes active and the rollback floor rises. -/
  | health (who : Requester) (proc : Nat) (word : Word)
  /-- HEALTH_TIMEOUT (R601). An unconfirmed trial image after 30 s restarts its processor from the previous slot. -/
  | healthTimeout (proc : Nat)
  /-- WATCHDOG_EXPIRY (R605). A processor watchdog expires and the processor restarts, raising cause 0x33 while running. -/
  | watchdogExpiry (proc : Nat)
  /-- WDOG_KICK (R605). A write to WDOG_KICK restarts the watchdog. -/
  | wdogKick (proc : Nat)
  /-- HELD_WRITE (R596). A held flash record or fuse blow is written once the hub temperature returns to the flash write range. -/
  | heldWrite
  /-- RECOVERY_STATUS (R604). A recovery STATUS request reports which units lack a valid image. -/
  | recoveryStatus
  /-- RECOVERY_LOAD (R604). A recovery LOAD verifies an image from SLM and writes it to flash. -/
  | recoveryLoad (flashError : Bool)
  /-- RECOVERY_RESTART (R604). A recovery RESTART begins bring-up at step 1. -/
  | recoveryRestart
  /-- ATT_EVIDENCE (R609). ATT_CMD 1 writes a signed evidence record over the nonce. -/
  | attEvidence
  /-- ATT_CERTIFICATES (R609). ATT_CMD 2 copies the certificate chain to ATT_ADDR. -/
  | attCertificates
  /-- ATT_PUBLIC_KEY (R609). ATT_CMD 3 copies the public key to ATT_ADDR. -/
  | attPublicKey
  /-- I2C_OFFSET_WRITE (R630). A one-byte I2C write sets the status block read offset. -/
  | i2cOffsetWrite (byte : Byte)
  /-- I2C_READ (R630). An I2C read snapshots the status block at START and returns consecutive bytes. -/
  | i2cRead (count : Nat)
  /-- I2C_BLOCK_REFRESH (R630). Every 10 ms the I2C status block is refreshed. -/
  | i2cBlockRefresh
  /-- JTAG_INSTRUCTION (R632). A JTAG instruction acts as defined while PERST_N is low, otherwise as BYPASS. -/
  | jtagInstruction (code : Nat)
  /-- D2D_QUALIFICATION_END (R543). After a partial reset, an end's 849 ms die-to-die lane test ends, and the end forms its mask and sends the retrain marker or its reply. -/
  | d2dQualificationEnd (e ownMask : Nat)
  /-- PEER_STREAM_STOP (R457). A port whose peer's coded stream stops, for example because the peer port was fenced, reports DOWN and enters SEARCH. -/
  | peerStreamStop (port : Nat)
  /-- ATTESTATION_COMPLETE (R609). An attestation command finishes writing its result, sets ATT_LEN and CODE and clears BUSY. -/
  | attestationComplete
  /-- PROCESSOR_MEMORY_UNCORR (R605). An uncorrectable word in a control processor's memory restarts that processor from its active image, raising cause 0x33 while a program runs. -/
  | processorMemoryUncorr (proc : Nat)
deriving DecidableEq, Repr

end Sys2Proof
end

