-- ==== Sys2Proof/Decode.lean ====
section
/-! DEFINITION. The decoder of command words, which the table of operations does not use, and of the
program words that the sequencers hold: tile operations (R132-R138) and V-core instructions (R197-R199),
with the words of each.
A word whose opcode, function code or KIND is reserved, or whose reserved fields are not zero, decodes
to nothing: the section is refused at load (R139, R212). -/

namespace Sys2Proof

/-- The command a word of the table spells: the table of operations gives no row any bits. -/
def decodeTableWord (_nbits _w : Nat) : Option Instr := none

/-- The value when the condition holds. -/
def keepIf {α : Type} (c : Bool) (v : α) : Option α := if c then some v else none

/-- A tile operation word (R132-R138). -/
def decodeTile (w : Nat) : Option TileOp :=
  let f := fieldOf w
  match f 63 58 with
  | 0x00 => keepIf (f 57 0 == 0) .nop
  | 0x01 => some (.mac ⟨f 57 57, f 56 56, f 55 52, f 51 48, f 47 47, f 46 43, f 42 36, f 35 34, f 33 25, f 24 14, f 13 11, f 10 0⟩)
  | 0x02 => keepIf (f 29 0 == 0) (.lda ⟨f 57 56, f 55 55, f 54 51, f 50 46, f 45 43, f 42 30⟩)
  | 0x03 => some (.fin ⟨f 57 49, f 48 41, f 40 37, f 36 33, f 32 32, f 31 31, f 30 30, f 29 28, f 27 25, f 24 12, f 11 9, f 8 0⟩)
  | 0x04 => keepIf (f 39 0 == 0) (.clr (f 57 49) (f 48 40))
  | 0x05 => keepIf (f 39 0 == 0) (.wait (f 57 46) (f 45 40))
  | 0x06 => keepIf (f 33 0 == 0 && decide (f 57 55 ≤ 3)) (.sync (f 57 55) (f 54 39) (f 38 34))
  | 0x07 => keepIf (f 33 0 == 0) (.loop (f 57 46) (f 45 34))
  | 0x08 => keepIf (f 22 0 == 0) (.setb (f 57 55) (f 54 39) (f 38 35) (f 34 23))
  | 0x09 => keepIf (f 38 0 == 0) (.addb (f 57 55) (signedOf 16 (f 54 39)))
  | 0x0A => keepIf (f 25 0 == 0) (.brf (f 57 54) (f 53 38) (f 37 26))
  | 0x0B => keepIf (f 41 0 == 0) (.fill (f 57 46) (f 45 42))
  | 0x0C => keepIf (f 57 0 == 0) .endFrame
  | _ => none

/-- Types that VINT allows (R198). -/
def intType (t : Nat) : Bool := t == 0 || t == 1 || t == 2 || t == 7
/-- Types that VFLT allows. -/
def fltType (t : Nat) : Bool := 3 ≤ t && t ≤ 6

/-- A V-core instruction word (R197-R199). Where a format has a field that the instruction does not use
and the manual does not show as zero, the field is not looked at. -/
def decodeVec (w : Nat) : Option VInstr :=
  let f := fieldOf w
  match f 31 26 with
  | 0x00 => keepIf (f 25 0 == 0) .nop
  | 0x01 => keepIf (f 10 6 == 0 && decide (f 5 0 ≤ 19)) (.sop (f 25 21) (f 20 16) (f 15 11) (f 5 0))
  | 0x02 => some (.saddi (f 25 21) (f 20 16) (signedOf 16 (f 15 0)))
  | 0x03 => keepIf (f 20 18 == 0) (.smovk (f 25 21) (f 17 16) (f 15 0))
  | 0x04 => some (.sld (f 25 21) (f 20 16) (signedOf 16 (f 15 0)))
  | 0x05 => some (.sst (f 25 21) (f 20 16) (signedOf 16 (f 15 0)))
  | 0x06 => some (.beq (f 25 21) (f 20 16) (signedOf 16 (f 15 0)))
  | 0x07 => some (.bne (f 25 21) (f 20 16) (signedOf 16 (f 15 0)))
  | 0x08 => some (.blt (f 25 21) (f 20 16) (signedOf 16 (f 15 0)))
  | 0x09 => some (.jmp (signedOf 26 (f 25 0)))
  | 0x0A => keepIf (f 20 16 == 0 && decide (f 15 0 ≤ 6)) (.csrr (f 25 21) (f 15 0))
  | 0x0B => keepIf (f 7 0 == 0) (.waits (f 25 14) (f 13 8))
  | 0x0C => keepIf (f 1 0 == 0 && decide (f 25 23 ≤ 3)) (.sync (f 25 23) (f 17 2) (f 22 18))
  | 0x0D => keepIf (f 13 0 == 0 && f 20 17 != 0) (.tblw (f 25 21) (f 20 17) (f 16 14))
  | 0x0E => some (.rld (f 25 21) (f 20 16))
  | 0x0F => some (.rst (f 25 21) (f 20 16))
  | 0x10 => keepIf (f 25 0 == 0) .endFrame
  | 0x11 => keepIf (f 16 10 == 0) (.vld (f 25 22) (f 21 17) (signedOf 10 (f 9 0)))
  | 0x12 => keepIf (f 16 10 == 0) (.vst (f 25 22) (f 21 17) (signedOf 10 (f 9 0)))
  | 0x13 => keepIf (f 9 0 == 0) (.vgather (f 25 22) (f 21 17) (f 16 13) (f 12 10))
  | 0x14 => keepIf (f 9 0 == 0) (.vscatter (f 25 22) (f 21 17) (f 16 13) (f 12 10))
  | 0x15 => keepIf (intType (f 13 11) && decide (f 5 0 ≤ 12)) (.vint (f 25 22) (f 21 18) (f 17 14) (f 13 11) (f 5 0))
  | 0x16 => keepIf (fltType (f 13 11) && decide (f 5 0 ≤ 11) && (decide (f 5 0 ≤ 9) || f 13 11 == 4))
      (.vflt (f 25 22) (f 21 18) (f 17 14) (f 13 11) (f 5 0))
  | 0x17 => some (.vsel (f 25 22) (f 21 18) (f 17 14) (f 13 11))
  | 0x18 => keepIf (f 16 14 == 0 && f 10 0 == 0) (.vbcast (f 25 22) (f 21 17) (f 13 11))
  | 0x19 => keepIf (f 13 6 == 0 && decide (f 5 0 ≤ 2) && f 16 14 != 5 && f 16 14 != 6)
      (.vred (f 25 21) (f 20 17) (f 16 14) (f 5 0))
  | 0x1A => some (.vcvt (f 25 22) (f 21 18) (f 16 14) (f 13 11) (f 10 6))
  | 0x1B => some (.vperm (f 25 22) (f 21 18) (f 17 14) (f 13 11))
  | 0x1C => keepIf ((f 13 11 == 2 || f 13 11 == 4) && f 25 22 % 2 == 0) (.vsort (f 25 22) (f 21 18) (f 17 14) (f 13 11))
  | 0x1D => keepIf ((f 13 11 == 2 || f 13 11 == 4) && f 25 22 % 2 == 0) (.vtopk (f 25 22) (f 21 18) (f 17 14) (f 13 11))
  | 0x1E => keepIf (f 6 0 == 0) (.vrng (f 25 22) (f 21 17) (f 16 12) (f 11 7))
  | _ => none

/-! ## Encoders -/

/-- The word of a tile operation (R132-R138). -/
def encodeTile (o : TileOp) : Nat :=
  match o with
  | .nop => 0
  | .mac o =>
    0x01 * 2 ^ 58 + o.mode * 2 ^ 57 + o.wsrc * 2 ^ 56 + o.wfmt * 2 ^ 52 + o.afmt * 2 ^ 48 + o.acc * 2 ^ 47 + o.rumask * 2 ^ 43
      + o.arow * 2 ^ 36 + o.areg * 2 ^ 34 + o.aoff * 2 ^ 25 + o.steps * 2 ^ 14 + o.wbase * 2 ^ 11 + o.woff
  | .lda o => 0x02 * 2 ^ 58 + o.areg * 2 ^ 56 + o.side * 2 ^ 55 + o.dline * 2 ^ 51 + o.lines * 2 ^ 46 + o.base * 2 ^ 43 + o.off * 2 ^ 30
  | .fin o =>
    0x03 * 2 ^ 58 + o.arow * 2 ^ 49 + o.rows * 2 ^ 41 + o.ofmt * 2 ^ 37 + o.func * 2 ^ 33 + o.sat * 2 ^ 32 + o.scaleEn * 2 ^ 31 + o.smx * 2 ^ 30
      + o.dest * 2 ^ 28 + o.dbase * 2 ^ 25 + o.doff * 2 ^ 12 + o.sbbase * 2 ^ 9 + o.sboff
  | .clr row rows => 0x04 * 2 ^ 58 + row * 2 ^ 49 + rows * 2 ^ 40
  | .wait slot cc => 0x05 * 2 ^ 58 + slot * 2 ^ 46 + cc * 2 ^ 40
  | .sync kind target line => 0x06 * 2 ^ 58 + kind * 2 ^ 55 + target * 2 ^ 39 + line * 2 ^ 34
  | .loop count len => 0x07 * 2 ^ 58 + count * 2 ^ 46 + len * 2 ^ 34
  | .setb reg imm plog stride => 0x08 * 2 ^ 58 + reg * 2 ^ 55 + imm * 2 ^ 39 + plog * 2 ^ 35 + stride * 2 ^ 23
  | .addb reg imm => 0x09 * 2 ^ 58 + reg * 2 ^ 55 + unsignedOf 16 imm * 2 ^ 39
  | .brf plog value skip => 0x0A * 2 ^ 58 + plog * 2 ^ 54 + value * 2 ^ 38 + skip * 2 ^ 26
  | .fill count rumask => 0x0B * 2 ^ 58 + count * 2 ^ 46 + rumask * 2 ^ 42
  | .endFrame => 0x0C * 2 ^ 58

/-- The word of a V-core instruction (R197-R199), with zero in every field that it does not use. -/
def encodeVec (i : VInstr) : Nat :=
  match i with
  | .nop => 0
  | .sop sd sa sb fn => 0x01 * 2 ^ 26 + sd * 2 ^ 21 + sa * 2 ^ 16 + sb * 2 ^ 11 + fn
  | .saddi sd sa imm => 0x02 * 2 ^ 26 + sd * 2 ^ 21 + sa * 2 ^ 16 + unsignedOf 16 imm
  | .smovk sd q imm => 0x03 * 2 ^ 26 + sd * 2 ^ 21 + q * 2 ^ 16 + imm
  | .sld sd sa imm => 0x04 * 2 ^ 26 + sd * 2 ^ 21 + sa * 2 ^ 16 + unsignedOf 16 imm
  | .sst sd sa imm => 0x05 * 2 ^ 26 + sd * 2 ^ 21 + sa * 2 ^ 16 + unsignedOf 16 imm
  | .beq sa sb off => 0x06 * 2 ^ 26 + sa * 2 ^ 21 + sb * 2 ^ 16 + unsignedOf 16 off
  | .bne sa sb off => 0x07 * 2 ^ 26 + sa * 2 ^ 21 + sb * 2 ^ 16 + unsignedOf 16 off
  | .blt sa sb off => 0x08 * 2 ^ 26 + sa * 2 ^ 21 + sb * 2 ^ 16 + unsignedOf 16 off
  | .jmp off => 0x09 * 2 ^ 26 + unsignedOf 26 off
  | .csrr sd idx => 0x0A * 2 ^ 26 + sd * 2 ^ 21 + idx
  | .waits slot cc => 0x0B * 2 ^ 26 + slot * 2 ^ 14 + cc * 2 ^ 8
  | .sync kind target line => 0x0C * 2 ^ 26 + kind * 2 ^ 23 + line * 2 ^ 18 + target * 2 ^ 2
  | .tblw sa mcmask u => 0x0D * 2 ^ 26 + sa * 2 ^ 21 + mcmask * 2 ^ 17 + u * 2 ^ 14
  | .rld sa sb => 0x0E * 2 ^ 26 + sa * 2 ^ 21 + sb * 2 ^ 16
  | .rst sa sb => 0x0F * 2 ^ 26 + sa * 2 ^ 21 + sb * 2 ^ 16
  | .endFrame => 0x10 * 2 ^ 26
  | .vld vd sa off => 0x11 * 2 ^ 26 + vd * 2 ^ 22 + sa * 2 ^ 17 + unsignedOf 10 off
  | .vst vd sa off => 0x12 * 2 ^ 26 + vd * 2 ^ 22 + sa * 2 ^ 17 + unsignedOf 10 off
  | .vgather vd sa vb t => 0x13 * 2 ^ 26 + vd * 2 ^ 22 + sa * 2 ^ 17 + vb * 2 ^ 13 + t * 2 ^ 10
  | .vscatter vd sa vb t => 0x14 * 2 ^ 26 + vd * 2 ^ 22 + sa * 2 ^ 17 + vb * 2 ^ 13 + t * 2 ^ 10
  | .vint vd va vb t fn => 0x15 * 2 ^ 26 + vd * 2 ^ 22 + va * 2 ^ 18 + vb * 2 ^ 14 + t * 2 ^ 11 + fn
  | .vflt vd va vb t fn => 0x16 * 2 ^ 26 + vd * 2 ^ 22 + va * 2 ^ 18 + vb * 2 ^ 14 + t * 2 ^ 11 + fn
  | .vsel vd va vb t => 0x17 * 2 ^ 26 + vd * 2 ^ 22 + va * 2 ^ 18 + vb * 2 ^ 14 + t * 2 ^ 11
  | .vbcast vd sa t => 0x18 * 2 ^ 26 + vd * 2 ^ 22 + sa * 2 ^ 17 + t * 2 ^ 11
  | .vred sd va t fn => 0x19 * 2 ^ 26 + sd * 2 ^ 21 + va * 2 ^ 17 + t * 2 ^ 14 + fn
  | .vcvt vd va src t mod => 0x1A * 2 ^ 26 + vd * 2 ^ 22 + va * 2 ^ 18 + src * 2 ^ 14 + t * 2 ^ 11 + mod * 2 ^ 6
  | .vperm vd va vb t => 0x1B * 2 ^ 26 + vd * 2 ^ 22 + va * 2 ^ 18 + vb * 2 ^ 14 + t * 2 ^ 11
  | .vsort vd va vb t => 0x1C * 2 ^ 26 + vd * 2 ^ 22 + va * 2 ^ 18 + vb * 2 ^ 14 + t * 2 ^ 11
  | .vtopk vd va vb t => 0x1D * 2 ^ 26 + vd * 2 ^ 22 + va * 2 ^ 18 + vb * 2 ^ 14 + t * 2 ^ 11
  | .vrng vd sa sb sc => 0x1E * 2 ^ 26 + vd * 2 ^ 22 + sa * 2 ^ 17 + sb * 2 ^ 12 + sc * 2 ^ 7

end Sys2Proof
end

