-- ==== Sys2Proof/Config.lean ====
section
/-! DEFINITION. Values the manual leaves open, or takes from a standard it only names: each is an
uninterpreted constant, so no proof can see what it is. Where one differs from step to step it is
applied to the counter State.freeCtr, which the step advances. -/

namespace Sys2Proof.Config

/-- The first 64 pairs of the merge that VTOPK performs on inputs that are not ordered
("deterministic but unspecified", R202), as a function of the four source registers. -/
opaque vtopkUnordered (vd vd1 va vb : BitVec 2048) : BitVec 2048 × BitVec 2048

/-- The bits a data image, a mover or a read finds where the manual fixes none, one draw per value
of State.freeCtr (log entry 5). -/
opaque freeBits (ctr w : Nat) : Nat

/-- The two 64-byte firmware public keys in the boot ROM (R594): the manual gives no byte of them. -/
opaque firmwareKey (key : Nat) : List (BitVec 8)

/-- The DER-encoded certificate chain in flash (R607): the manual gives no byte of it. -/
opaque certChain : List (BitVec 8)

/-- The 256-bit identity seed in fuses, readable only by the security engine (R607). -/
opaque identitySeed : BitVec 256

/-- The fused VCORE set point of stack s (R489, R529), in mV above the 600 of its range; `fusedMv` keeps it in the range. -/
opaque fusedStep (stack : Nat) : Nat

/-- The fused VCORE set point of stack s: 600 to 850 mV (R489). -/
def fusedMv (stack : Nat) : Nat := 600 + fusedStep stack % 251

/-- The wear of a plate, the readings of a rail and the like are operands of the commands; what is
here is fixed per part: the PMBus address of a rail (R493, R532). -/
opaque railAddr (rail : Nat) : Nat

/-- BLOCK_REV of the blocks of a type (R40): the manual gives no value. -/
opaque blockRev (ty : Nat) : Nat

/-- The 256-byte header of the image that the factory put in flash for a firmware unit (R593): the manual
gives no byte of it. -/
opaque factoryHeader (unit : Nat) : List (BitVec 8)

/-- Life in thousandths of a plate whose rated hours or cycles are zero or not known (R525, R528). -/
opaque unratedLife (minutes swings : Nat) : Nat

end Sys2Proof.Config
end

