-- ==== Sys2Proof/Machine/Codes.lean ====
section
/-! DEFINITION. Check codes: the CRC-8 of R636, the CRC-32 of R36 and R90 (IEEE 802.3), the CRC-64 of
R588, the lattice code of R255 and R256, and SHAKE256 (R90, R448, R593, R607). -/

namespace Sys2Proof.Machine

/-! ## CRC -/

/-- One bit into a CRC register of `w` bits, most significant first. -/
def crcBit (w poly : Nat) (c : Nat) (b : Bool) : Nat :=
  let c' := c * 2 % 2 ^ w
  if c.testBit (w - 1) != b then c' ^^^ poly else c'

/-- Bits [hi:lo] of a number, most significant first. -/
def bitsDown (x hi lo : Nat) : List Bool := (List.range (hi + 1 - lo)).map (fun i => x.testBit (hi - i))

/-- CRC-8 over bits [hi:lo] of a field (R636). -/
def crc8 (x hi lo : Nat) : Nat := (bitsDown x hi lo).foldl (crcBit 8 0x07) 0

/-- One byte into the reflected CRC-32 register. -/
def crc32Byte (poly : Nat) (c : Nat) (b : Byte) : Nat :=
  (List.range 8).foldl (fun c _ => if c % 2 = 1 then (c / 2) ^^^ poly else c / 2) (c ^^^ b.toNat)

/-- CRC-32 with the IEEE 802.3 polynomial. -/
def crc32 (l : List Byte) : Nat := (l.foldl (crc32Byte 0xEDB88320) 0xFFFFFFFF) ^^^ 0xFFFFFFFF

/-- CRC-32C (Castagnoli). -/
def crc32c (l : List Byte) : Nat := (l.foldl (crc32Byte 0x82F63B78) 0xFFFFFFFF) ^^^ 0xFFFFFFFF

/-- Bytes into the CRC-64 register of R588: no reflection, no final XOR. -/
def crc64 (u : Nat) (l : List Byte) : Nat :=
  l.foldl (fun c b => (bitsDown b.toNat 7 0).foldl (crcBit 64 0x42F0E1EBA9EA3693) c) u

/-! ## The lattice code -/

/-- XOR of the bits of a list. -/
def xorAll (l : List Bool) : Bool := l.foldl (fun a b => a != b) false

/-- ROWPAR of R255: bit r is the XOR of the 16 data bits of row r. -/
def rowPar (d : Nat) : Nat :=
  ((List.range 16).map (fun r => b2n (xorAll ((List.range 16).map (fun c => d.testBit (16 * r + c)))) * 2 ^ r)).sum

/-- COLPAR of R255: bit c is the XOR of the 16 data bits of column c. -/
def colPar (d : Nat) : Nat :=
  ((List.range 16).map (fun c => b2n (xorAll ((List.range 16).map (fun r => d.testBit (16 * r + c)))) * 2 ^ c)).sum

/-- The 32 check bits of a granule, COLPAR above ROWPAR. -/
def latticeCheck (d : Nat) : Nat := colPar d * 65536 + rowPar d

/-- Classes of R256. -/
inductive LClass where
  | clean
  | dataBit (bit : Nat)
  | checkBit (bit : Nat)
  | uncorr
deriving DecidableEq, Repr

/-- Positions of the set bits among the low 16. -/
def setBits (x : Nat) : List Nat := (List.range 16).filter (fun i => x.testBit i)

/-- The checker's decision from SR and SC alone (R256). -/
def latticeClass (sr sc : Nat) : LClass :=
  match setBits sr, setBits sc with
  | [], [] => .clean
  | [r], [c] => .dataBit (16 * r + c)
  | [r], [] => .checkBit (256 + r)
  | [], [c] => .checkBit (272 + c)
  | _, _ => .uncorr

/-- Data a checker returns: a data-bit class has its bit inverted. -/
def latticeFix (d : Nat) (c : LClass) : Nat :=
  match c with
  | .dataBit k => d ^^^ 2 ^ k
  | _ => d

/-! ## SHAKE256 -/

/-- Rotation offsets of Keccak, lane x + 5y. -/
def keccakRot : List Nat :=
  [0, 1, 62, 28, 27, 36, 44, 6, 55, 20, 3, 10, 43, 25, 39, 41, 45, 15, 21, 8, 18, 2, 61, 56, 14]

/-- Round constants of Keccak-f[1600]. -/
def keccakRc : List Nat :=
  [0x0000000000000001, 0x0000000000008082, 0x800000000000808A, 0x8000000080008000,
   0x000000000000808B, 0x0000000080000001, 0x8000000080008081, 0x8000000000008009,
   0x000000000000008A, 0x0000000000000088, 0x0000000080008009, 0x000000008000000A] ++
  [0x000000008000808B, 0x800000000000008B, 0x8000000000008089, 0x8000000000008003,
   0x8000000000008002, 0x8000000000000080, 0x000000000000800A, 0x800000008000000A,
   0x8000000080008081, 0x8000000000008080, 0x0000000080000001, 0x8000000080008008]

/-- Rotate a 64-bit lane left. -/
def rotl64 (x k : Nat) : Nat := ((x <<< k) % 2 ^ 64) ||| (x >>> (64 - k))

/-- One round of Keccak-f[1600] on 25 lanes. -/
def keccakRound (a : List Nat) (rc : Nat) : List Nat :=
  let c := (List.range 5).map (fun x => nth a x ^^^ nth a (x + 5) ^^^ nth a (x + 10) ^^^ nth a (x + 15) ^^^ nth a (x + 20))
  let d := (List.range 5).map (fun x => nth c ((x + 4) % 5) ^^^ rotl64 (nth c ((x + 1) % 5)) 1)
  let t := (List.range 25).map (fun i => rotl64 (nth a i ^^^ nth d (i % 5)) (nth keccakRot i))
  -- lane (y, 2x + 3y) of the result takes lane (x, y): lane (u, v) comes from x = u + 3v, y = u
  let b := (List.range 25).map (fun i => nth t ((i % 5 + 3 * (i / 5)) % 5 + 5 * (i % 5)))
  let e := (List.range 25).map (fun i =>
    nth b i ^^^ ((2 ^ 64 - 1 - nth b ((i % 5 + 1) % 5 + 5 * (i / 5))) &&& nth b ((i % 5 + 2) % 5 + 5 * (i / 5))))
  (nth e 0 ^^^ rc) :: e.drop 1

/-- Keccak-f[1600]. -/
def keccakF (a : List Nat) : List Nat := keccakRc.foldl keccakRound a

/-- XOR a block of 136 bytes into the state. -/
def keccakAbsorb (a : List Nat) (blkBytes : List Byte) : List Nat :=
  (List.range 25).map (fun i => nth a i ^^^ (if i < 17 then leNat ((blkBytes.drop (8 * i)).take 8) else 0))

/-- The message padded for SHAKE256: suffix 1111, then 10*1. -/
def shakePad (m : List Byte) : List Byte :=
  let k := 136 - m.length % 136
  m ++ (if k = 1 then [0x9F] else (0x1F : Byte) :: (List.replicate (k - 2) 0 ++ [0x80]))

/-- Absorb `fuel` blocks. -/
def shakeAbsorb : Nat → List Byte → List Nat → List Nat
  | 0, _, a => a
  | n + 1, m, a => shakeAbsorb n (m.drop 136) (keccakF (keccakAbsorb a (m.take 136)))

/-- Squeeze `fuel` blocks. -/
def shakeSqueeze : Nat → List Nat → List Byte
  | 0, _ => []
  | n + 1, a => ((a.take 17).map (leBytes 8)).flatten ++ shakeSqueeze n (keccakF a)

/-- SHAKE256 of a message, `n` bytes (FIPS 202; PRESUMED, log entry 83). -/
def shake256 (m : List Byte) (n : Nat) : List Byte :=
  let p := shakePad m
  (shakeSqueeze (ceilDiv n 136) (shakeAbsorb (p.length / 136) p (List.replicate 25 0))).take n

end Sys2Proof.Machine
end

