-- ==== Sys2Proof/Machine/Regs.lean ====
section
/-! DEFINITION. The facet registers of every block type: which bits a write may set, clear or act
on (the access codes of R8) and the reset value, from the register tables of the manual (R47-R52,
R106, R107, R150, R151, R214, R252-R254, R278-R280, R301, R302, R335-R337, R364, R365, R394, R428,
R429, R463, R464, R488, R533-R535, R573, R590, R610-R612, R635, R639); the offsets and the bits of
ERR_SUMMARY by name. -/

namespace Sys2Proof.Machine

/-- One facet register: its offset, a mask for each access code of R8 that a write obeys, and its
reset value. Bits in no mask are read-only or reserved: a write leaves them (R9, R59). -/
structure RegDef where
  off : Nat
  rw : Nat
  rwl : Nat
  w1c : Nat
  w1s : Nat
  wo : Nat
  reset : Nat
deriving DecidableEq, Repr

/-- HUB: no register after the common header. -/
def regsHUB : List RegDef := []

/-- HUB: the block error bits of ERR_SUMMARY [31:16]. -/
def errMaskHUB : Nat := 0x0

/-- STACK: no register after the common header. -/
def regsSTACK : List RegDef := []

/-- STACK: the block error bits of ERR_SUMMARY [31:16]. -/
def errMaskSTACK : Nat := 0x0

/-- MCORE: the registers after the common header. -/
def regsMCORE : List RegDef := [
  ⟨0x040, 0x0, 0x0, 0x0, 0x0, 0x0, 0x0⟩,  -- MC_STATUS
  ⟨0x044, 0x0, 0x0, 0x0, 0x0, 0x0, 0x0⟩,  -- HAZARD
  ⟨0x048, 0x0, 0x0, 0x0, 0x0, 0x0, 0x0⟩,  -- HAZARD_PC
  ⟨0x04C, 0x0, 0x0, 0x0, 0x0, 0x0, 0x0⟩,  -- ACTIVITY
  ⟨0x050, 0x0, 0x0, 0x0, 0x0, 0x0, 0x0⟩,  -- GATE
  ⟨0x054, 0x0, 0x0, 0x0, 0x0, 0x0, 0x0⟩,  -- LANE_MAP_0
  ⟨0x058, 0x0, 0x0, 0x0, 0x0, 0x0, 0x0⟩,  -- LANE_MAP_1
  ⟨0x05C, 0x0, 0x0, 0x0, 0x0, 0x0, 0x0⟩,  -- LANE_MAP_2
  ⟨0x060, 0x0, 0x0, 0x0, 0x0, 0x0, 0x0⟩,  -- LANE_MAP_3
  ⟨0x064, 0x0, 0x0, 0x0, 0x0, 0x0, 0x0⟩  -- STREAM
  ]

/-- MCORE: the block error bits of ERR_SUMMARY [31:16]. -/
def errMaskMCORE : Nat := 0x1F0000

/-- VCORE: the registers after the common header. -/
def regsVCORE : List RegDef := [
  ⟨0x040, 0x0, 0x0, 0x0, 0x0, 0x0, 0x0⟩,  -- VC_STATUS
  ⟨0x044, 0x0, 0x0, 0x0, 0x0, 0x0, 0x0⟩,  -- FAULT_PC
  ⟨0x048, 0x0, 0x0, 0x0, 0x0, 0x0, 0x0⟩,  -- FAULT_ADDR_LO
  ⟨0x04C, 0x0, 0x0, 0x0, 0x0, 0x0, 0x0⟩  -- FAULT_ADDR_HI
  ]

/-- VCORE: the block error bits of ERR_SUMMARY [31:16]. -/
def errMaskVCORE : Nat := 0x3D0000

/-- ROUTER: the registers after the common header. -/
def regsROUTER : List RegDef := [
  ⟨0x040, 0x0, 0x0, 0x0, 0x0, 0x0, 0x0⟩,  -- RT_STATUS
  ⟨0x044, 0x0, 0x0, 0x0, 0x0, 0x0, 0x0⟩,  -- FENCED_DROPS
  ⟨0x048, 0x0, 0x0, 0x0, 0x0, 0x0, 0x0⟩,  -- FLITS
  ⟨0x04C, 0x0, 0x0, 0x0, 0x0, 0x0, 0x0⟩,  -- UNSCHED
  ⟨0x050, 0x0, 0x0, 0x0, 0x0, 0x0, 0x0⟩,  -- LAST_ERR
  ⟨0x054, 0x0, 0x0, 0x0, 0x0, 0x0, 0x0⟩,  -- LAST_ERR_SEQ
  ⟨0x058, 0x0, 0x0, 0x0, 0x0, 0x0, 0x0⟩  -- PAY_CORR
  ]

/-- ROUTER: the block error bits of ERR_SUMMARY [31:16]. -/
def errMaskROUTER : Nat := 0x1FF0000

/-- SMOVER: the registers after the common header. -/
def regsSMOVER : List RegDef := [
  ⟨0x040, 0x0, 0x0, 0x0, 0x0, 0x0, 0x0⟩,  -- MV_STATUS
  ⟨0x044, 0x0, 0x0, 0x0, 0x0, 0x0, 0x0⟩,  -- FAIL_ADDR_LO
  ⟨0x048, 0x0, 0x0, 0x0, 0x0, 0x0, 0x0⟩,  -- FAIL_ADDR_HI
  ⟨0x04C, 0x0, 0x0, 0x0, 0x0, 0x0, 0x0⟩,  -- FAIL_INFO
  ⟨0x050, 0x0, 0x0, 0x0, 0x0, 0x0, 0x0⟩  -- MOVED
  ]

/-- SMOVER: the block error bits of ERR_SUMMARY [31:16]. -/
def errMaskSMOVER : Nat := 0xF0000

/-- COLCTL: the registers after the common header. -/
def regsCOLCTL : List RegDef := [
  ⟨0x040, 0x0, 0x0, 0x0, 0x0, 0x0, 0x0⟩,  -- CC_STATUS
  ⟨0x044, 0x0, 0x0, 0x0, 0x0, 0x0, 0x80000000⟩,  -- LAYER_0
  ⟨0x048, 0x0, 0x0, 0x0, 0x0, 0x0, 0x80000000⟩,  -- LAYER_1
  ⟨0x04C, 0x0, 0x0, 0x0, 0x0, 0x0, 0x80000000⟩,  -- LAYER_2
  ⟨0x050, 0x0, 0x0, 0x0, 0x0, 0x0, 0x80000000⟩,  -- LAYER_3
  ⟨0x054, 0x0, 0x0, 0x0, 0x0, 0x0, 0x80000000⟩,  -- LAYER_4
  ⟨0x058, 0x0, 0x0, 0x0, 0x0, 0x0, 0x80000000⟩,  -- LAYER_5
  ⟨0x05C, 0x0, 0x0, 0x0, 0x0, 0x0, 0x80000000⟩,  -- LAYER_6
  ⟨0x060, 0x0, 0x0, 0x0, 0x0, 0x0, 0x80000000⟩,  -- LAYER_7
  ⟨0x064, 0xFFFFFF, 0x0, 0x0, 0x0, 0x0, 0x15180⟩,  -- SCRUB_RATE
  ⟨0x068, 0x0, 0x0, 0x0, 0x0, 0x0, 0x0⟩,  -- SLIP
  ⟨0x06C, 0x0, 0x0, 0x0, 0x0, 0x0, 0x0⟩,  -- PORT_Q
  ⟨0x070, 0x0, 0x0, 0x0, 0x0, 0x0, 0x0⟩,  -- ADDER
  ⟨0x074, 0x0, 0x0, 0x0, 0x0, 0x0, 0x0⟩,  -- ECC_CORR
  ⟨0x078, 0x0, 0x0, 0x0, 0x0, 0x0, 0x0⟩,  -- ECC_LAST
  ⟨0x07C, 0x0, 0x0, 0x0, 0x0, 0x0, 0x0⟩,  -- ECC_LAST_BIT
  ⟨0x080, 0x0, 0x0, 0x0, 0x0, 0x0, 0x0⟩,  -- SCRUB_PTR
  ⟨0x084, 0x0, 0x0, 0x0, 0x0, 0x0, 0x0⟩,  -- SCRUB_PASS
  ⟨0x088, 0x0, 0x0, 0x0, 0x0, 0x0, 0x0⟩,  -- REPAIR
  ⟨0x08C, 0x61FF01FF, 0x0, 0x0, 0x80000000, 0x0, 0x0⟩,  -- FLIP
  ⟨0x090, 0x0, 0x0, 0x0, 0x0, 0x0, 0x0⟩,  -- RE_STATUS
  ⟨0x094, 0x0, 0x0, 0x0, 0x0, 0x0, 0x0⟩,  -- RE_ENTRY
  ⟨0x098, 0x0, 0x0, 0x0, 0x0, 0x0, 0x0⟩,  -- RE_QUEUE
  ⟨0x09C, 0x0, 0x0, 0x0, 0x0, 0x0, 0x0⟩,  -- RE_STEPS
  ⟨0x0A0, 0x0, 0x0, 0x0, 0x0, 0x0, 0x0⟩  -- RE_HOT
  ]

/-- COLCTL: the block error bits of ERR_SUMMARY [31:16]. -/
def errMaskCOLCTL : Nat := 0xFF1F0000

/-- D2D: the registers after the common header. -/
def regsD2D : List RegDef := [
  ⟨0x040, 0x0, 0x0, 0x0, 0x0, 0x0, 0x0⟩,  -- D2D_STATUS
  ⟨0x044, 0x0, 0x0, 0x0, 0x0, 0x0, 0x0⟩,  -- MASK_H0
  ⟨0x048, 0x0, 0x0, 0x0, 0x0, 0x0, 0x0⟩,  -- MASK_H1
  ⟨0x04C, 0x0, 0x0, 0x0, 0x0, 0x0, 0x0⟩,  -- PEER_H0
  ⟨0x050, 0x0, 0x0, 0x0, 0x0, 0x0, 0x0⟩,  -- PEER_H1
  ⟨0x054, 0x0, 0x0, 0x0, 0x0, 0x0, 0x0⟩,  -- CORR
  ⟨0x058, 0x0, 0x0, 0x0, 0x0, 0x0, 0x0⟩  -- DISAGREE
  ]

/-- D2D: the block error bits of ERR_SUMMARY [31:16]. -/
def errMaskD2D : Nat := 0xF0000

/-- GPORT: the registers after the common header. -/
def regsGPORT : List RegDef := [
  ⟨0x040, 0x0, 0x0, 0x0, 0x0, 0x0, 0x1F0000⟩,  -- GP_STATUS
  ⟨0x044, 0x0, 0x0, 0x0, 0x0, 0x0, 0x0⟩,  -- PEER_TAG
  ⟨0x048, 0x0, 0x0, 0x0, 0x0, 0x0, 0x0⟩,  -- DELAY
  ⟨0x04C, 0x0, 0x0, 0x0, 0x0, 0x0, 0x0⟩,  -- FEC_CORR
  ⟨0x050, 0x0, 0x0, 0x0, 0x0, 0x0, 0x0⟩,  -- FEC_UNCORR
  ⟨0x054, 0x0, 0x0, 0x0, 0x0, 0x0, 0x0⟩,  -- RX_HELD
  ⟨0x058, 0x0, 0x0, 0x0, 0x0, 0x1, 0x0⟩,  -- TRAIN_CMD
  ⟨0x05C, 0x0, 0x0, 0x0, 0x0, 0x0, 0x0⟩,  -- TRAIN_COUNT
  ⟨0x060, 0x0, 0x0, 0x0, 0x0, 0x0, 0x0⟩,  -- LANE_0
  ⟨0x064, 0x0, 0x0, 0x0, 0x0, 0x0, 0x0⟩,  -- LANE_1
  ⟨0x068, 0x0, 0x0, 0x0, 0x0, 0x0, 0x0⟩,  -- LANE_2
  ⟨0x06C, 0x0, 0x0, 0x0, 0x0, 0x0, 0x0⟩,  -- LANE_3
  ⟨0x070, 0x0, 0x0, 0x0, 0x0, 0x0, 0x0⟩,  -- LANE_4
  ⟨0x074, 0x0, 0x0, 0x0, 0x0, 0x0, 0x0⟩,  -- LANE_5
  ⟨0x078, 0x0, 0x0, 0x0, 0x0, 0x0, 0x0⟩,  -- LANE_6
  ⟨0x07C, 0x0, 0x0, 0x0, 0x0, 0x0, 0x0⟩,  -- LANE_7
  ⟨0x080, 0x0, 0x0, 0x0, 0x0, 0x0, 0x0⟩,  -- LANE_8
  ⟨0x084, 0x0, 0x0, 0x0, 0x0, 0x0, 0x0⟩,  -- CORR
  ⟨0x088, 0x0, 0x0, 0x0, 0x0, 0x0, 0x0⟩  -- DROPS
  ]

/-- GPORT: the block error bits of ERR_SUMMARY [31:16]. -/
def errMaskGPORT : Nat := 0x7FF0000

/-- ZLINK: the registers after the common header. -/
def regsZLINK : List RegDef := [
  ⟨0x040, 0x0, 0x0, 0x0, 0x0, 0x0, 0x0⟩,  -- ZL_STATUS
  ⟨0x044, 0x0, 0x0, 0x0, 0x0, 0x0, 0x0⟩,  -- CRC_ERR
  ⟨0x048, 0x0, 0x0, 0x0, 0x0, 0x0, 0x0⟩,  -- EPISODES
  ⟨0x04C, 0x0, 0x0, 0x0, 0x0, 0x0, 0x0⟩,  -- LINK_FAILS
  ⟨0x050, 0x0, 0x0, 0x0, 0x0, 0x0, 0x0⟩,  -- E2E_FAIL
  ⟨0x054, 0x0, 0x0, 0x0, 0x0, 0x0, 0x0⟩,  -- DELAY
  ⟨0x058, 0x0, 0x0, 0x0, 0x0, 0x0, 0x0⟩,  -- RX_HELD
  ⟨0x05C, 0x0, 0x0, 0x0, 0x0, 0x1, 0x0⟩  -- TRAIN_CMD
  ]

/-- ZLINK: the block error bits of ERR_SUMMARY [31:16]. -/
def errMaskZLINK : Nat := 0x3F0000

/-- SLM: the registers after the common header. -/
def regsSLM : List RegDef := [
  ⟨0x040, 0x0, 0x0, 0x0, 0x0, 0x0, 0x0⟩,  -- PART_NOW
  ⟨0x044, 0xFFFFFFFF, 0x0, 0x0, 0x0, 0x0, 0x0⟩,  -- PART_NEXT
  ⟨0x048, 0x0, 0x0, 0x0, 0x0, 0x0, 0x0⟩,  -- HITS
  ⟨0x04C, 0x0, 0x0, 0x0, 0x0, 0x0, 0x0⟩,  -- MISSES
  ⟨0x050, 0x0, 0x0, 0x1, 0x0, 0x0, 0x0⟩  -- LATTICE
  ]

/-- SLM: the block error bits of ERR_SUMMARY [31:16]. -/
def errMaskSLM : Nat := 0x70000

/-- MBOX: the registers after the common header. -/
def regsMBOX : List RegDef := [
  ⟨0x040, 0x0, 0x0, 0x0, 0x0, 0x0, 0x0⟩,  -- MB_PTR
  ⟨0x044, 0x0, 0x0, 0x0, 0x0, 0x0, 0x80000000⟩,  -- MB_STATE
  ⟨0x048, 0xC0FFFFFF, 0x0, 0x0, 0x0, 0x0, 0x80003E80⟩,  -- NOTICE
  ⟨0x04C, 0x7FF, 0x0, 0x0, 0x0, 0x0, 0x1⟩,  -- LEVEL
  ⟨0x050, 0x801FFFFF, 0x0, 0x0, 0x0, 0x0, 0x0⟩  -- NOTICE_ROUTE
  ]

/-- MBOX: the block error bits of ERR_SUMMARY [31:16]. -/
def errMaskMBOX : Nat := 0x7F0000

/-- HMOVER: the registers after the common header. -/
def regsHMOVER : List RegDef := [
  ⟨0x040, 0x0, 0x0, 0x0, 0x0, 0x0, 0x0⟩,  -- MV_STATUS
  ⟨0x044, 0x0, 0x0, 0x0, 0x0, 0x0, 0x0⟩,  -- FAIL_ADDR_LO
  ⟨0x048, 0x0, 0x0, 0x0, 0x0, 0x0, 0x0⟩,  -- FAIL_ADDR_HI
  ⟨0x04C, 0x0, 0x0, 0x0, 0x0, 0x0, 0x0⟩,  -- FAIL_INFO
  ⟨0x050, 0x0, 0x0, 0x0, 0x0, 0x0, 0x0⟩,  -- MOVED
  ⟨0x054, 0xFFFFFFC0, 0x0, 0x0, 0x0, 0x0, 0x0⟩,  -- RING_LO
  ⟨0x058, 0xFFFF, 0x0, 0x0, 0x0, 0x0, 0x0⟩,  -- RING_HI
  ⟨0x05C, 0x1FFF, 0x0, 0x0, 0x0, 0x0, 0x0⟩,  -- RING_SIZE
  ⟨0x060, 0x0, 0x0, 0x0, 0x0, 0x1, 0x0⟩,  -- DOORBELL
  ⟨0x064, 0x0, 0x0, 0x0, 0x0, 0x3, 0x0⟩,  -- CMD
  ⟨0x068, 0xFFFFFF, 0x0, 0x0, 0x0, 0x0, 0x13880⟩  -- TIMEOUT
  ]

/-- HMOVER: the block error bits of ERR_SUMMARY [31:16]. -/
def errMaskHMOVER : Nat := 0xF0000

/-- PREFIX: the registers after the common header. -/
def regsPREFIX : List RegDef := [
  ⟨0x040, 0x0, 0x0, 0x0, 0x0, 0x0, 0x0⟩,  -- STATUS
  ⟨0x044, 0x0, 0x0, 0x0, 0x0, 0x0, 0x0⟩,  -- LIVE
  ⟨0x048, 0x0, 0x0, 0x0, 0x0, 0x0, 0x0⟩,  -- FREE
  ⟨0x04C, 0x0, 0x0, 0x0, 0x0, 0x0, 0x0⟩,  -- LAST_COMMIT
  ⟨0x050, 0x0, 0x0, 0x0, 0x0, 0x0, 0x0⟩,  -- FAULT
  ⟨0x054, 0x0, 0x0, 0x0, 0x0, 0x0, 0x0⟩,  -- FAULT_ORD
  ⟨0x058, 0x0, 0x0, 0x0, 0x0, 0x0, 0x0⟩  -- MISSES
  ]

/-- PREFIX: the block error bits of ERR_SUMMARY [31:16]. -/
def errMaskPREFIX : Nat := 0x70000

/-- CHORD: the registers after the common header. -/
def regsCHORD : List RegDef := [
  ⟨0x040, 0x0, 0x0, 0x0, 0x0, 0x0, 0x0⟩,  -- CH_STATUS
  ⟨0x044, 0x0, 0x0, 0x0, 0x0, 0x0, 0x0⟩,  -- DROPS
  ⟨0x048, 0xFF, 0x0, 0x0, 0x0, 0x0, 0x0⟩,  -- BAR_SEL
  ⟨0x04C, 0x0, 0x0, 0x0, 0x0, 0x0, 0x0⟩  -- BAR_VAL
  ]

/-- CHORD: the block error bits of ERR_SUMMARY [31:16]. -/
def errMaskCHORD : Nat := 0x3F0000

/-- FTIMER: the registers after the common header. -/
def regsFTIMER : List RegDef := [
  ⟨0x040, 0x0, 0x0, 0x0, 0x0, 0x0, 0x0⟩,  -- FRAME_LO
  ⟨0x044, 0x0, 0x0, 0x0, 0x0, 0x0, 0x0⟩,  -- FRAME_HI
  ⟨0x048, 0x0, 0x0, 0x0, 0x0, 0x0, 0x0⟩,  -- SLOT
  ⟨0x04C, 0xFFFFF000, 0x0, 0x0, 0x0, 0x0, 0x0⟩,  -- PROG_BASE_LO
  ⟨0x050, 0xFFFF, 0x0, 0x0, 0x0, 0x0, 0x0⟩,  -- PROG_BASE_HI
  ⟨0x054, 0x0, 0x0, 0x0, 0x0, 0x3, 0x0⟩,  -- PROG_CMD
  ⟨0x058, 0x0, 0x0, 0x0, 0x0, 0x0, 0x0⟩,  -- PROG_STATUS
  ⟨0x05C, 0x0, 0x0, 0x0, 0x0, 0x0, 0x0⟩,  -- SKEW
  ⟨0x060, 0x0, 0x0, 0x0, 0x0, 0x0, 0x0⟩,  -- TICK_DELAY
  ⟨0x064, 0x0, 0x0, 0x6, 0x0, 0x0, 0x0⟩,  -- TICK_STATUS
  ⟨0x068, 0x0, 0x0, 0x80000000, 0x0, 0x0, 0x0⟩,  -- OVERRUN_UNIT
  ⟨0x06C, 0x0, 0x0, 0x0, 0x0, 0x3F, 0x0⟩,  -- RESYNC_CMD
  ⟨0x070, 0x0, 0x0, 0x80000000, 0x0, 0x0, 0x0⟩,  -- FAULT_INFO
  ⟨0x074, 0x0, 0x0, 0x0, 0x0, 0x0, 0x0⟩,  -- FAULT_UNIT
  ⟨0x078, 0x0, 0x0, 0x0, 0x0, 0x0, 0x0⟩,  -- FAULT_FRAME_LO
  ⟨0x07C, 0x0, 0x0, 0x0, 0x0, 0x0, 0x0⟩,  -- FAULT_FRAME_HI
  ⟨0x080, 0x0, 0x0, 0x0, 0x0, 0x0, 0x0⟩,  -- SIG_LO
  ⟨0x084, 0x0, 0x0, 0x0, 0x0, 0x0, 0x0⟩,  -- SIG_HI
  ⟨0x088, 0x0, 0x0, 0x0, 0x0, 0x0, 0x0⟩  -- SIG_FRAME
  ]

/-- FTIMER: the block error bits of ERR_SUMMARY [31:16]. -/
def errMaskFTIMER : Nat := 0x7F0000

/-- BOOTP: the registers after the common header. -/
def regsBOOTP : List RegDef := [
  ⟨0x040, 0x0, 0x0, 0x0, 0x0, 0x0, 0x0⟩,  -- FW_STATUS
  ⟨0x044, 0x0, 0x0, 0x0, 0x0, 0x0, 0x0⟩,  -- FW_VERSION
  ⟨0x048, 0x0, 0x0, 0x0, 0x0, 0xFFFFFFFF, 0x0⟩,  -- HEALTH
  ⟨0x04C, 0x0, 0xFFFF, 0x0, 0x0, 0x0, 0x3E8⟩,  -- WDOG
  ⟨0x050, 0x0, 0x0, 0x0, 0x0, 0x1, 0x0⟩  -- WDOG_KICK
  ]

/-- BOOTP: the block error bits of ERR_SUMMARY [31:16]. -/
def errMaskBOOTP : Nat := 0x30000

/-- MGMTP: the registers after the common header. -/
def regsMGMTP : List RegDef := [
  ⟨0x040, 0x0, 0x0, 0x0, 0x0, 0x0, 0x0⟩,  -- FW_STATUS
  ⟨0x044, 0x0, 0x0, 0x0, 0x0, 0x0, 0x0⟩,  -- FW_VERSION
  ⟨0x048, 0x0, 0x0, 0x0, 0x0, 0xFFFFFFFF, 0x0⟩,  -- HEALTH
  ⟨0x04C, 0x0, 0xFFFF, 0x0, 0x0, 0x0, 0x3E8⟩,  -- WDOG
  ⟨0x050, 0x0, 0x0, 0x0, 0x0, 0x1, 0x0⟩  -- WDOG_KICK
  ]

/-- MGMTP: the block error bits of ERR_SUMMARY [31:16]. -/
def errMaskMGMTP : Nat := 0x30000

/-- SECENG: the registers after the common header. -/
def regsSECENG : List RegDef := [
  ⟨0x040, 0xFFFFFFC0, 0x0, 0x0, 0x0, 0x0, 0x0⟩,  -- ATT_ADDR_LO
  ⟨0x044, 0xFFFF, 0x0, 0x0, 0x0, 0x0, 0x0⟩,  -- ATT_ADDR_HI
  ⟨0x048, 0x0, 0x0, 0x0, 0x0, 0x3, 0x0⟩,  -- ATT_CMD
  ⟨0x04C, 0x0, 0x0, 0x0, 0x0, 0x0, 0x0⟩,  -- ATT_STATUS
  ⟨0x050, 0x0, 0x0, 0x0, 0x0, 0x0, 0x0⟩  -- ATT_LEN
  ]

/-- SECENG: the block error bits of ERR_SUMMARY [31:16]. -/
def errMaskSECENG : Nat := 0x10000

/-- SENSAGG: the registers after the common header. -/
def regsSENSAGG : List RegDef := [
  ⟨0x040, 0x0, 0x0, 0x0, 0x0, 0x0, 0x0⟩,  -- TH_STATUS
  ⟨0x044, 0x1FF, 0x0, 0x0, 0x0, 0x0, 0x28⟩,  -- GRACE
  ⟨0x048, 0x0, 0x0, 0x0, 0x0, 0x0, 0x0⟩,  -- HOT
  ⟨0x04C, 0x0, 0x0, 0x0, 0x0, 0x0, 0x0⟩,  -- HOT_WHERE
  ⟨0x050, 0x3FF, 0x0, 0x0, 0x0, 0x0, 0x0⟩,  -- SENSOR_SEL
  ⟨0x054, 0x0, 0x0, 0x0, 0x0, 0x0, 0x0⟩,  -- SENSOR_VAL
  ⟨0x058, 0x0, 0x0, 0x0, 0x0, 0x0, 0x2D00000⟩,  -- COOLANT
  ⟨0x05C, 0x0, 0x0, 0x0, 0x0, 0x1, 0x0⟩,  -- TRIP_CLEAR
  ⟨0x060, 0xFFFF, 0x0, 0x0, 0x0, 0x0, 0x0⟩,  -- RAMP_TARGET
  ⟨0x064, 0x8000003F, 0x0, 0x0, 0x0, 0x0, 0x3C⟩,  -- TAPER
  ⟨0x068, 0x0, 0x0, 0x0, 0x0, 0x0, 0x0⟩,  -- POWER
  ⟨0x06C, 0x3FF, 0x0, 0x0, 0x0, 0x0, 0x0⟩,  -- UCAL_SEL
  ⟨0x070, 0xFFFF, 0x0, 0x0, 0x0, 0x0, 0x0⟩,  -- UCAL_VAL
  ⟨0x074, 0x0, 0x0, 0x0, 0x0, 0x0, 0x0⟩  -- FILL
  ]

/-- SENSAGG: the block error bits of ERR_SUMMARY [31:16]. -/
def errMaskSENSAGG : Nat := 0x7FF0000

/-- FUSE: no register after the common header. -/
def regsFUSE : List RegDef := []

/-- FUSE: the block error bits of ERR_SUMMARY [31:16]. -/
def errMaskFUSE : Nat := 0x0

/-- FLASH: the registers after the common header. -/
def regsFLASH : List RegDef := [
  ⟨0x040, 0xFFFFFFC0, 0x0, 0x0, 0x0, 0x0, 0x0⟩,  -- FL_SRC_LO
  ⟨0x044, 0xFFFF, 0x0, 0x0, 0x0, 0x0, 0x0⟩,  -- FL_SRC_HI
  ⟨0x048, 0xFFFFFFFF, 0x0, 0x0, 0x0, 0x0, 0x0⟩,  -- FL_LEN
  ⟨0x04C, 0x0, 0x0, 0x0, 0x0, 0xF0F, 0x0⟩,  -- FL_CMD
  ⟨0x050, 0x0, 0x0, 0x0, 0x0, 0x0, 0x0⟩,  -- FL_STATUS
  ⟨0x054, 0xFFFFFFFF, 0x0, 0x0, 0x0, 0x0, 0x0⟩,  -- ACT_FRAME_LO
  ⟨0x058, 0xFFFF, 0x0, 0x0, 0x0, 0x0, 0x0⟩,  -- ACT_FRAME_HI
  ⟨0x05C, 0x0, 0x0, 0x0, 0x0, 0x0, 0x0⟩  -- SLOTS
  ]

/-- FLASH: the block error bits of ERR_SUMMARY [31:16]. -/
def errMaskFLASH : Nat := 0x30000

/-- PLATE: the registers after the common header. -/
def regsPLATE : List RegDef := [
  ⟨0x040, 0x0, 0x0, 0x0, 0x0, 0x0, 0x0⟩,  -- PL_STATUS
  ⟨0x044, 0x0, 0x0, 0x0, 0x0, 0x0, 0x0⟩,  -- MINUTES
  ⟨0x048, 0x0, 0x0, 0x0, 0x0, 0x0, 0x0⟩  -- SWINGS
  ]

/-- PLATE: the block error bits of ERR_SUMMARY [31:16]. -/
def errMaskPLATE : Nat := 0xF0000

/-- PMBUS: the registers after the common header. -/
def regsPMBUS : List RegDef := [
  ⟨0x040, 0x3F, 0x0, 0x0, 0x0, 0x0, 0x0⟩,  -- RAIL_SEL
  ⟨0x044, 0x0, 0x0, 0x0, 0x0, 0x0, 0x0⟩,  -- RAIL_V
  ⟨0x048, 0x0, 0x0, 0x0, 0x0, 0x0, 0x0⟩,  -- RAIL_I
  ⟨0x04C, 0x0, 0x0, 0x0, 0x0, 0x0, 0x0⟩,  -- SUPPLY
  ⟨0x050, 0x0, 0x0, 0x0, 0x0, 0x0, 0x0⟩  -- SWITCHES
  ]

/-- PMBUS: the block error bits of ERR_SUMMARY [31:16]. -/
def errMaskPMBUS : Nat := 0xF0000

/-- PINS: the registers after the common header. -/
def regsPINS : List RegDef := [
  ⟨0x040, 0xF21FFFFF, 0x0, 0x8000000, 0x0, 0x0, 0x4000000⟩,  -- EVT_PIN_0
  ⟨0x044, 0xF21FFFFF, 0x0, 0x8000000, 0x0, 0x0, 0x4000000⟩,  -- EVT_PIN_1
  ⟨0x048, 0xF21FFFFF, 0x0, 0x8000000, 0x0, 0x0, 0x4000000⟩,  -- EVT_PIN_2
  ⟨0x04C, 0xF21FFFFF, 0x0, 0x8000000, 0x0, 0x0, 0x4000000⟩,  -- EVT_PIN_3
  ⟨0x050, 0x0, 0x0, 0x0, 0x0, 0x0, 0x2F⟩,  -- PIN_LEVEL
  ⟨0x054, 0x0, 0x0, 0x0, 0x0, 0x0, 0x0⟩,  -- STRAPS
  ⟨0x058, 0x0, 0x0, 0x0, 0x0, 0x0, 0x0⟩,  -- I2CS
  ⟨0x05C, 0x0, 0x0, 0x0, 0x0, 0x0, 0x0⟩  -- HALT_IN
  ]

/-- PINS: the block error bits of ERR_SUMMARY [31:16]. -/
def errMaskPINS : Nat := 0x30000

/-- The registers after the common header of a block type (R42 codes). -/
def blockRegs (ty : Nat) : List RegDef :=
  match ty with
  | 3 => regsMCORE
  | 4 => regsVCORE
  | 5 => regsROUTER
  | 6 => regsSMOVER
  | 7 => regsCOLCTL
  | 8 => regsD2D
  | 9 => regsGPORT
  | 10 => regsZLINK
  | 11 => regsSLM
  | 12 => regsMBOX
  | 13 => regsHMOVER
  | 14 => regsPREFIX
  | 15 => regsCHORD
  | 16 => regsFTIMER
  | 17 => regsBOOTP
  | 18 => regsMGMTP
  | 19 => regsSECENG
  | 20 => regsSENSAGG
  | 22 => regsFLASH
  | 23 => regsPLATE
  | 24 => regsPMBUS
  | 25 => regsPINS
  | _ => []

/-- The block error bits of a block type. -/
def blockErrMask (ty : Nat) : Nat :=
  match ty with
  | 3 => errMaskMCORE
  | 4 => errMaskVCORE
  | 5 => errMaskROUTER
  | 6 => errMaskSMOVER
  | 7 => errMaskCOLCTL
  | 8 => errMaskD2D
  | 9 => errMaskGPORT
  | 10 => errMaskZLINK
  | 11 => errMaskSLM
  | 12 => errMaskMBOX
  | 13 => errMaskHMOVER
  | 14 => errMaskPREFIX
  | 15 => errMaskCHORD
  | 16 => errMaskFTIMER
  | 17 => errMaskBOOTP
  | 18 => errMaskMGMTP
  | 19 => errMaskSECENG
  | 20 => errMaskSENSAGG
  | 22 => errMaskFLASH
  | 23 => errMaskPLATE
  | 24 => errMaskPMBUS
  | 25 => errMaskPINS
  | _ => 0

/-! Block types (R42). -/

namespace Ty
/-- HUB (R42). -/
def HUB : Nat := 1
/-- STACK (R42). -/
def STACK : Nat := 2
/-- MCORE (R42). -/
def MCORE : Nat := 3
/-- VCORE (R42). -/
def VCORE : Nat := 4
/-- ROUTER (R42). -/
def ROUTER : Nat := 5
/-- SMOVER (R42). -/
def SMOVER : Nat := 6
/-- COLCTL (R42). -/
def COLCTL : Nat := 7
/-- D2D (R42). -/
def D2D : Nat := 8
/-- GPORT (R42). -/
def GPORT : Nat := 9
/-- ZLINK (R42). -/
def ZLINK : Nat := 10
/-- SLM (R42). -/
def SLM : Nat := 11
/-- MBOX (R42). -/
def MBOX : Nat := 12
/-- HMOVER (R42). -/
def HMOVER : Nat := 13
/-- PREFIX (R42). -/
def PREFIX : Nat := 14
/-- CHORD (R42). -/
def CHORD : Nat := 15
/-- FTIMER (R42). -/
def FTIMER : Nat := 16
/-- BOOTP (R42). -/
def BOOTP : Nat := 17
/-- MGMTP (R42). -/
def MGMTP : Nat := 18
/-- SECENG (R42). -/
def SECENG : Nat := 19
/-- SENSAGG (R42). -/
def SENSAGG : Nat := 20
/-- FUSE (R42). -/
def FUSE : Nat := 21
/-- FLASH (R42). -/
def FLASH : Nat := 22
/-- PLATE (R42). -/
def PLATE : Nat := 23
/-- PMBUS (R42). -/
def PMBUS : Nat := 24
/-- PINS (R42). -/
def PINS : Nat := 25
end Ty

/-! Offsets of the registers in their facets. -/

namespace Off
/-- STATE of every facet (R47). -/
def STATE : Nat := 0x010
/-- CONTROL of every facet (R47). -/
def CONTROL : Nat := 0x014
/-- ERR_SUMMARY of every facet (R47). -/
def ERR_SUMMARY : Nat := 0x018
/-- ERR_MASK of every facet (R47). -/
def ERR_MASK : Nat := 0x01C
/-- EVT_ROUTE of every facet (R47). -/
def EVT_ROUTE : Nat := 0x020
/-- LOCK of every facet (R47). -/
def LOCK : Nat := 0x024
/-- SCRATCH of every facet (R47). -/
def SCRATCH : Nat := 0x028
/-- MCORE.MC_STATUS. -/
def MCORE_MC_STATUS : Nat := 0x040
/-- MCORE.HAZARD. -/
def MCORE_HAZARD : Nat := 0x044
/-- MCORE.HAZARD_PC. -/
def MCORE_HAZARD_PC : Nat := 0x048
/-- MCORE.ACTIVITY. -/
def MCORE_ACTIVITY : Nat := 0x04C
/-- MCORE.GATE. -/
def MCORE_GATE : Nat := 0x050
/-- MCORE.LANE_MAP_0. -/
def MCORE_LANE_MAP_0 : Nat := 0x054
/-- MCORE.LANE_MAP_1. -/
def MCORE_LANE_MAP_1 : Nat := 0x058
/-- MCORE.LANE_MAP_2. -/
def MCORE_LANE_MAP_2 : Nat := 0x05C
/-- MCORE.LANE_MAP_3. -/
def MCORE_LANE_MAP_3 : Nat := 0x060
/-- MCORE.STREAM. -/
def MCORE_STREAM : Nat := 0x064
/-- VCORE.VC_STATUS. -/
def VCORE_VC_STATUS : Nat := 0x040
/-- VCORE.FAULT_PC. -/
def VCORE_FAULT_PC : Nat := 0x044
/-- VCORE.FAULT_ADDR_LO. -/
def VCORE_FAULT_ADDR_LO : Nat := 0x048
/-- VCORE.FAULT_ADDR_HI. -/
def VCORE_FAULT_ADDR_HI : Nat := 0x04C
/-- ROUTER.RT_STATUS. -/
def ROUTER_RT_STATUS : Nat := 0x040
/-- ROUTER.FENCED_DROPS. -/
def ROUTER_FENCED_DROPS : Nat := 0x044
/-- ROUTER.FLITS. -/
def ROUTER_FLITS : Nat := 0x048
/-- ROUTER.UNSCHED. -/
def ROUTER_UNSCHED : Nat := 0x04C
/-- ROUTER.LAST_ERR. -/
def ROUTER_LAST_ERR : Nat := 0x050
/-- ROUTER.LAST_ERR_SEQ. -/
def ROUTER_LAST_ERR_SEQ : Nat := 0x054
/-- ROUTER.PAY_CORR. -/
def ROUTER_PAY_CORR : Nat := 0x058
/-- SMOVER.MV_STATUS. -/
def SMOVER_MV_STATUS : Nat := 0x040
/-- SMOVER.FAIL_ADDR_LO. -/
def SMOVER_FAIL_ADDR_LO : Nat := 0x044
/-- SMOVER.FAIL_ADDR_HI. -/
def SMOVER_FAIL_ADDR_HI : Nat := 0x048
/-- SMOVER.FAIL_INFO. -/
def SMOVER_FAIL_INFO : Nat := 0x04C
/-- SMOVER.MOVED. -/
def SMOVER_MOVED : Nat := 0x050
/-- COLCTL.CC_STATUS. -/
def COLCTL_CC_STATUS : Nat := 0x040
/-- COLCTL.LAYER_0. -/
def COLCTL_LAYER_0 : Nat := 0x044
/-- COLCTL.LAYER_1. -/
def COLCTL_LAYER_1 : Nat := 0x048
/-- COLCTL.LAYER_2. -/
def COLCTL_LAYER_2 : Nat := 0x04C
/-- COLCTL.LAYER_3. -/
def COLCTL_LAYER_3 : Nat := 0x050
/-- COLCTL.LAYER_4. -/
def COLCTL_LAYER_4 : Nat := 0x054
/-- COLCTL.LAYER_5. -/
def COLCTL_LAYER_5 : Nat := 0x058
/-- COLCTL.LAYER_6. -/
def COLCTL_LAYER_6 : Nat := 0x05C
/-- COLCTL.LAYER_7. -/
def COLCTL_LAYER_7 : Nat := 0x060
/-- COLCTL.SCRUB_RATE. -/
def COLCTL_SCRUB_RATE : Nat := 0x064
/-- COLCTL.SLIP. -/
def COLCTL_SLIP : Nat := 0x068
/-- COLCTL.PORT_Q. -/
def COLCTL_PORT_Q : Nat := 0x06C
/-- COLCTL.ADDER. -/
def COLCTL_ADDER : Nat := 0x070
/-- COLCTL.ECC_CORR. -/
def COLCTL_ECC_CORR : Nat := 0x074
/-- COLCTL.ECC_LAST. -/
def COLCTL_ECC_LAST : Nat := 0x078
/-- COLCTL.ECC_LAST_BIT. -/
def COLCTL_ECC_LAST_BIT : Nat := 0x07C
/-- COLCTL.SCRUB_PTR. -/
def COLCTL_SCRUB_PTR : Nat := 0x080
/-- COLCTL.SCRUB_PASS. -/
def COLCTL_SCRUB_PASS : Nat := 0x084
/-- COLCTL.REPAIR. -/
def COLCTL_REPAIR : Nat := 0x088
/-- COLCTL.FLIP. -/
def COLCTL_FLIP : Nat := 0x08C
/-- COLCTL.RE_STATUS. -/
def COLCTL_RE_STATUS : Nat := 0x090
/-- COLCTL.RE_ENTRY. -/
def COLCTL_RE_ENTRY : Nat := 0x094
/-- COLCTL.RE_QUEUE. -/
def COLCTL_RE_QUEUE : Nat := 0x098
/-- COLCTL.RE_STEPS. -/
def COLCTL_RE_STEPS : Nat := 0x09C
/-- COLCTL.RE_HOT. -/
def COLCTL_RE_HOT : Nat := 0x0A0
/-- D2D.D2D_STATUS. -/
def D2D_D2D_STATUS : Nat := 0x040
/-- D2D.MASK_H0. -/
def D2D_MASK_H0 : Nat := 0x044
/-- D2D.MASK_H1. -/
def D2D_MASK_H1 : Nat := 0x048
/-- D2D.PEER_H0. -/
def D2D_PEER_H0 : Nat := 0x04C
/-- D2D.PEER_H1. -/
def D2D_PEER_H1 : Nat := 0x050
/-- D2D.CORR. -/
def D2D_CORR : Nat := 0x054
/-- D2D.DISAGREE. -/
def D2D_DISAGREE : Nat := 0x058
/-- GPORT.GP_STATUS. -/
def GPORT_GP_STATUS : Nat := 0x040
/-- GPORT.PEER_TAG. -/
def GPORT_PEER_TAG : Nat := 0x044
/-- GPORT.DELAY. -/
def GPORT_DELAY : Nat := 0x048
/-- GPORT.FEC_CORR. -/
def GPORT_FEC_CORR : Nat := 0x04C
/-- GPORT.FEC_UNCORR. -/
def GPORT_FEC_UNCORR : Nat := 0x050
/-- GPORT.RX_HELD. -/
def GPORT_RX_HELD : Nat := 0x054
/-- GPORT.TRAIN_CMD. -/
def GPORT_TRAIN_CMD : Nat := 0x058
/-- GPORT.TRAIN_COUNT. -/
def GPORT_TRAIN_COUNT : Nat := 0x05C
/-- GPORT.LANE_0. -/
def GPORT_LANE_0 : Nat := 0x060
/-- GPORT.LANE_1. -/
def GPORT_LANE_1 : Nat := 0x064
/-- GPORT.LANE_2. -/
def GPORT_LANE_2 : Nat := 0x068
/-- GPORT.LANE_3. -/
def GPORT_LANE_3 : Nat := 0x06C
/-- GPORT.LANE_4. -/
def GPORT_LANE_4 : Nat := 0x070
/-- GPORT.LANE_5. -/
def GPORT_LANE_5 : Nat := 0x074
/-- GPORT.LANE_6. -/
def GPORT_LANE_6 : Nat := 0x078
/-- GPORT.LANE_7. -/
def GPORT_LANE_7 : Nat := 0x07C
/-- GPORT.LANE_8. -/
def GPORT_LANE_8 : Nat := 0x080
/-- GPORT.CORR. -/
def GPORT_CORR : Nat := 0x084
/-- GPORT.DROPS. -/
def GPORT_DROPS : Nat := 0x088
/-- ZLINK.ZL_STATUS. -/
def ZLINK_ZL_STATUS : Nat := 0x040
/-- ZLINK.CRC_ERR. -/
def ZLINK_CRC_ERR : Nat := 0x044
/-- ZLINK.EPISODES. -/
def ZLINK_EPISODES : Nat := 0x048
/-- ZLINK.LINK_FAILS. -/
def ZLINK_LINK_FAILS : Nat := 0x04C
/-- ZLINK.E2E_FAIL. -/
def ZLINK_E2E_FAIL : Nat := 0x050
/-- ZLINK.DELAY. -/
def ZLINK_DELAY : Nat := 0x054
/-- ZLINK.RX_HELD. -/
def ZLINK_RX_HELD : Nat := 0x058
/-- ZLINK.TRAIN_CMD. -/
def ZLINK_TRAIN_CMD : Nat := 0x05C
/-- SLM.PART_NOW. -/
def SLM_PART_NOW : Nat := 0x040
/-- SLM.PART_NEXT. -/
def SLM_PART_NEXT : Nat := 0x044
/-- SLM.HITS. -/
def SLM_HITS : Nat := 0x048
/-- SLM.MISSES. -/
def SLM_MISSES : Nat := 0x04C
/-- SLM.LATTICE. -/
def SLM_LATTICE : Nat := 0x050
/-- MBOX.MB_PTR. -/
def MBOX_MB_PTR : Nat := 0x040
/-- MBOX.MB_STATE. -/
def MBOX_MB_STATE : Nat := 0x044
/-- MBOX.NOTICE. -/
def MBOX_NOTICE : Nat := 0x048
/-- MBOX.LEVEL. -/
def MBOX_LEVEL : Nat := 0x04C
/-- MBOX.NOTICE_ROUTE. -/
def MBOX_NOTICE_ROUTE : Nat := 0x050
/-- HMOVER.MV_STATUS. -/
def HMOVER_MV_STATUS : Nat := 0x040
/-- HMOVER.FAIL_ADDR_LO. -/
def HMOVER_FAIL_ADDR_LO : Nat := 0x044
/-- HMOVER.FAIL_ADDR_HI. -/
def HMOVER_FAIL_ADDR_HI : Nat := 0x048
/-- HMOVER.FAIL_INFO. -/
def HMOVER_FAIL_INFO : Nat := 0x04C
/-- HMOVER.MOVED. -/
def HMOVER_MOVED : Nat := 0x050
/-- HMOVER.RING_LO. -/
def HMOVER_RING_LO : Nat := 0x054
/-- HMOVER.RING_HI. -/
def HMOVER_RING_HI : Nat := 0x058
/-- HMOVER.RING_SIZE. -/
def HMOVER_RING_SIZE : Nat := 0x05C
/-- HMOVER.DOORBELL. -/
def HMOVER_DOORBELL : Nat := 0x060
/-- HMOVER.CMD. -/
def HMOVER_CMD : Nat := 0x064
/-- HMOVER.TIMEOUT. -/
def HMOVER_TIMEOUT : Nat := 0x068
/-- PREFIX.STATUS. -/
def PREFIX_STATUS : Nat := 0x040
/-- PREFIX.LIVE. -/
def PREFIX_LIVE : Nat := 0x044
/-- PREFIX.FREE. -/
def PREFIX_FREE : Nat := 0x048
/-- PREFIX.LAST_COMMIT. -/
def PREFIX_LAST_COMMIT : Nat := 0x04C
/-- PREFIX.FAULT. -/
def PREFIX_FAULT : Nat := 0x050
/-- PREFIX.FAULT_ORD. -/
def PREFIX_FAULT_ORD : Nat := 0x054
/-- PREFIX.MISSES. -/
def PREFIX_MISSES : Nat := 0x058
/-- CHORD.CH_STATUS. -/
def CHORD_CH_STATUS : Nat := 0x040
/-- CHORD.DROPS. -/
def CHORD_DROPS : Nat := 0x044
/-- CHORD.BAR_SEL. -/
def CHORD_BAR_SEL : Nat := 0x048
/-- CHORD.BAR_VAL. -/
def CHORD_BAR_VAL : Nat := 0x04C
/-- FTIMER.FRAME_LO. -/
def FTIMER_FRAME_LO : Nat := 0x040
/-- FTIMER.FRAME_HI. -/
def FTIMER_FRAME_HI : Nat := 0x044
/-- FTIMER.SLOT. -/
def FTIMER_SLOT : Nat := 0x048
/-- FTIMER.PROG_BASE_LO. -/
def FTIMER_PROG_BASE_LO : Nat := 0x04C
/-- FTIMER.PROG_BASE_HI. -/
def FTIMER_PROG_BASE_HI : Nat := 0x050
/-- FTIMER.PROG_CMD. -/
def FTIMER_PROG_CMD : Nat := 0x054
/-- FTIMER.PROG_STATUS. -/
def FTIMER_PROG_STATUS : Nat := 0x058
/-- FTIMER.SKEW. -/
def FTIMER_SKEW : Nat := 0x05C
/-- FTIMER.TICK_DELAY. -/
def FTIMER_TICK_DELAY : Nat := 0x060
/-- FTIMER.TICK_STATUS. -/
def FTIMER_TICK_STATUS : Nat := 0x064
/-- FTIMER.OVERRUN_UNIT. -/
def FTIMER_OVERRUN_UNIT : Nat := 0x068
/-- FTIMER.RESYNC_CMD. -/
def FTIMER_RESYNC_CMD : Nat := 0x06C
/-- FTIMER.FAULT_INFO. -/
def FTIMER_FAULT_INFO : Nat := 0x070
/-- FTIMER.FAULT_UNIT. -/
def FTIMER_FAULT_UNIT : Nat := 0x074
/-- FTIMER.FAULT_FRAME_LO. -/
def FTIMER_FAULT_FRAME_LO : Nat := 0x078
/-- FTIMER.FAULT_FRAME_HI. -/
def FTIMER_FAULT_FRAME_HI : Nat := 0x07C
/-- FTIMER.SIG_LO. -/
def FTIMER_SIG_LO : Nat := 0x080
/-- FTIMER.SIG_HI. -/
def FTIMER_SIG_HI : Nat := 0x084
/-- FTIMER.SIG_FRAME. -/
def FTIMER_SIG_FRAME : Nat := 0x088
/-- BOOTP.FW_STATUS. -/
def BOOTP_FW_STATUS : Nat := 0x040
/-- BOOTP.FW_VERSION. -/
def BOOTP_FW_VERSION : Nat := 0x044
/-- BOOTP.HEALTH. -/
def BOOTP_HEALTH : Nat := 0x048
/-- BOOTP.WDOG. -/
def BOOTP_WDOG : Nat := 0x04C
/-- BOOTP.WDOG_KICK. -/
def BOOTP_WDOG_KICK : Nat := 0x050
/-- MGMTP.FW_STATUS. -/
def MGMTP_FW_STATUS : Nat := 0x040
/-- MGMTP.FW_VERSION. -/
def MGMTP_FW_VERSION : Nat := 0x044
/-- MGMTP.HEALTH. -/
def MGMTP_HEALTH : Nat := 0x048
/-- MGMTP.WDOG. -/
def MGMTP_WDOG : Nat := 0x04C
/-- MGMTP.WDOG_KICK. -/
def MGMTP_WDOG_KICK : Nat := 0x050
/-- SECENG.ATT_ADDR_LO. -/
def SECENG_ATT_ADDR_LO : Nat := 0x040
/-- SECENG.ATT_ADDR_HI. -/
def SECENG_ATT_ADDR_HI : Nat := 0x044
/-- SECENG.ATT_CMD. -/
def SECENG_ATT_CMD : Nat := 0x048
/-- SECENG.ATT_STATUS. -/
def SECENG_ATT_STATUS : Nat := 0x04C
/-- SECENG.ATT_LEN. -/
def SECENG_ATT_LEN : Nat := 0x050
/-- SENSAGG.TH_STATUS. -/
def SENSAGG_TH_STATUS : Nat := 0x040
/-- SENSAGG.GRACE. -/
def SENSAGG_GRACE : Nat := 0x044
/-- SENSAGG.HOT. -/
def SENSAGG_HOT : Nat := 0x048
/-- SENSAGG.HOT_WHERE. -/
def SENSAGG_HOT_WHERE : Nat := 0x04C
/-- SENSAGG.SENSOR_SEL. -/
def SENSAGG_SENSOR_SEL : Nat := 0x050
/-- SENSAGG.SENSOR_VAL. -/
def SENSAGG_SENSOR_VAL : Nat := 0x054
/-- SENSAGG.COOLANT. -/
def SENSAGG_COOLANT : Nat := 0x058
/-- SENSAGG.TRIP_CLEAR. -/
def SENSAGG_TRIP_CLEAR : Nat := 0x05C
/-- SENSAGG.RAMP_TARGET. -/
def SENSAGG_RAMP_TARGET : Nat := 0x060
/-- SENSAGG.TAPER. -/
def SENSAGG_TAPER : Nat := 0x064
/-- SENSAGG.POWER. -/
def SENSAGG_POWER : Nat := 0x068
/-- SENSAGG.UCAL_SEL. -/
def SENSAGG_UCAL_SEL : Nat := 0x06C
/-- SENSAGG.UCAL_VAL. -/
def SENSAGG_UCAL_VAL : Nat := 0x070
/-- SENSAGG.FILL. -/
def SENSAGG_FILL : Nat := 0x074
/-- FLASH.FL_SRC_LO. -/
def FLASH_FL_SRC_LO : Nat := 0x040
/-- FLASH.FL_SRC_HI. -/
def FLASH_FL_SRC_HI : Nat := 0x044
/-- FLASH.FL_LEN. -/
def FLASH_FL_LEN : Nat := 0x048
/-- FLASH.FL_CMD. -/
def FLASH_FL_CMD : Nat := 0x04C
/-- FLASH.FL_STATUS. -/
def FLASH_FL_STATUS : Nat := 0x050
/-- FLASH.ACT_FRAME_LO. -/
def FLASH_ACT_FRAME_LO : Nat := 0x054
/-- FLASH.ACT_FRAME_HI. -/
def FLASH_ACT_FRAME_HI : Nat := 0x058
/-- FLASH.SLOTS. -/
def FLASH_SLOTS : Nat := 0x05C
/-- PLATE.PL_STATUS. -/
def PLATE_PL_STATUS : Nat := 0x040
/-- PLATE.MINUTES. -/
def PLATE_MINUTES : Nat := 0x044
/-- PLATE.SWINGS. -/
def PLATE_SWINGS : Nat := 0x048
/-- PMBUS.RAIL_SEL. -/
def PMBUS_RAIL_SEL : Nat := 0x040
/-- PMBUS.RAIL_V. -/
def PMBUS_RAIL_V : Nat := 0x044
/-- PMBUS.RAIL_I. -/
def PMBUS_RAIL_I : Nat := 0x048
/-- PMBUS.SUPPLY. -/
def PMBUS_SUPPLY : Nat := 0x04C
/-- PMBUS.SWITCHES. -/
def PMBUS_SWITCHES : Nat := 0x050
/-- PINS.EVT_PIN_0. -/
def PINS_EVT_PIN_0 : Nat := 0x040
/-- PINS.EVT_PIN_1. -/
def PINS_EVT_PIN_1 : Nat := 0x044
/-- PINS.EVT_PIN_2. -/
def PINS_EVT_PIN_2 : Nat := 0x048
/-- PINS.EVT_PIN_3. -/
def PINS_EVT_PIN_3 : Nat := 0x04C
/-- PINS.PIN_LEVEL. -/
def PINS_PIN_LEVEL : Nat := 0x050
/-- PINS.STRAPS. -/
def PINS_STRAPS : Nat := 0x054
/-- PINS.I2CS. -/
def PINS_I2CS : Nat := 0x058
/-- PINS.HALT_IN. -/
def PINS_HALT_IN : Nat := 0x05C
end Off

/-! Bits of ERR_SUMMARY. -/

namespace Err
/-- Access error at the facet (R52). -/
def ACCESS : Nat := 0
/-- A refused change of an RWL field (R56). -/
def LOCKED_WRITE : Nat := 1
/-- Corrected control-memory word (R277). -/
def CTRL_CORR : Nat := 2
/-- Uncorrectable control-memory word (R277). -/
def CTRL_UNCORR : Nat := 3
/-- FTIMER ERR_SUMMARY [22]. -/
def FTIMER_FRAME_FAULT : Nat := 22
/-- FTIMER ERR_SUMMARY [21]. -/
def FTIMER_LOAD_REFUSED : Nat := 21
/-- FTIMER ERR_SUMMARY [20]. -/
def FTIMER_SKEW_WARN : Nat := 20
/-- FTIMER ERR_SUMMARY [19]. -/
def FTIMER_SKEW_FAULT : Nat := 19
/-- FTIMER ERR_SUMMARY [18]. -/
def FTIMER_FRAME_MISMATCH : Nat := 18
/-- FTIMER ERR_SUMMARY [17]. -/
def FTIMER_TICK_LOST : Nat := 17
/-- FTIMER ERR_SUMMARY [16]. -/
def FTIMER_OVERRUN : Nat := 16
/-- MCORE ERR_SUMMARY [20]. -/
def MCORE_WAIT_LATE : Nat := 20
/-- MCORE ERR_SUMMARY [19]. -/
def MCORE_STORE_CORR : Nat := 19
/-- MCORE ERR_SUMMARY [18]. -/
def MCORE_STORE_UNCORR : Nat := 18
/-- MCORE ERR_SUMMARY [17]. -/
def MCORE_STREAM_OVERFLOW : Nat := 17
/-- MCORE ERR_SUMMARY [16]. -/
def MCORE_HAZARD : Nat := 16
/-- VCORE ERR_SUMMARY [21]. -/
def VCORE_TBL_BAD : Nat := 21
/-- VCORE ERR_SUMMARY [20]. -/
def VCORE_WAIT_LATE : Nat := 20
/-- VCORE ERR_SUMMARY [19]. -/
def VCORE_LMEM_CORR : Nat := 19
/-- VCORE ERR_SUMMARY [18]. -/
def VCORE_LMEM_UNCORR : Nat := 18
/-- VCORE ERR_SUMMARY [16]. -/
def VCORE_ACCESS_FAULT : Nat := 16
/-- COLCTL ERR_SUMMARY [20]. -/
def COLCTL_BAD_AOP : Nat := 20
/-- COLCTL ERR_SUMMARY [19]. -/
def COLCTL_SLIP : Nat := 19
/-- COLCTL ERR_SUMMARY [18]. -/
def COLCTL_ACT_DEBT : Nat := 18
/-- COLCTL ERR_SUMMARY [17]. -/
def COLCTL_REFRESH_DEBT : Nat := 17
/-- COLCTL ERR_SUMMARY [16]. -/
def COLCTL_PORT_OVERFLOW : Nat := 16
/-- COLCTL ERR_SUMMARY [27]. -/
def COLCTL_SPARE_EXHAUSTED : Nat := 27
/-- COLCTL ERR_SUMMARY [26]. -/
def COLCTL_SCRUB_BEHIND : Nat := 26
/-- COLCTL ERR_SUMMARY [25]. -/
def COLCTL_DATA_UNCORR : Nat := 25
/-- COLCTL ERR_SUMMARY [24]. -/
def COLCTL_DATA_CORR : Nat := 24
/-- COLCTL ERR_SUMMARY [31]. -/
def COLCTL_RE_RESIDUE : Nat := 31
/-- COLCTL ERR_SUMMARY [30]. -/
def COLCTL_RE_HOT : Nat := 30
/-- COLCTL ERR_SUMMARY [29]. -/
def COLCTL_RE_BUDGET : Nat := 29
/-- COLCTL ERR_SUMMARY [28]. -/
def COLCTL_RE_BAD_REQ : Nat := 28
/-- SLM ERR_SUMMARY [18]. -/
def SLM_CACHE_REFILL : Nat := 18
/-- SLM ERR_SUMMARY [17]. -/
def SLM_PART_HELD : Nat := 17
/-- SLM ERR_SUMMARY [16]. -/
def SLM_BAD_AOP : Nat := 16
/-- ROUTER ERR_SUMMARY [24]. -/
def ROUTER_LINK_NOT_READY : Nat := 24
/-- ROUTER ERR_SUMMARY [23]. -/
def ROUTER_LS_RANGE : Nat := 23
/-- ROUTER ERR_SUMMARY [22]. -/
def ROUTER_RED_ERR : Nat := 22
/-- ROUTER ERR_SUMMARY [21]. -/
def ROUTER_OVERFLOW : Nat := 21
/-- ROUTER ERR_SUMMARY [20]. -/
def ROUTER_FENCED_DEST : Nat := 20
/-- ROUTER ERR_SUMMARY [19]. -/
def ROUTER_PAY_CORR : Nat := 19
/-- ROUTER ERR_SUMMARY [18]. -/
def ROUTER_PAY_UNCORR : Nat := 18
/-- ROUTER ERR_SUMMARY [17]. -/
def ROUTER_TAG_ERR : Nat := 17
/-- ROUTER ERR_SUMMARY [16]. -/
def ROUTER_MISROUTE : Nat := 16
/-- D2D ERR_SUMMARY [19]. -/
def D2D_DOWN : Nat := 19
/-- D2D ERR_SUMMARY [18]. -/
def D2D_NARROWED : Nat := 18
/-- D2D ERR_SUMMARY [17]. -/
def D2D_WIDTH_DISAGREE : Nat := 17
/-- D2D ERR_SUMMARY [16]. -/
def D2D_SPARE_USED : Nat := 16
/-- PINS ERR_SUMMARY [16]. -/
def PINS_EVT_OWN : Nat := 16
/-- PINS ERR_SUMMARY [17]. -/
def PINS_PIN_HALT : Nat := 17
/-- CHORD ERR_SUMMARY [21]. -/
def CHORD_PARITY : Nat := 21
/-- CHORD ERR_SUMMARY [20]. -/
def CHORD_BAD_TARGET : Nat := 20
/-- CHORD ERR_SUMMARY [19]. -/
def CHORD_EVT_OVERFLOW : Nat := 19
/-- CHORD ERR_SUMMARY [18]. -/
def CHORD_BAR_UNSET : Nat := 18
/-- CHORD ERR_SUMMARY [17]. -/
def CHORD_BAR_OPEN : Nat := 17
/-- CHORD ERR_SUMMARY [16]. -/
def CHORD_SYNC_LATE : Nat := 16
/-- PREFIX ERR_SUMMARY [18]. -/
def PREFIX_INSERT_FULL : Nat := 18
/-- PREFIX ERR_SUMMARY [17]. -/
def PREFIX_DIR_UNCORR : Nat := 17
/-- PREFIX ERR_SUMMARY [16]. -/
def PREFIX_REQ_FAULT : Nat := 16
/-- SMOVER ERR_SUMMARY [19]. -/
def SMOVER_RX_OVERFLOW : Nat := 19
/-- SMOVER ERR_SUMMARY [18]. -/
def SMOVER_RX_ERR : Nat := 18
/-- SMOVER ERR_SUMMARY [17]. -/
def SMOVER_WAIT_LATE : Nat := 17
/-- SMOVER ERR_SUMMARY [16]. -/
def SMOVER_BUS_ERR : Nat := 16
/-- HMOVER ERR_SUMMARY [19]. -/
def HMOVER_RX_OVERFLOW : Nat := 19
/-- HMOVER ERR_SUMMARY [18]. -/
def HMOVER_RX_ERR : Nat := 18
/-- HMOVER ERR_SUMMARY [17]. -/
def HMOVER_WAIT_LATE : Nat := 17
/-- HMOVER ERR_SUMMARY [16]. -/
def HMOVER_BUS_ERR : Nat := 16
/-- MBOX ERR_SUMMARY [22]. -/
def MBOX_BAD_OP : Nat := 22
/-- MBOX ERR_SUMMARY [21]. -/
def MBOX_LEVEL_IGNORED : Nat := 21
/-- MBOX ERR_SUMMARY [20]. -/
def MBOX_OVERFLOW : Nat := 20
/-- MBOX ERR_SUMMARY [19]. -/
def MBOX_UNDERRUN : Nat := 19
/-- MBOX ERR_SUMMARY [18]. -/
def MBOX_MEM_UNCORR : Nat := 18
/-- MBOX ERR_SUMMARY [17]. -/
def MBOX_MEM_CORR : Nat := 17
/-- MBOX ERR_SUMMARY [16]. -/
def MBOX_NOTICE : Nat := 16
/-- GPORT ERR_SUMMARY [26]. -/
def GPORT_WIDTH_DISAGREE : Nat := 26
/-- GPORT ERR_SUMMARY [25]. -/
def GPORT_SPARE_USED : Nat := 25
/-- GPORT ERR_SUMMARY [24]. -/
def GPORT_PROBE_MISS : Nat := 24
/-- GPORT ERR_SUMMARY [23]. -/
def GPORT_CTRL_DROP : Nat := 23
/-- GPORT ERR_SUMMARY [22]. -/
def GPORT_HDR_ERR : Nat := 22
/-- GPORT ERR_SUMMARY [21]. -/
def GPORT_FEC_UNCORR : Nat := 21
/-- GPORT ERR_SUMMARY [20]. -/
def GPORT_LATE : Nat := 20
/-- GPORT ERR_SUMMARY [19]. -/
def GPORT_STALE : Nat := 19
/-- GPORT ERR_SUMMARY [18]. -/
def GPORT_RX_OVERFLOW : Nat := 18
/-- GPORT ERR_SUMMARY [17]. -/
def GPORT_NARROWED : Nat := 17
/-- GPORT ERR_SUMMARY [16]. -/
def GPORT_DOWN : Nat := 16
/-- ZLINK ERR_SUMMARY [21]. -/
def ZLINK_CTRL_DROP : Nat := 21
/-- ZLINK ERR_SUMMARY [20]. -/
def ZLINK_PROTOCOL : Nat := 20
/-- ZLINK ERR_SUMMARY [19]. -/
def ZLINK_E2E_FAIL : Nat := 19
/-- ZLINK ERR_SUMMARY [18]. -/
def ZLINK_CRC_ERR : Nat := 18
/-- ZLINK ERR_SUMMARY [17]. -/
def ZLINK_NARROW : Nat := 17
/-- ZLINK ERR_SUMMARY [16]. -/
def ZLINK_LINK_FAIL : Nat := 16
/-- SENSAGG ERR_SUMMARY [26]. -/
def SENSAGG_CORE_FENCED : Nat := 26
/-- SENSAGG ERR_SUMMARY [25]. -/
def SENSAGG_TELEM_STALE : Nat := 25
/-- SENSAGG ERR_SUMMARY [24]. -/
def SENSAGG_UCAL_CLAMPED : Nat := 24
/-- SENSAGG ERR_SUMMARY [23]. -/
def SENSAGG_POWER_PEAK : Nat := 23
/-- SENSAGG ERR_SUMMARY [22]. -/
def SENSAGG_RAMP_EXCEEDED : Nat := 22
/-- SENSAGG ERR_SUMMARY [21]. -/
def SENSAGG_TRIP : Nat := 21
/-- SENSAGG ERR_SUMMARY [20]. -/
def SENSAGG_CLAMP : Nat := 20
/-- SENSAGG ERR_SUMMARY [19]. -/
def SENSAGG_REQUEST : Nat := 19
/-- SENSAGG ERR_SUMMARY [18]. -/
def SENSAGG_WARN : Nat := 18
/-- SENSAGG ERR_SUMMARY [17]. -/
def SENSAGG_SENSOR_SPLIT : Nat := 17
/-- SENSAGG ERR_SUMMARY [16]. -/
def SENSAGG_SENSOR_DEAD : Nat := 16
/-- PMBUS ERR_SUMMARY [19]. -/
def PMBUS_RAIL_LOST : Nat := 19
/-- PMBUS ERR_SUMMARY [18]. -/
def PMBUS_RAIL_FAULT : Nat := 18
/-- PMBUS ERR_SUMMARY [17]. -/
def PMBUS_PMBUS_ERR : Nat := 17
/-- PMBUS ERR_SUMMARY [16]. -/
def PMBUS_SWITCHOVER : Nat := 16
/-- PLATE ERR_SUMMARY [19]. -/
def PLATE_LIFE_END : Nat := 19
/-- PLATE ERR_SUMMARY [18]. -/
def PLATE_LIFE_WARN : Nat := 18
/-- PLATE ERR_SUMMARY [17]. -/
def PLATE_WRITE_FAIL : Nat := 17
/-- PLATE ERR_SUMMARY [16]. -/
def PLATE_RECORD_BAD : Nat := 16
/-- FLASH ERR_SUMMARY [17]. -/
def FLASH_ACT_CANCELLED : Nat := 17
/-- FLASH ERR_SUMMARY [16]. -/
def FLASH_STAGE_FAIL : Nat := 16
/-- BOOTP ERR_SUMMARY [17]. -/
def BOOTP_WDOG_EXPIRED : Nat := 17
/-- BOOTP ERR_SUMMARY [16]. -/
def BOOTP_FALLBACK : Nat := 16
/-- MGMTP ERR_SUMMARY [17]. -/
def MGMTP_WDOG_EXPIRED : Nat := 17
/-- MGMTP ERR_SUMMARY [16]. -/
def MGMTP_FALLBACK : Nat := 16
/-- SECENG ERR_SUMMARY [16]. -/
def SECENG_ATT_FAIL : Nat := 16
end Err

end Sys2Proof.Machine
end

