-- ==== Sys2Proof/Machine/State.lean ====
section
/-! DEFINITION. The state of one FM3251 package, as plain data: memory, facet registers, and the
internal state of every unit the manual names. Registers whose fields are views of structural state
are computed when read (Machine/Flags.lean); every other register field lives in `State.regs`.
Unit tables are sparse: a unit with no entry is in its reset state. -/

namespace Sys2Proof.Machine

/-- Reasons a command stops the model with a fault. A frame fault of the manual is no stop of the
machine but an effect on State. -/
inductive Fault where
  /-- The command names a unit that the package does not have (R42). Raised by every command that
  carries a unit number. Safe: no such command can reach the package. -/
  | noSuchUnit
deriving DecidableEq, Repr

/-- Reasons a command has no meaning. Safe: the model stops where the hardware goes on. -/
inductive Refusal where
  /-- No meaning yet. Raised by Dispatch only. Safe. -/
  | notModelled (mnemonic : String)
deriving DecidableEq, Repr

/-- Power states (R536). -/
inductive Power where
  | off | aux | hold | ready | run | tripped
deriving DecidableEq, Repr

/-! ## Register accesses of one cc (R54, R57) -/

/-- A register write of the present cc (R57): block entry, offset, place of its requester in R57's order, the
value written, the value before it, and whether LOCK kept its RWL fields out. -/
structure Access where
  block : Nat
  off : Nat
  rank : Nat
  value : Nat
  base : Nat
  locked : Bool
deriving DecidableEq, Repr

/-- What the present cc has done to the facets: cc + 1, the bits of ERR_SUMMARY that the device has set in it
(R54), by block entry, and the register writes in it, latest last (R57). -/
structure RegCc where
  at_ : Nat
  sets : List (Nat × Nat)
  writes : List Access
deriving DecidableEq, Repr

/-! ## The loaded frame program (R90-R92) -/

/-- A section of the loaded program: kind, target and contents (R91, R92). -/
structure Section where
  kind : Nat
  ty : Nat
  inst : Nat
  body : List Byte
deriving DecidableEq, Repr

/-- The loaded program: the header's fields (R90), the slot class map (R64) and the sections, which
are the contents of the units' program memories. -/
structure Program where
  slots : Nat
  stretchMax : Nat
  refreshAct : Nat
  start : Nat
  stop : Nat
  programId : Nat
  domainId : Nat
  masterId : Nat
  tickParent : Nat
  tickChildren : Nat
  map : List Nat
  sections : List Section
deriving DecidableEq, Repr

/-! ## Frame timer (03) -/

/-- A tick marker waiting to be sent (R74): the cc it departs in and its fields. -/
structure MarkerOut where
  due : Nat
  hops : Nat
  masterId : Nat
  frame : Nat
  delay : Nat
  stretch : Nat
  resync : Bool
deriving DecidableEq, Repr

/-- The frame timer: the place in the frame, the tick's discipline and the load in progress. -/
structure FTimer where
  /-- cc of the last local tick (R70). -/
  tickAt : Nat
  /-- cc of the tick before. -/
  prevTick : Nat
  /-- Frame number, 48 bits (R84). -/
  frame : Nat
  /-- Frame number by which the roles of row units and read paths are rotated: it follows `frame` at cc 45-52 (R70, R145). -/
  roles : Nat
  /-- Trim of the current boundary slot in cc (R80). -/
  trim : Int
  /-- Stretch slots of the current frame (R88, R89). -/
  stretch : Nat
  /-- The marker STRETCH applied last (R88), and those of the markers matched to the frame before, by the
  frame they stretch. -/
  markStretch : Nat
  stretchFor : List (Nat × Nat)
  /-- Stretch slots of the frame just ended (R232). -/
  stretchPrev : Nat
  /-- PSTATE 0-4 and CODE (R106, R96). -/
  pstate : Nat
  code : Nat
  /-- The current frame runs the program's slot class map, not the idle schedule's (R86, R565). -/
  onProg : Bool
  /-- Unload requested for the next boundary slot (R106). -/
  unloadReq : Bool
  /-- The program has ended at this boundary and is unloaded at its cc 45, after its last commit. -/
  ending : Bool
  /-- Consecutive marked frames with |e| at most 25 ns, up to 16 (R81). -/
  goodRun : Nat
  /-- Consecutive missed markers while running, up to 8 (R82). -/
  missRun : Nat
  /-- Frames matched by a marker, latest first (R640). -/
  matched : List Nat
  /-- Skew of the latest matched frame: frame, e in 0.125 ns (R79). -/
  lastE : Option (Nat × Int)
  /-- A marker matched before its frame's tick: frame, arrival, d, stretch (R79). -/
  early : Option (Nat × Nat × Nat × Nat)
  /-- RESYNC frames still to send (R85, R106). -/
  resyncLeft : Nat
  /-- Markers to send (R74). -/
  out : List MarkerOut
  /-- Highest action offset of R70 performed in this boundary slot (each once, R85). -/
  doneStage : Nat
  /-- A fault has been raised for the current frame / the frame just ended (R385, R560). -/
  faulted : Bool
  faultedPrev : Bool
  /-- Units that have marked done are flagged in their own state; the units that have not at the tick are found by R97. -/
  halted : Bool
  /-- Stack nodes whose cores a halt has stopped, with the first cc in which they issue nothing more: the
  end of the issue group in which it reached them (R131, R359). -/
  stops : List (Nat × Nat)
  /-- Nodes whose other units a Chord HALT has reached (R563); 32 is the root. -/
  reached : List Nat
  /-- 1 + the cc in which the recorded local fault was raised; 0 for none (R573). -/
  faultAt : Nat
  /-- Cores gated by a halt (R359, R566). -/
  gated : Bool
  /-- Port on which a peer's halt block came in (R447); 32 for none. -/
  haltFrom : Nat
  /-- Outside drive of HALT_N is low (R362). -/
  haltLow : Bool
  /-- A TRIP has reached every node, so that the package is tripped once the last clocks are gated (R359, R515). -/
  tripGate : Bool
  /-- Nodes that a TRIP has reached, each with the cc from which its units' clocks are gated: cc 0 of the slot
  after (R359). -/
  tripAt : List (Nat × Nat)
  /-- The signature formed at the tick and not yet closed: frame, S (R589). -/
  sigNext : Option (Nat × Nat)
  /-- Latches of FRAME_HI, SIG_HI/SIG_FRAME and FAULT_FRAME_HI (R106, R590, R573). -/
  latchHi : Nat
  latchSigHi : Nat
  latchSigFrame : Nat
  latchFaultHi : Nat
deriving DecidableEq, Repr

/-! ## M-cores (04) -/

/-- A MAC operation in the pipe (R124, R125, R140). -/
structure MacRun where
  op : MacOp
  issue : Nat
  /-- First weight line in the operand store. -/
  wline : Nat
  /-- Next step to issue. -/
  step : Nat
  firstStep : Option Nat
  lastStep : Nat
  /-- Lines the MAC reader has read (R124), and those of them that no step has taken. -/
  read : Nat
  buf : List (List Byte)
  /-- Scale lines of the group in progress. -/
  scaleLines : List (List Byte)
  /-- Lane accumulators of the logical row units (R164). -/
  acc : List (List Word)
deriving DecidableEq, Repr

/-- Results on their way to the accumulator rows (R140). -/
structure Writeback where
  due : Nat
  firstStep : Nat
  arow : Nat
  rumask : Nat
  add : Bool
  acc : List (List Word)
deriving DecidableEq, Repr

/-- A finisher pass (R136): destination fixed at issue, rows read so far. -/
structure FinRun where
  op : FinOp
  pc : Nat
  issue : Nat
  /-- DEST 0: byte address in the operand store. -/
  dst : Nat
  /-- Scales and biases (R136), 128 FP32 each. -/
  sb : List Word
  /-- Rows read: the row index i and its converted inputs, oldest first. -/
  rowsRead : List (Nat × List Word)
  nextRow : Nat
  /-- Rows written so far. -/
  written : Nat
deriving DecidableEq, Repr

/-- What holds a sequencer (R137, R138, R352, R355). -/
inductive Hold where
  | none
  | position (slot cc : Nat)
  | event (line : Nat)
  | barrier (counter round : Nat)
  /-- The condition was met in cc `at`; issue resumes in the next cc. -/
  | releasedAt (cc : Nat)
deriving DecidableEq, Repr

/-- One LOOP in progress: first operation of the body, operation after it, iterations left (R138). -/
structure LoopFrame where
  start : Nat
  stop : Nat
  left : Nat
deriving DecidableEq, Repr

/-- One flit in an injection queue (R325). -/
structure InjFlit where
  at_ : Nat
  flit : Flit
deriving DecidableEq, Repr

/-- What has used an operand store's ports in a cc (R112): the cc plus one, lines read by the load unit, lines read for
the router, and granules written for it, each after its requester: 0 for scheduled traffic, else a packet's number
plus one. -/
structure PortUse where
  cc : Nat
  lda : List Nat
  rd : List Nat
  wr : List (Nat × Nat)
deriving DecidableEq, Repr

/-- An M-core's internal state; its operand store and accumulator file are device memory (R22). -/
structure MCore where
  pc : Nat
  running : Bool
  ended : Bool
  done : Bool
  /-- cc of the latest issue (one per cc, R129), plus one; 0 when none. -/
  issued : Nat
  bases : List Nat
  loops : List LoopFrame
  hold : Hold
  /-- Activation registers: key 32768 × register + 16384 × side + byte (R113). -/
  areg : List (Nat × Byte)
  /-- Register bytes written in this cc, seen from the next (R113). -/
  aregCc : List (Nat × Byte)
  /-- What the MAC reader took in its latest cc: the cc, the first line, how many (R112). -/
  took : Nat × Nat × Nat
  /-- Granules of the operand store that the finisher wrote in its latest cc: cc + 1, granules (R112). -/
  finLines : Nat × List Nat
  /-- Operand-store bytes that the finisher writes in this cc: offset and bytes; the store holds them from its end
  (R112). -/
  finOut : List (Nat × List Byte)
  /-- The other users of the operand store's ports in the latest cc that had any (R112). -/
  ports : PortUse
  /-- First cc after the latest MAC writeback or finisher output (R130). -/
  lastWr : Nat
  /-- Whole lines in the stream buffer with their arrival cc, oldest first (R125). -/
  stream : List (Nat × List Byte)
  /-- Place of the oldest line among the buffer's 64 (R115, R125). -/
  streamAt : Nat
  /-- Halves waiting for their partner, by column 0-3 (R222). -/
  halves : List (Nat × List (List Byte))
  /-- Lines completed (R222). -/
  strLine : Nat
  mac : Option MacRun
  /-- MAC pipe held by FILL until this cc (R129), and the row units that it drives (R144). -/
  fillUntil : Nat
  fillRus : Nat
  wbs : List Writeback
  fins : List FinRun
  finFree : Nat
  /-- LDA lines still to read: operand line, register key of its first byte (R112). -/
  lda : List (Nat × Nat)
  loadFree : Nat
  /-- A CLR in progress: first row, rows, issue cc (R137). -/
  clr : Option (Nat × Nat × Nat)
  clrFree : Nat
  /-- Online-softmax pairs by row, (m, l) (R181); absent: (-inf, +0). -/
  smx : List (Nat × (Word × Word))
  /-- User tables U0-U7, active and staged, 3,104 bytes each; absent: the all-zero record (R192, R193). -/
  tabActive : List (Nat × List Byte)
  tabStaged : List (Nat × List Byte)
  /-- Injection queues and the next SEQ of each (R323, R325). -/
  inj : List (Nat × List InjFlit)
  injSeq : List (Nat × Nat)
  /-- Event line counts, 4 bits (R352), and notices held for the boundary (R350). -/
  events : List (Nat × Nat)
  held : List Nat
  /-- Steps, fill cc, gated products and products of the frame (R144, R150). -/
  steps : Nat
  fillCc : Nat
  gatedN : Nat
  products : Nat
  linesRead : Nat
  /-- The same over the present 1 ms window (R520): array work in 0.1 W × row units, that of FILL,
  products, gated products, lines. -/
  winWork : Nat
  winFill : Nat
  winProd : Nat
  winGated : Nat
  winLines : Nat
  /-- A fence ends issue at this cc, the end of its issue group (R131); 0 when none. -/
  fenceAt : Nat
  /-- Completion-signature value U (R588), and the granules written in this cc that it has not taken
  yet: a cc's records enter in address order. -/
  sig : DWord
  sigCc : List (Nat × List Byte)
deriving DecidableEq, Repr

/-- The reset state of an M-core. -/
def MCore.init : MCore where
  pc := 0
  running := false
  ended := false
  done := false
  issued := 0
  bases := [0, 0, 0, 0, 0, 0, 0, 0]
  loops := []
  hold := .none
  areg := []
  aregCc := []
  took := (0, 0, 0)
  finLines := (0, [])
  finOut := []
  ports := ⟨0, [], [], []⟩
  lastWr := 0
  stream := []
  streamAt := 0
  halves := []
  strLine := 0
  mac := none
  fillUntil := 0
  fillRus := 0
  wbs := []
  fins := []
  finFree := 0
  lda := []
  loadFree := 0
  clr := none
  clrFree := 0
  smx := []
  tabActive := []
  tabStaged := []
  inj := []
  injSeq := []
  events := []
  held := []
  steps := 0
  fillCc := 0
  gatedN := 0
  products := 0
  linesRead := 0
  winWork := 0
  winFill := 0
  winProd := 0
  winGated := 0
  winLines := 0
  fenceAt := 0
  sig := 0
  sigCc := []

/-! ## V-cores (06) -/

/-- An RLD or RST in flight (R208). -/
structure Remote where
  write : Bool
  dev : Nat
  loc : Nat
  pc : Nat
  /-- Data and outcome once the access has been performed. -/
  result : Option (List Byte × Nat)
deriving DecidableEq, Repr

/-- A V-core's internal state; its local memory is device memory (R23). -/
structure VCore where
  pc : Nat
  running : Bool
  done : Bool
  stopped : Bool
  issued : Nat
  sregs : List (Nat × DWord)
  vregs : List (Nat × BitVec 2048)
  /-- First cc in which a reader of the register may issue (R209). -/
  sReady : List (Nat × Nat)
  vReady : List (Nat × Nat)
  /-- Units busy until (R209): 0 scalar divide, 1 vector divide, 2 sort, 3 gather/scatter, 4 generator, 5 local read port. -/
  busy : List (Nat × Nat)
  /-- First cc for the next issue (branches, R209). -/
  nextIssue : Nat
  hold : Hold
  remote : Option Remote
  /-- CSR 6 bit 0, taken when the program is armed (R213). -/
  csrSat : Bool
  events : List (Nat × Nat)
  held : List Nat
  fenced : Bool
  sig : DWord
deriving DecidableEq, Repr

/-- The reset state of a V-core. -/
def VCore.init : VCore where
  pc := 0
  running := false
  done := false
  stopped := false
  issued := 0
  sregs := []
  vregs := []
  sReady := []
  vReady := []
  busy := []
  nextIssue := 0
  hold := .none
  remote := none
  csrSat := false
  events := []
  held := []
  fenced := false
  sig := 0

/-! ## Columns (07, 08, 09) -/

/-- A bank as its controller commands it (R641): open row, and the cc + 1 of the last ACT, of the last
command to the open row and of its last write data (0: none). -/
structure Bank where
  openRow : Option Nat
  /-- A refresh or a scrub step keeps the bank from an ACT before this cc (R218, R265). -/
  held : Nat
  act : Nat
  cmd : Nat
  wr : Nat
  /-- Row steps toward the next activity refresh, owed refreshes, recorded row (R234). -/
  activity : Nat
  owed : Nat
  recorded : Nat
  /-- Row steps charged in this frame (R295). -/
  charged : Nat
deriving DecidableEq, Repr

/-- The reset state of a bank. -/
def Bank.init : Bank := ⟨none, 0, 0, 0, 0, 0, 0, 0, 0⟩

/-- A layer's refresh state (R231, R232). -/
structure Layer where
  interval : Nat
  debt : Nat
  pointer : Nat
deriving DecidableEq, Repr

/-- The reset state of a layer: 8 ms until its first valid read (R231). -/
def Layer.init : Layer := ⟨2, 0, 0⟩

/-- A request at a column (R224, R229): who, where, and what to do with the reply. -/
structure PortReq where
  src : PortSrc
  sched : Bool
  write : Bool
  aop : Nat
  /-- Column offset of the first granule, and granules asked for. -/
  off : Nat
  count : Nat
  /-- The bytes of a granule it covers: offset and width of each run. -/
  parts : List (Nat × Nat)
  data : List Byte
  /-- Packet that asked, or the mover's own number for the access. -/
  handle : Nat
  arrived : Nat
  /-- Granules served, data read, units found uncorrectable, last data cc. -/
  next : Nat
  got : List Byte
  bad : List Nat
  ready : Nat
  /-- First cc, plus 1, of a scheduled transfer that was accepted and that its ACT has delayed (R228, R641); 0 for others. -/
  begun : Nat
deriving DecidableEq, Repr

/-- What the data bonds of a column carry in a cc (R217): granules, and whether they are read. -/
structure DataCc where
  cc : Nat
  grans : Nat
  read : Bool
deriving DecidableEq, Repr

/-- A window in progress (R222, R224): its schedule entry; the first cc of its next transfer, transfers
made; the last cc of a PORT window. -/
structure Window where
  entry : Nat
  next : Nat
  made : Nat
  stop : Nat
deriving DecidableEq, Repr

/-- A row step in progress (R286): entry index, from the queue?, operation and rows, its refusal code (0 runs). -/
structure RowStep where
  entry : Nat
  queued : Bool
  step : Nat
  last : Bool
  op : Nat
  a : Nat
  b : Nat
  d : Nat
  pattern : Nat
  start : Nat
  code : Nat
  /-- Completion event word ARG [31:22] and the request's handle for R382. -/
  evt : Nat
  handle : Nat
deriving DecidableEq, Repr

/-- A queued row-engine request (R298) with its next step. -/
structure ReqEntry where
  count : Nat
  addr : Nat
  arg : Nat
  next : Nat
  handle : Nat
deriving DecidableEq, Repr

/-- One correction-log entry (R268). -/
structure LogEntry where
  row : Nat
  slot : Nat
  bit : Nat
  pass : Nat
  bond : Nat
deriving DecidableEq, Repr

/-- What the scrubber does next (R265, R270). -/
inductive ScrubPhase where
  | read
  | writeBack (row : Nat) (found : List (Nat × Nat))
  | verify (row : Nat) (found : List (Nat × Nat))
  | reread (row : Nat)
  | repairRead (row : Nat)
  | repairWrite (row : Nat) (found : List (Nat × Nat))
deriving DecidableEq, Repr

/-- A stream transfer whose row its column has seen to (R641): the schedule entry, the transfer's number in it, its column
offset, and its data cc. -/
structure Fly where
  entry : Nat
  made : Nat
  off : Nat
  data : Nat
deriving DecidableEq, Repr

/-- A column controller. -/
structure Column where
  /-- Next schedule entry, and the window in progress. -/
  entry : Nat
  window : Option Window
  /-- Stream transfers commanded and not yet made; the next one to command (entry and number), and the data cc of the one
  commanded last (R641). -/
  fly : List Fly
  cmdNext : Nat × Nat
  cmdLast : Nat
  queue : List PortReq
  banks : List (Nat × Bank)
  /-- Last ACT of each layer's banks, cc + 1 (tRRD). -/
  layers : List (Nat × Layer)
  /-- ROWENG entry in progress or to come: entry index and next step or place (R287, R299). -/
  rowEntry : Nat × Nat
  /-- Start of the column's previous row step, cc + 1. -/
  lastRow : Nat
  /-- First cc after the span that the latest QUEUE entry reserves (R287, R299). -/
  reserved : Nat
  steps : List RowStep
  reqs : List ReqEntry
  /-- What the data bonds carry in the cc to come (R217, R224, R265), and cc + 1 of the last adder operation (R242). -/
  data : List DataCc
  addAt : Nat
  /-- cc + 1 of the start of the last slot in which the layers acted (R233). -/
  slotDone : Nat
  /-- First cc after the last window that ended, and after the last data of an accepted request. -/
  free : Nat
  lastData : Nat
  hot : Nat
  slip : Nat
  adds : Nat
  stepsRun : Nat
  stepsRefused : Nat
  /-- Scrubber: row index of the next Read, due steps, cc of the next due step, passes, phase, row written since the Read (R263-R266). -/
  scrubPtr : Nat
  scrubDue : Nat
  scrubAt : Nat
  scrubRate : Nat
  scrubPasses : Nat
  scrubPhase : ScrubPhase
  scrubDirty : Bool
  log : List LogEntry
  /-- Bonds and cells (row, granule, bit) judged hard and waiting for repair (R267, R271). -/
  hardBonds : List Nat
  hardCells : List (Nat × Nat × Nat)
  /-- A repair that takes effect at cc 40 of its slot: row, spare row, the granules it corrects (R270). -/
  rowPend : Option (Nat × Nat × List (Nat × Nat))
  /-- Bonds judged hard for which no spare was free (R272). -/
  deadBonds : List Nat
  /-- Free-value counters of the column's timing calibrations, oldest first, and how many had run when a spare bond was
  taken (R238, R271). -/
  cals : List Nat
  spareCals : List (Nat × Nat)
  /-- cc + 1 of the start of the last slot in which the column calibrated (R238), and of its last repair (R277). -/
  calAt : Nat
  repairAt : Nat
  /-- Repair tables: row → spare row, bond → spare bond; spares out of use (R269). -/
  rowMap : List (Nat × Nat)
  bondMap : List (Nat × Nat)
  badRows : List Nat
  badBonds : List Nat
  done : Bool
  fenced : Bool
  sig : DWord
deriving DecidableEq, Repr

/-- The reset state of a column controller. -/
def Column.init : Column where
  entry := 0
  window := none
  fly := []
  cmdNext := (0, 0)
  cmdLast := 0
  queue := []
  banks := []
  layers := []
  rowEntry := (0, 0)
  lastRow := 0
  reserved := 0
  steps := []
  reqs := []
  data := []
  addAt := 0
  slotDone := 0
  free := 0
  lastData := 0
  hot := 0
  slip := 0
  adds := 0
  stepsRun := 0
  stepsRefused := 0
  scrubPtr := 0
  scrubDue := 0
  scrubAt := 0
  scrubRate := 0x15180
  scrubPasses := 0
  scrubPhase := .read
  scrubDirty := false
  log := []
  hardBonds := []
  hardCells := []
  rowPend := none
  deadBonds := []
  cals := []
  spareCals := []
  calAt := 0
  repairAt := 0
  rowMap := []
  bondMap := []
  badRows := []
  badBonds := []
  done := false
  fenced := false
  sig := 0

/-! ## SLM (07) -/

/-- A request at the SLM (R250). -/
structure SlmReq where
  sched : Bool
  write : Bool
  aop : Nat
  addr : Nat
  data : List Byte
  packet : Nat
  arrived : Nat
  /-- The line that a fill has brought, for the cache (R247). -/
  fill : Bool
deriving DecidableEq, Repr

/-- A general-cache line (R247): tag (direct address / 256), bytes. Key: (granule × 4096 + set) × 16 + way. -/
structure CacheLine where
  tag : Nat
  data : List Byte
deriving DecidableEq, Repr

/-- A line on its way to the general cache (R247, R312): the packet that fetches it, the line, the tick of the frame in
which it was asked for, whether the cache may keep it, and the units (packet, number) that wait for it. -/
structure CacheFill where
  packet : Nat
  line : Nat
  tick : Nat
  keep : Bool
  units : List (Nat × Nat)
  /-- Of a line that has come: the status of its packet, and granules found uncorrectable. -/
  status : Nat
  bad : List Nat
deriving DecidableEq, Repr

/-- The SLM: kinds, general cache, the requests at its banks. -/
structure Slm where
  partNow : Nat
  lines : List (Nat × CacheLine)
  /-- Tree pseudo-LRU bits of each set: key granule × 4096 + set. -/
  plru : List (Nat × Nat)
  queue : List SlmReq
  /-- Lines asked for, and writes and adder operations passed on to their columns: packet there, packet here (R247). -/
  fills : List CacheFill
  passed : List (Nat × Nat)
  /-- Granules of capacity taken at each bank in a cc: cc + 1, bank and quarters of its 128 bytes (R244). -/
  used : Nat × List (Nat × Nat)
deriving DecidableEq, Repr

/-! ## Routers and die-to-die connections (10) -/

/-- A flit on its way to a router input port: it arrives in cc `due` (R306); the flow record that sent it
orders it among those of one cc (R315). -/
structure Flight where
  router : Nat
  port : Nat
  due : Nat
  flow : Nat
  flit : Flit
deriving DecidableEq, Repr

/-- A flit held by the reduction unit (R327): input port, arrival cc. -/
structure RedFlit where
  port : Nat
  at_ : Nat
  /-- Arrival cc of the item's last flit, plus one, once the item is whole; 0 before. -/
  closed : Nat
  flit : Flit
deriving DecidableEq, Repr

/-- A copy that waits at a local output for its unit (R315, R321): the port, the cc from which it is there,
the address it is for (the SLM, a column, a store), the bytes to write or present, the adder operation, its
flow record and the flit. -/
structure OutCopy where
  port : Nat
  /-- Input port of the flit. -/
  inp : Nat
  due : Nat
  addr : Nat
  aop : Nat
  data : List Byte
  flow : Nat
  /-- A command has taken it to its unit in this cc; its record is made at the end of the cc. -/
  taken : Bool
  flit : Flit
deriving DecidableEq, Repr

/-- A router's internal state. -/
structure Router where
  /-- Flits passed in this frame, by slot × 65536 + flow record index (R314). -/
  passed : List (Nat × Nat)
  red : List RedFlit
  /-- Scheduled copies waiting at a local output (R315). -/
  outq : List OutCopy
  sent : Nat
  done : Bool
  sig : DWord
  /-- Injection flits taken in a cc by flow record (R325): cc + 1, record and count. -/
  inj : Nat × List (Nat × Nat)
deriving DecidableEq, Repr

/-- The reset state of a router. -/
def Router.init : Router := ⟨[], [], [], 0, false, 0, (0, [])⟩

/-- An unscheduled packet (R312, R318, R319). -/
structure Packet where
  id : Nat
  /-- Router it stands at, router and port it is bound for, where its reply goes. -/
  here : Nat
  dest : Nat
  port : Nat
  sub : Nat
  replyRouter : Nat
  replyPort : Nat
  replySub : Nat
  rtag : Nat
  isReply : Bool
  write : Bool
  aop : Nat
  /-- Data flits - 1. -/
  len : Nat
  addr : Nat
  data : List Byte
  status : Nat
  /-- Units (of 32 bytes) that were uncorrectable, for R276/R480. -/
  badUnits : List Nat
  /-- Entered the mesh (R319). -/
  entered : Bool
  /-- cc from which it stands at its router, or its reply is ready to enter. -/
  ready : Nat
deriving DecidableEq, Repr

/-- One unit of a packet at a core's store: its packet and number, and, once served, its status and data. -/
structure CoreReq where
  packet : Nat
  unit : Nat
  got : Option (Nat × List Byte)
deriving DecidableEq, Repr

/-- One end of a die-to-die connection (R305, R332-R334). -/
structure D2DEnd where
  width : Nat
  half : Nat
  ready : Bool
  tstate : Nat
  /-- Lanes this end holds good, 46 bits; the peer's mask at the last handshake. -/
  mask : Nat
  peer : Nat
  /-- Handshake: this end was the one reset; marker or reply on its way to this end (mask, width). -/
  resetEnd : Bool
  inMarker : Option Nat
  inReply : Option (Nat × Nat)
  inWidth : Option Nat
  /-- Enable at the next boundary slot at this width (R332), or fall to it (R307). -/
  pendWidth : Option Nat
  disagreeRun : Nat
  /-- Halves whose spare is in use, bit by bit. -/
  spareUsed : Nat
  /-- cc + 1 in which the lane test began (R543). -/
  testAt : Nat
  /-- Free-value counters of the end's calibrations, oldest first, and cc + 1 of the start of the slot of the last (R307). -/
  cals : List Nat
  calAt : Nat
  fenced : Bool
deriving DecidableEq, Repr

/-- The reset state of a die-to-die end. -/
def D2DEnd.init : D2DEnd := ⟨0, 0, false, 0, 0, 0, false, none, none, none, none, 0, 0, 0, [], 0, false⟩

/-! ## Chord network (11) -/

/-- A message class with its type (R345). -/
inductive ChordKind where
  /-- A copy of the HALT on its way to one node (R339), with its cause. -/
  | halt (cause : Nat)
  | fence (blk : Nat)
  /-- A frame fault of a block: its cause, its frame and the cc in which it was raised. -/
  | fault (blk cause frame at_ : Nat)
  /-- A peer's halt on its way from a Garlet port to the root (R447, R570): the block's fields. -/
  | peerHalt (port cause source hops frame : Nat)
  | therm (sensor level : Nat)
  | event (blk line : Nat)
  | arrive (counter : Nat) (wait : Bool) (who : Option CoreId)
  | release (counter round node : Nat)
  | notice (blk line cls : Nat)
  /-- A copy of the TRIP on its way to one node (R339, R359). -/
  | trip
  /-- A register access on its way to its facet's node (RD_REQ, WR_REQ of R346), and the answer on its way back
  (RD_RSP, WR_RSP): requester, write, tag, facet address, data or status. -/
  | access (who : Requester) (write : Bool) (tag addr data : Nat)
  | answer (who : Requester) (write : Bool) (tag addr status data : Nat)
  /-- A sensor's value on its way to the aggregator (TELEM of R345). -/
  | telem (sensor : Nat) (value : Int)
  /-- The copy into a page, and the cc of its end (R382). -/
  | copyEnd (handle at_ : Nat)
deriving DecidableEq, Repr

/-- A message, or one word of a SERVICE packet, on its way (R339-R342, R346): the node it stands at, or moves to, and the cc in which it could
start to leave it; its place in the order of R342 (a local unit's number, 64 + a child's, 128 for the
parent); its lane and priority (0 URGENT, 1 notice, 2 SERVICE, 3 SYNC). -/
structure ChordMsg where
  id : Nat
  kind : ChordKind
  src : Nat
  node : Nat
  at_ : Nat
  ready : Nat
  rank : Nat
  lane : Nat
  /-- cc in which it is applied, once it has reached its node (R341, R348, R355). -/
  landed : Option Nat
  /-- SERVICE packet still held at entry (R347, R350). -/
  held : Bool
  /-- Number of the packet's first word, and how many of its words come after this one (R346). -/
  pkt : Nat
  more : Nat
deriving DecidableEq, Repr

/-- A barrier counter (R355): count and round. -/
structure Barrier where
  count : Nat
  round : Nat
deriving DecidableEq, Repr

/-- The Chord network: messages in flight, barrier counters (numbered as in R354), hub event flags. -/
structure Chord where
  nextId : Nat
  msgs : List ChordMsg
  /-- Lanes in use: key (64 × node + next node) × 2 + lane (0 A, 1 S), first free cc (R340). -/
  busy : List (Nat × Nat)
  bars : List (Nat × Barrier)
  /-- Event flags of the hub targets: key block entry index, 32 bits (R353). -/
  flags : List (Nat × Nat)
  /-- A HALT that the root has raised and that has not yet acted at the root: its cause, the cc in which the
  root sends it, and whether it has been sent (R359, R360, R570); the cc of a TRIP sent. -/
  halt : Option (Nat × Nat × Bool)
  trip : Option Nat
deriving DecidableEq, Repr

/-! ## Prefix engine (12) -/

/-- A staged KV request (R375). -/
structure KvReq where
  frame : Nat
  code : Nat
  result : Bool
  ord : Nat
  target : Nat
  hash : Nat
  owner : Nat
  evt : Nat
  /-- cc in which its staging is finished, or 0 while it waits (R377). -/
  staged : Nat
  /-- Error code found on its arrival, raised in its frame (R377, R380), or 0. -/
  bad : Nat
deriving DecidableEq, Repr

/-- The prefix engine; directory and prefix table are device memory (R373, R389). -/
structure Prefix where
  reqs : List KvReq
  /-- cc in which the engine has staged all it holds (R377). -/
  stagedAt : Nat
  /-- Requests that wait for their staging, in order of arrival: frame and ORD. -/
  waiting : List (Nat × Nat)
  /-- Lines of 256 bytes that the kind-2 granules hold, by address, newest first (R245, R377). -/
  lines : List Nat
  /-- Lines read for the request in staging, and reads under way: packet and line (R377). -/
  got : List Nat
  asks : List (Nat × Nat)
  /-- Misses since load, saturating (R394). -/
  misses : Nat
  /-- Copy pins: source handle, number of the copy, cc + 1 of the reported end or 0 (R382). -/
  pins : List (Nat × Nat × Nat)
  /-- Number of the next copy. -/
  copyNo : Nat
  /-- Handles pinned for the current frame. -/
  framePins : List Nat
  /-- Declared writes not yet settled: handle, frame (R384). -/
  log : List (Nat × Nat)
  flushed : Bool
  flushPending : Bool
  sig : DWord
deriving DecidableEq, Repr

/-- The reset state of the prefix engine. -/
def Prefix.init : Prefix := ⟨[], 0, [], [], [], [], 0, [], 0, [], [], false, false, 0⟩

/-! ## Movers and mailboxes (13) -/

/-- Where a descriptor's loops stand (R398): source and destination elements so far, and the bytes held. -/
structure Walk where
  src : Nat
  dst : Nat
  hold : List Byte
deriving DecidableEq, Repr

/-- A stack mover. -/
structure SMover where
  desc : Nat
  running : Bool
  halted : Bool
  done : Bool
  /-- Descriptor completed in cc, plus one: the next starts no earlier. -/
  freeAt : Nat
  walk : Walk
  /-- Descriptors whose OWN the working copy has cleared in this frame. -/
  cleared : List Nat
  rx : List Flit
  /-- Next SEQ expected on a FLIT source. -/
  rxSeq : Nat
  moved : Nat
  fenced : Bool
  /-- A descriptor runs since this cc. -/
  active : Bool
  startAt : Nat
  /-- Source accesses issued and not yet in the holding register, oldest first: number, bytes asked for,
  the cc in which they are there and the bytes, once read. -/
  reads : List (Nat × Nat × Option (Nat × List Byte))
  /-- Number of the next access; destination writes issued and not yet accepted. -/
  seq : Nat
  writes : Nat
  /-- cc + 1 of the last destination access accepted (R407). -/
  lastAt : Nat
  /-- Accesses of a cc: cc + 1, of the source side, of the destination side (R401). -/
  used : Nat × Nat × Nat
deriving DecidableEq, Repr

/-- The loops at their start. -/
def Walk.init : Walk := ⟨0, 0, []⟩

/-- The reset state of a stack mover. -/
def SMover.init : SMover :=
  ⟨0, false, false, false, 0, Walk.init, [], [], 0, 0, false, false, 0, [], 0, 0, 0, (0, 0, 0)⟩

/-- An outstanding request of a hub channel: key (packet id or Zeleri tag), direction, address, deadline
(R410, R412); of a source access the runs of bytes it covers (offset, width), and the bytes once there. -/
structure HReq where
  key : Nat
  host : Bool
  dir : Nat
  addr : Nat
  deadline : Nat
  parts : List (Nat × Nat)
  data : Option (List Byte)
deriving DecidableEq, Repr

/-- A hub mover channel (R408-R415). -/
structure HMover where
  enabled : Bool
  ringBase : Nat
  ringSize : Nat
  head : Nat
  running : Bool
  halted : Bool
  waiting : Bool
  /-- The descriptor being run, 64 bytes. -/
  desc : List Byte
  walk : Walk
  reqs : List HReq
  /-- What the channel does with the descriptor in its ring: 0 nothing, 1 reads its CTRL word, 2 the rest (R409), 3 writes
  OWN back (R411); of a SKIP, 4 reads CTRL, 5 writes OWN back (R415). -/
  stage : Nat
  /-- Writes issued before a bus error, which complete all the same (R414): key, to the host, bytes. -/
  orphans : List (Nat × Bool × Nat)
  moved : Nat
  fenced : Bool
deriving DecidableEq, Repr

/-- The reset state of a hub channel. -/
def HMover.init : HMover := ⟨false, 0, 0, 0, false, false, false, [], Walk.init, [], 0, [], 0, false⟩

/-- A mailbox queue (R417-R427). -/
structure MBox where
  /-- Entries by index 0-1,023 (16 bytes each); absent: zero. -/
  entries : List (Nat × List Byte)
  resv : Nat
  commit : Nat
  /-- Where COMMIT goes, one entry per cycle of the writer: RESV at the last close (R419, R421). -/
  commitTo : Nat
  rd : Nat
  /-- The two stages of the synchronisers of COMMIT and RD, as Gray code (R419). -/
  cSync : Nat × Nat
  rSync : Nat × Nat
  /-- The same of RESV, which the facet of an inbound queue shows (R429). -/
  vSync : Nat × Nat
  /-- Resets of the queue so far, by which a packet under way knows that one has met it (R427, R481); cc + 1 of the last write
  of its SRAM (R261). -/
  era : Nat
  wroteAt : Nat
  isOpen : Bool
  /-- Header entry of the open packet; an append of it was dropped. -/
  openAt : Nat
  trunc : Bool
  /-- The open found no free entry: appends and close are discarded. -/
  dropping : Bool
  lastRead : List Byte
  /-- Stale timer start, cc + 1 (0: stopped); notice sent since the last read (R424). -/
  timer : Nat
  noticed : Bool
  fenced : Bool
deriving DecidableEq, Repr

/-- The reset state of a mailbox queue. -/
def MBox.init : MBox := ⟨[], 0, 0, 0, 0, (0, 0), (0, 0), (0, 0), 0, 0, false, 0, false, false, [], 0, false, false⟩

/-! ## Garlet ports (14) -/

/-- A received flit: the frame it belongs to, and the cc of its arrival (R99, R441). -/
structure RxFlit where
  frame : Nat
  flit : Flit
  at_ : Nat
deriving DecidableEq, Repr

/-- A Garlet port. -/
structure GPort where
  tstate : Nat
  width : Nat
  ownMask : Nat
  peerMask : Nat
  peerPort : Nat
  peerTag : Nat
  rounds : Nat
  /-- cc in which the present training step began (R100, R451). -/
  trainAt : Nat
  /-- Transmit lane set in use, and the one to come with the earliest cc of its change (R457). -/
  lanes : Nat
  swapTo : Option (Nat × Nat × Nat)
  /-- Lane set and width of the receive side, those to come with the cc of their change, and cc of a receive group
  (R457). -/
  rxLanes : Nat
  rxWidth : Nat
  rxTo : Option (Nat × Nat × Nat)
  rxAt : Nat
  /-- FIR preset of its transmit side, in force since its last training (R451, R529). -/
  preset : Int
  /-- cc of the first group after training (R432). -/
  groupAt : Nat
  rx : List RxFlit
  /-- Transmit queue with the cc in which each flit enters it (R435). -/
  tx : List Flight
  /-- Port schedule: flits released of each entry (R439). -/
  released : List (Nat × Nat)
  done : Bool
  /-- An echo due in this cc (R77); the probe not yet answered, by the cc of its departure (R450); cc + 1 of
  the last calibration and of the last control block sent (R446). -/
  echoDue : Option Nat
  probeAt : Option Nat
  calAt : Nat
  ctrlAt : Nat
  /-- The control block of that cc; a probe that waits for a free cc (R446); the SWAP block of a lane change has been sent
  (R457). -/
  ctrlNow : BitVec 128
  probeWait : Bool
  swapSent : Bool
  /-- Connection mask that the port capacity vector shows while a lane change is undecided (R457). -/
  connMask : Nat
  /-- Control blocks waiting for a free cc (R446), and blocks received whose own row has not come. -/
  ctrl : List (BitVec 128)
  ctrlIn : List (BitVec 128)
  fenced : Bool
deriving DecidableEq, Repr

/-- The reset state of a Garlet port. -/
def GPort.init : GPort where
  tstate := 0
  width := 0
  ownMask := 0
  peerMask := 0
  peerPort := 0x1F
  peerTag := 0
  rounds := 0
  trainAt := 0
  lanes := 0
  swapTo := none
  rxLanes := 0
  rxWidth := 0
  rxTo := none
  rxAt := 0
  preset := 0
  groupAt := 0
  rx := []
  tx := []
  released := []
  done := false
  echoDue := none
  probeAt := none
  calAt := 0
  ctrlAt := 0
  ctrlNow := 0
  probeWait := false
  swapSent := false
  connMask := 0
  ctrl := []
  ctrlIn := []
  fenced := false

/-! ## Zeleri link (15) -/

/-- A transaction (R472). -/
structure Transaction where
  ttype : Nat
  tag : Nat
  len : Nat
  aop : Nat
  odd : Bool
  cls : Nat
  addr : Nat
  data32 : Nat
  status : Nat
  source : Nat
  data : List (BitVec 256)
  checks : List Word
deriving DecidableEq, Repr

/-- An admitted MRD or MWR at work (R474): its type, TAG and address; and for each of its 32-byte units its
status and the data read, `none` while its packet has not been answered. -/
structure ZlJob where
  ttype : Nat
  tag : Nat
  addr : Nat
  units : List (Option (Nat × List Byte))
deriving DecidableEq, Repr

/-- A group kept until it is acknowledged (R469): its SEQ, flits and control block, and the cc of its last sending. -/
structure SentGroup where
  seq : Nat
  flits : List (BitVec 256)
  ctrl : BitVec 128
  sentAt : Nat
deriving DecidableEq, Repr

/-- A mailbox packet of the host whose commit is under way (R481): TAG, queue, the pointer that COMMIT is to reach, resets of
the queue when it was written, its status, and whether a link failure has taken its completion (R471). -/
structure MbxJob where
  tag : Nat
  queue : Nat
  goal : Nat
  era : Nat
  status : Nat
  lost : Bool
deriving DecidableEq, Repr

/-- The Zeleri link. -/
structure Zeleri where
  tstate : Nat
  /-- cc in which the present training step began (R100, R483). -/
  trainAt : Nat
  width : Nat
  half : Nat
  lanes : Nat
  /-- FIR preset of its transmit side, in force since its last training (R483, R529). -/
  preset : Int
  /-- Receive: next SEQ expected, a NAK is to be sent, the group before was a replay (R468). -/
  expect : Nat
  nakSend : Bool
  sawReplay : Bool
  /-- cc in which the link became READY: its groups follow one another from there (R466). -/
  readyAt : Nat
  /-- Transmit: next SEQ, groups kept for replay, flits not yet in a group (of a DEVEVT, which is made when it leaves, its
  line), SEQs still to be sent again, the ACK and CREDIT of the group sent last (R467, R469, R482). -/
  nextSeq : Nat
  replay : List SentGroup
  waiting : List (BitVec 256 × Option Nat)
  resend : List Nat
  lastSent : Nat × Nat
  /-- SEQ of the last group of a resend that is not yet acknowledged (R469, R470). -/
  replayTo : Option Nat
  /-- Start of the open retry episode of each direction, cc + 1, and groups that the receiver must still accept to close its
  own (R470). -/
  rxEpisode : Nat
  rxLeft : Nat
  txEpisode : Nat
  /-- Flits of a transaction still being received; transactions waiting for admission; admitted (R474). -/
  partialFlits : List (BitVec 256)
  held : List Transaction
  admitted : List Transaction
  /-- The first of the held ones were received before the link last became READY: they take none of its credit (R476). -/
  heldOld : Nat
  /-- Arrival of the last flit of a transaction that still waits, in cc (R101): key 256 × type + TAG. -/
  arrivals : List (Nat × Nat)
  /-- Flits admitted of the transactions that are still held: cc + 1 to which they are counted, and their number (R474). -/
  admitAt : Nat × Nat
  /-- Transactions of before a link failure, type and TAG, whose completions are discarded; the one now taken is such a
  one (R471). -/
  lost : List (Nat × Nat)
  mute : Bool
  /-- Admitted MRD and MWR whose units are on their way as packets (R312, R474). -/
  jobs : List ZlJob
  /-- Packets of MBX whose commit is under way (R481). -/
  mbxJobs : List MbxJob
  /-- Requests of the device outstanding: TAG, type, hub channel. -/
  devReqs : List (Nat × Nat × Nat)
  nextTag : Nat
  /-- Flits freed since READY, modulo 65,536 (R476); the peer's CREDIT. -/
  freed : Nat
  peerCredit : Nat
  sentFlits : Nat
  /-- Event lines: pending counts (R482). -/
  lines : List (Nat × Nat)
  /-- Delay probe sent at, in 0.125 ns (R478). -/
  probeAt : Option Nat
  /-- Control blocks to send (markers, halt blocks), and blocks received whose own row has not come. -/
  ctrl : List (BitVec 128)
  ctrlIn : List (BitVec 128)
deriving DecidableEq, Repr

/-! ## Thermal, power, plate (16) -/

/-- A temperature sensor (R503-R508): reading in 1/16 °C, state 0 live, 1 split, 2 dead (pairs keep split on A). -/
structure Sensor where
  value : Int
  valid : Bool
  state : Nat
  splitRun : Nat
  /-- Governing values, latest first, up to 33 (R508). -/
  hist : List Int
  /-- Eight-read clear counters: warn, request, clamp, rate request (R507, R508). -/
  warn : Bool
  request : Bool
  clamp : Bool
  rateReq : Bool
  warnLow : Nat
  requestLow : Nat
  clampLow : Nat
  rateLow : Nat
  /-- Highest level reported to the aggregator and arrived there (R345, R507): 0-3. -/
  seen : Nat
  /-- The aggregator's copy of the reading (R345 TELEM, R533). -/
  shown : Int
deriving DecidableEq, Repr

/-- The reset state of a sensor. -/
def Sensor.init : Sensor := ⟨0, false, 0, 0, [], false, false, false, false, 0, 0, 0, 0, 0, 0⟩

/-- Thermal and power control. -/
structure Thermal where
  sensors : List (Nat × Sensor)
  sReq : Nat
  request : Bool
  met : Bool
  /-- Grace timer in cc, and expiry reached (R511); the frame, plus one, that a marker arrived in time will stretch by
  S_req or more (R102): 0 for none. -/
  graceCc : Nat
  graceOut : Bool
  graceWon : Nat
  clamped : Bool
  clampNow : Bool
  tripped : Bool
  /-- cc + 1 since when every governing value has been below warn (R517). -/
  coolSince : Nat
  /-- Inlet: value, cc + 1 of the item; flow; low since / good since (R514). -/
  inlet : Int
  inletAt : Nat
  inletStale : Bool
  flow : Nat
  flowSeen : Bool
  flowLowAt : Nat
  flowGoodAt : Nat
  lowFlow : Bool
  outlet : Int
  /-- User calibration offsets by index, and those in force at the sensors since their last read (R529). -/
  ucal : List (Nat × Int)
  ucalNow : List (Nat × Int)
  /-- Power: E of the last window and the one before, P (R520), sustained and peak requests, window start. -/
  e : Nat
  ePrev : Nat
  /-- A window has ended since the bring-up (R519); the part of E that the device fill made (R521). -/
  eSeen : Bool
  eFill : Nat
  p : Nat
  pHist : List Nat
  sustained : Bool
  peak : Bool
  windowAt : Nat
  /-- Device fill in tenths of a watt, its phase (0 none, 1 pre-load, 2 end ramp, 3 taper), and E at its start (R521, R522). -/
  fill : Nat
  fillPhase : Nat
  /-- Fill over the present 1 ms window up to its last change, in 0.1 W × cc, and the cc of that change (R520). -/
  fillSum : Nat
  fillAt : Nat
  eIdle : Nat
  taperLine : Int
  taperAt : Nat
  readAt : Nat
  /-- Sum and count of the highest hot spot for the 1 s mean (R525). -/
  hotSum : Int
  hotCount : Nat
  /-- cc of the last swing judgement, and cc + 1 of RAIL_REQ_1 going high (R525, R495). -/
  swingAt : Nat
  noticeAt : Nat
deriving DecidableEq, Repr

/-- A rail (R489, R494-R497): last readings and paths. -/
structure Rail where
  mv : Nat
  deciamps : Nat
  status : Nat
  mainGood : Bool
  backupGood : Bool
  onBackup : Bool
  /-- cc of the switch-over (R496, R497). -/
  switchedAt : Nat
deriving DecidableEq, Repr

/-- The reset state of a rail: both paths good. -/
def Rail.init : Rail := ⟨0, 0, 0, true, true, false, 0⟩

/-- Supplies. -/
structure Supply where
  rails : List (Nat × Rail)
  setMv : List (Nat × Nat)
  retained : Bool
  coreOff : Bool
  loadNotice : Bool
  /-- Quadrants whose DRAM contents are lost (R498). -/
  lost : Nat
  /-- VPP has been lost: the package's operation has ended (R498). -/
  ended : Bool
  /-- Self-refresh commanded: why (0 none, 1 rail, 2 trip, 3 activation). -/
  holdCause : Nat
  selfRefresh : Bool
  /-- cc of the last PMBus poll, and of the cause of the retention hold. -/
  pollAt : Nat
  holdAt : Nat
deriving DecidableEq, Repr

/-- The cold plate as the hub holds it (R523-R528). -/
structure Plate where
  present : Bool
  worn : Bool
  badRecord : Bool
  ident : List Byte
  recA : List Byte
  recB : List Byte
  seq : Nat
  slotB : Bool
  minutes : Nat
  swings : Nat
  /-- Minutes counted since the last record of every 60, and a record due at a life threshold (R526). -/
  sinceWrite : Nat
  writeDue : Bool
  dirUp : Bool
  extreme : Int
  warned : Bool
  ended : Bool
  /-- cc of the last counted minute. -/
  minuteAt : Nat
deriving DecidableEq, Repr

/-! ## Shape, bring-up, Gnomon (02, 17) -/

/-- A die's identity record and feature set (R45, R553). -/
structure Die where
  lot : List Byte
  wafer : Nat
  x : Nat
  y : Nat
  fab : Nat
  testRev : Nat
  dieRev : Nat
  compat : Nat
  /-- Fused feature set, 256 bits (R553). -/
  features : Nat
deriving DecidableEq, Repr

/-- A defect as the defect map lists it (R551). -/
structure DefectEntry where
  block : Nat
  unit : Nat
  source : Nat
  pos : Nat
  spare : Nat
  outcome : Nat
deriving DecidableEq, Repr

/-- Why an entry is in the field defect list (R546, R547). -/
inductive FieldCause where
  /-- A test of a bring-up failed. -/
  | test
  /-- Both sensors of an M-core's pair are dead (R504). -/
  | sensorPair
  /-- A die-to-die connection has gone DOWN (R334). -/
  | connection
  /-- A unit found bad in service. -/
  | service
deriving DecidableEq, Repr

/-- An entry of the field defect list: the defect and its cause. -/
structure FieldEntry where
  defect : Defect
  cause : FieldCause
deriving DecidableEq, Repr

/-- What bring-up decides and the Gnomon reports. -/
structure Shape where
  published : Bool
  unfit : Bool
  gen : Nat
  buildCount : Nat
  /-- Facet page numbers by block entry index; empty: entry i at page 0x100 + i (R637). -/
  place : List Nat
  /-- Block STATE and STATE_DETAIL other than (good, none): key block entry index. -/
  states : List (Nat × (Nat × Nat))
  mcoreMap : List Nat
  vcoreMap : List Nat
  /-- Columns not good at the bring-up (R43). -/
  colsOut : List Nat
  defects : List DefectEntry
  level : Nat
  /-- Fuses: defects, dies (key 0 hub, 1 + s logic dies, 33 + 8s + l layers), SERIAL. -/
  fuseDefects : List Defect
  dies : List (Nat × Die)
  serial : List Byte
  /-- Factory offset of each M-core's sensor pair, 1/16 °C (R504, R529): absent 0. -/
  deltas : List (Nat × Int)
  /-- Factory sensor offsets by index, link transmit presets (0-19 Garlet ports, 20 Zeleri) and DRAM timing by column
  (R529): absent 0. -/
  offsets : List (Nat × Int)
  presets : List (Nat × Int)
  dramTiming : List (Nat × Nat)
  /-- Field defect list in flash (R546), and entries held in hub memory (R548). -/
  fieldDefects : List FieldEntry
  heldDefects : List FieldEntry
  step : Nat
  warm : Bool
deriving DecidableEq, Repr

/-! ## Firmware (19) -/

/-- A flash slot's image (R593): its bytes, and whether the factory put it there. -/
structure Image where
  bytes : List Byte
  factory : Bool
deriving DecidableEq, Repr

/-- A firmware unit (R592, R595, R600-R602). -/
structure FwUnit where
  slotA : Option Image
  slotB : Option Image
  activeB : Bool
  /-- Other slot: 0 empty, 1 staged, 2 trial, 3 rejected, 4 pending (shown as 1). -/
  other : Nat
  floor : Nat
  heldFloor : Option Nat
  version : Nat
  measure : List Byte
  missing : Bool
deriving DecidableEq, Repr

/-- A control processor (R601, R605). -/
structure Proc where
  trial : Bool
  healthy : Bool
  fellBack : Bool
  slotB : Bool
  healthAt : Nat
  wdogAt : Nat
deriving DecidableEq, Repr

/-- Firmware, flash and the security engine. -/
structure Firmware where
  units : List (Nat × FwUnit)
  boot : Proc
  mgmt : Proc
  busy : Bool
  stageUnit : Nat
  armed : Bool
  code : Nat
  recovery : Bool
  chain : List Byte
  revoked : Nat
  attBusy : Bool
  attCmd : Nat
  attCode : Nat
  attLen : Nat
  attFrame : Nat
  attShape : List Byte
  heldUcal : Bool
  ucalFlash : List (Nat × Int)
  /-- The two copies of the image index in flash, each with its CRC-32 (R595); an update of them is held in hub memory
  (R596). -/
  indexA : List Byte
  indexB : List Byte
  heldIndex : Bool
deriving DecidableEq, Repr

/-! ## Pins (20) -/

/-- Sideband pins. -/
structure Pins where
  perstHigh : Bool
  straps : Nat
  factory : Bool
  thermLow : Bool
  haltOwn : Bool
  /-- EVT pin k low until cc (EVENT_OUT, TICK_OUT). -/
  lowUntil : List (Nat × Nat)
  /-- EVT pins at which an outside edge has been seen since reset, bit by bit. -/
  evtSeen : Nat
  i2cOff : Nat
  i2cBlock : List Byte
  i2cOut : List Byte
  i2cReads : Nat
  /-- cc + 1 of the last refresh of the status block (R630). -/
  i2cAt : Nat
  haltCount : Nat
  jtag : Nat
deriving DecidableEq, Repr

/-- What leaves the package on a link or reaches a requester: the model's own record. -/
inductive Out where
  | garletCtrl (port cc : Nat) (b : BitVec 128)
  | garletRecord (port cc : Nat) (rec : BitVec 2000)
  | zeleriGroup (cc : Nat) (data : List (BitVec 256)) (ctrl : BitVec 256)
  | zeleri (t : Transaction)
  | mailRead (q : Nat) (data : List (BitVec 256))
  | i2c (data : List Byte)
  /-- A register access answered at its requester: a processor, or a V-core (R346). -/
  | regAnswer (who : Requester) (addr status : Nat)
deriving DecidableEq, Repr

/-- The package. -/
structure State where
  /-- cc of the core clock since reset: the model's own time (R6). -/
  now : Nat
  /-- Commands waiting, first in, first out. -/
  pending : List Instr
  /-- Draws made from the free values (Config.freeBits). -/
  freeCtr : Nat
  power : Power
  /-- Device memory, alias mapped first; unlisted bytes read as zero. -/
  mem : List Host.Cell
  /-- Stored check bits against those of the stored data, per granule: COLPAR difference [31:16], ROWPAR difference [15:0]. -/
  synd : List (Nat × BitVec 32)
  /-- SRAM granules corrected on read and waiting for their write-back (R261). -/
  writeBacks : List Nat
  /-- Control-memory words held wrong: block, word, and whether it is uncorrectable (R277). -/
  ctrlWords : List (Nat × Nat × Bool)
  /-- Facet registers away from reset: key 4096 × block entry index + offset. -/
  regs : List (Nat × Word)
  /-- What the present cc has done to the facets (R54, R57). -/
  regCc : RegCc
  /-- ENABLE writes held for cc 45-52 (R51): block entry index, the value in effect until then. -/
  heldEnable : List (Nat × Bool)
  ft : FTimer
  prog : Option Program
  mcores : List (Nat × MCore)
  vcores : List (Nat × VCore)
  cols : List (Nat × Column)
  slm : Slm
  routers : List (Nat × Router)
  flights : List Flight
  packets : List Packet
  nextPacket : Nat
  /-- Units of packets at the stores of the cores, in the order of their arrival (R112, R207). -/
  coreReqs : List CoreReq
  d2d : List (Nat × D2DEnd)
  chord : Chord
  kv : Prefix
  smovers : List (Nat × SMover)
  hmovers : List (Nat × HMover)
  mboxes : List (Nat × MBox)
  gports : List (Nat × GPort)
  zl : Zeleri
  th : Thermal
  sup : Supply
  plate : Plate
  shape : Shape
  fw : Firmware
  pins : Pins
  outs : List Out
deriving DecidableEq, Repr

/-! ## Reset -/

/-- The frame timer at reset: idle schedule, frame 0 (R106). -/
def FTimer.init : FTimer where
  tickAt := 0
  prevTick := 0
  frame := 0
  roles := 0
  trim := 0
  stretch := 0
  markStretch := 0
  stretchFor := []
  stretchPrev := 0
  pstate := 0
  code := 0
  onProg := false
  unloadReq := false
  ending := false
  goodRun := 0
  missRun := 0
  matched := []
  lastE := none
  early := none
  resyncLeft := 0
  out := []
  doneStage := 0
  faulted := false
  faultedPrev := false
  halted := false
  stops := []
  reached := []
  faultAt := 0
  gated := false
  haltFrom := 32
  haltLow := false
  tripGate := false
  tripAt := []
  sigNext := none
  latchHi := 0
  latchSigHi := 0
  latchSigFrame := 0
  latchFaultHi := 0

/-- The Zeleri link at reset: off (R488). -/
def Zeleri.init : Zeleri where
  tstate := 0
  trainAt := 0
  width := 0
  half := 0
  lanes := 0
  preset := 0
  expect := 1
  nakSend := false
  sawReplay := false
  readyAt := 0
  nextSeq := 1
  replay := []
  waiting := []
  resend := []
  lastSent := (0, 0)
  replayTo := none
  rxEpisode := 0
  rxLeft := 0
  txEpisode := 0
  partialFlits := []
  held := []
  admitted := []
  heldOld := 0
  arrivals := []
  admitAt := (0, 0)
  lost := []
  mute := false
  jobs := []
  mbxJobs := []
  devReqs := []
  nextTag := 0
  freed := 0
  peerCredit := 0
  sentFlits := 0
  lines := []
  probeAt := none
  ctrl := []
  ctrlIn := []

/-- Thermal control at reset: no reading yet, T_in 45 °C (R533 COOLANT). -/
def Thermal.init : Thermal where
  sensors := []
  sReq := 0
  request := false
  met := false
  graceCc := 0
  graceOut := false
  graceWon := 0
  clamped := false
  clampNow := false
  tripped := false
  coolSince := 0
  inlet := 720
  inletAt := 0
  inletStale := false
  flow := 0
  flowSeen := false
  flowLowAt := 0
  flowGoodAt := 0
  lowFlow := false
  outlet := 0
  ucal := []
  ucalNow := []
  e := 0
  ePrev := 0
  eSeen := false
  eFill := 0
  p := 0
  pHist := []
  sustained := false
  peak := false
  windowAt := 0
  fill := 0
  fillPhase := 0
  fillSum := 0
  fillAt := 0
  eIdle := 0
  taperLine := 0
  taperAt := 0
  readAt := 0
  hotSum := 0
  hotCount := 0
  swingAt := 0
  noticeAt := 0

/-- The plate before it is read. -/
def Plate.init : Plate where
  present := false
  worn := false
  badRecord := false
  ident := []
  recA := []
  recB := []
  seq := 0
  slotB := false
  minutes := 0
  swings := 0
  sinceWrite := 0
  writeDue := false
  dirUp := true
  extreme := 0
  warned := false
  ended := false
  minuteAt := 0

/-- The shape before a bring-up: nothing published (R30); fuses of a package with no defect and zero identity fields (log
entry 8). -/
def Shape.init : Shape where
  published := false
  unfit := false
  gen := 0
  buildCount := 0
  place := []
  states := []
  mcoreMap := []
  vcoreMap := []
  colsOut := []
  defects := []
  level := 0
  fuseDefects := []
  dies := []
  serial := []
  deltas := []
  offsets := []
  presets := []
  dramTiming := []
  fieldDefects := []
  heldDefects := []
  step := 0
  warm := false

/-- A control processor out of reset. -/
def Proc.init : Proc := ⟨false, false, false, false, 0, 0⟩

/-- A firmware unit as the factory ships it: its image in slot A or current, the other slot empty
(log entry 9). -/
def FwUnit.init : FwUnit where
  slotA := some ⟨[], true⟩
  slotB := none
  activeB := false
  other := 0
  floor := 0
  heldFloor := none
  version := 0
  measure := []
  missing := false

/-- Firmware state at reset. -/
def Firmware.init : Firmware where
  units := []
  boot := Proc.init
  mgmt := Proc.init
  busy := false
  stageUnit := 0
  armed := false
  code := 0
  recovery := false
  chain := []
  revoked := 0
  attBusy := false
  attCmd := 0
  attCode := 0
  attLen := 0
  attFrame := 0
  attShape := []
  heldUcal := false
  ucalFlash := []
  indexA := []
  indexB := []
  heldIndex := false

/-- Pins at reset: PERST_N low, nothing driven (R623). -/
def Pins.init : Pins where
  perstHigh := false
  straps := 0
  factory := false
  thermLow := false
  haltOwn := false
  lowUntil := []
  evtSeen := 0
  i2cOff := 0
  i2cBlock := []
  i2cOut := []
  i2cReads := 0
  i2cAt := 0
  haltCount := 0
  jtag := 0

/-- The package right after a package reset (R624): power state Off (R536), every register at its
reset value, nothing published (R30), the queue of commands empty. -/
def State.reset : State where
  now := 0
  pending := []
  freeCtr := 0
  power := .off
  mem := []
  synd := []
  writeBacks := []
  ctrlWords := []
  regs := []
  regCc := ⟨0, [], []⟩
  heldEnable := []
  ft := FTimer.init
  prog := none
  mcores := []
  vcores := []
  cols := []
  slm := ⟨0, [], [], [], [], [], (0, [])⟩
  routers := []
  flights := []
  packets := []
  nextPacket := 0
  coreReqs := []
  d2d := []
  chord := ⟨0, [], [], [], [], none, none⟩
  kv := Prefix.init
  smovers := []
  hmovers := []
  mboxes := []
  gports := []
  zl := Zeleri.init
  th := Thermal.init
  sup := ⟨[], [], false, true, false, 0, false, 0, false, 0, 0⟩
  plate := Plate.init
  shape := Shape.init
  fw := Firmware.init
  pins := Pins.init
  outs := []

end Sys2Proof.Machine
end

