-- ==== Sys2Proof/Machine/Operands.lean ====
section
/-! DEFINITION. Names and places: the block entries (R40-R42), the grid (R12), the die-to-die
connections (R303), router ports (R308), the Chord tree (R338, R344), the address map (R18-R27,
R215) and the place in the frame (R60-R72). Nothing here changes State. -/

namespace Sys2Proof.Machine

/-! ## Block entries -/

/-- Number of block entries of silicon set C0 (R42). -/
def blockCount : Nat := 1188

/-- Instances of each block type (R42). -/
def typeCount (ty : Nat) : Nat :=
  match ty with
  | 1 => 1 | 2 => 32 | 3 => 128 | 4 => 32 | 5 => 33 | 6 => 128 | 7 => 512 | 8 => 112 | 9 => 20
  | 10 => 1 | 11 => 1 | 12 => 128 | 13 => 16 | 14 => 1 | 15 => 33 | 16 => 1 | 17 => 1 | 18 => 1
  | 19 => 1 | 20 => 1 | 21 => 1 | 22 => 1 | 23 => 1 | 24 => 1 | 25 => 1 | _ => 0

/-- Index of the first block entry of a type: entries are sorted by TYPE, then INSTANCE (R40). -/
def typeBase (ty : Nat) : Nat :=
  match ty with
  | 1 => 0 | 2 => 1 | 3 => 33 | 4 => 161 | 5 => 193 | 6 => 226 | 7 => 354 | 8 => 866 | 9 => 978
  | 10 => 998 | 11 => 999 | 12 => 1000 | 13 => 1128 | 14 => 1144 | 15 => 1145 | 16 => 1178
  | 17 => 1179 | 18 => 1180 | 19 => 1181 | 20 => 1182 | 21 => 1183 | 22 => 1184 | 23 => 1185
  | 24 => 1186 | 25 => 1187 | _ => 1188

/-- Block entry index of an instance of a type. -/
def blk (ty inst : Nat) : Nat := typeBase ty + inst

/-- TYPE of a block entry; 0 past the last. -/
def typeOf (b : Nat) : Nat :=
  if b < 1 then 1 else if b < 33 then 2 else if b < 161 then 3 else if b < 193 then 4
  else if b < 226 then 5 else if b < 354 then 6 else if b < 866 then 7 else if b < 978 then 8
  else if b < 998 then 9 else if b < 999 then 10 else if b < 1000 then 11 else if b < 1128 then 12
  else if b < 1144 then 13 else if b < 1145 then 14 else if b < 1178 then 15
  else if b < 1188 then b - 1178 + 16 else 0

/-- INSTANCE of a block entry. -/
def instOf (b : Nat) : Nat := b - typeBase (typeOf b)

/-- The value of a type's FACET_SIZE register (R639). -/
def facetSize (ty : Nat) : Nat :=
  match ty with
  | 3 => 0x068 | 4 => 0x050 | 5 => 0x05C | 6 => 0x054 | 7 => 0x0A4 | 8 => 0x05C | 9 => 0x08C
  | 10 => 0x060 | 11 => 0x054 | 12 => 0x054 | 13 => 0x06C | 14 => 0x05C | 15 => 0x050 | 16 => 0x08C
  | 17 => 0x054 | 18 => 0x054 | 19 => 0x054 | 20 => 0x078 | 22 => 0x060 | 23 => 0x04C | 24 => 0x054
  | 25 => 0x060 | _ => 0x040

/-- CAN_ENABLE (R639). -/
def canEnable (ty : Nat) : Bool := [3, 4, 5, 6, 7, 8, 9, 10, 13, 14, 15].contains ty
/-- CAN_RESET (R639). -/
def canReset (ty : Nat) : Bool := [2, 3, 4, 5, 6, 7, 8, 9, 10, 12, 13, 14].contains ty
/-- CAN_FENCE (R639, R577). -/
def canFence (ty : Nat) : Bool := [3, 4, 6, 7, 8, 9, 12, 13].contains ty

/-! ## The grid -/

/-- Grid place (x, y) of a stack (R12); (2, 2) for the hub (R40). -/
def siteOf (st : Nat) : Nat × Nat :=
  ([(2, 1), (3, 1), (4, 1), (4, 2), (4, 3), (4, 4), (3, 4), (2, 4), (1, 4), (1, 3), (1, 2), (1, 1),
    (0, 0), (1, 0), (2, 0), (3, 0), (4, 0), (5, 0), (5, 1), (5, 2), (5, 3), (5, 4), (5, 5), (4, 5),
    (3, 5), (2, 5), (1, 5), (0, 5), (0, 4), (0, 3), (0, 2), (0, 1)] : List (Nat × Nat)).getD st (2, 2)

/-- Node at a grid place: a stack, or 32 for the hub's four sites. -/
def nodeAt (x y : Nat) : Nat :=
  ([12, 13, 14, 15, 16, 17,
    31, 11, 0, 1, 2, 18,
    30, 10, 32, 32, 3, 19,
    29, 9, 32, 32, 4, 20,
    28, 8, 7, 6, 5, 21,
    27, 26, 25, 24, 23, 22] : List Nat).getD (6 * y + x) 32

/-- Quadrant of a stack (R13). -/
def quadrantOf (st : Nat) : Nat :=
  let (x, y) := siteOf st
  if y ≤ 2 then (if x ≤ 2 then 0 else 1) else (if x ≤ 2 then 3 else 2)

/-! ## Die-to-die connections (R303, R308) -/

/-- The end of connection j whose instance is 2j: its router and that router's port. -/
def d2dNear (j : Nat) : Nat × Nat :=
  let ew (x y : Nat) : Nat × Nat := (nodeAt x y, 1)
  let ns (x y : Nat) : Nat × Nat := (nodeAt x y, 2)
  if j < 5 then ew j 0 else if j < 10 then ew (j - 5) 1
  else if j < 12 then ew (4 * (j - 10)) 2 else if j < 14 then ew (4 * (j - 12)) 3
  else if j < 19 then ew (j - 14) 4 else if j < 24 then ew (j - 19) 5
  else if j < 29 then ns 0 (j - 24) else if j < 34 then ns 1 (j - 29)
  else if j < 36 then ns 2 (4 * (j - 34)) else if j < 38 then ns 3 (4 * (j - 36))
  else if j < 43 then ns 4 (j - 38) else if j < 48 then ns 5 (j - 43)
  else ([(0, 2), (1, 2), (3, 3), (4, 3), (6, 0), (7, 0), (9, 1), (10, 1)] : List (Nat × Nat)).getD
    (j - 48) (32, 31)

/-- The end of connection j whose instance is 2j + 1. -/
def d2dFar (j : Nat) : Nat × Nat :=
  if 48 ≤ j then (32, j - 48)
  else
    let (x, y) := siteOf (d2dNear j).1
    if j < 24 then (nodeAt (x + 1) y, 3) else (nodeAt x (y + 1), 0)

/-- Router and port of a D2D instance. -/
def d2dEnd (e : Nat) : Nat × Nat := if e % 2 = 0 then d2dNear (e / 2) else d2dFar (e / 2)

/-- The other end of an end's connection. -/
def d2dPeer (e : Nat) : Nat := if e % 2 = 0 then e + 1 else e - 1

/-- D2D instance behind a router's mesh port, if that port is there. -/
def d2dAt (router port : Nat) : Option Nat :=
  (List.range 112).find? (fun e => decide (d2dEnd e = (router, port)))

/-- Ports of a router's own kind that exist (R308). -/
def portExists (router port : Nat) : Bool :=
  if router = 32 then decide (port ≤ 12) || decide (port = 31)
  else if router < 32 then
    if port ≤ 3 then (d2dAt router port).isSome
    else decide (port ≤ 17) || (decide (port = 18) && decide (12 ≤ router)) || decide (port = 31)
  else false

/-! ## The Chord tree (R338, R344) -/

/-- Parent node of a node; 63 for the root. -/
def chordParent (n : Nat) : Nat :=
  ([32, 2, 3, 32, 5, 6, 32, 8, 9, 32, 11, 0, 31, 12, 0, 1, 15, 16, 17, 3, 4, 20, 21, 22, 6, 7, 25, 26,
    27, 9, 10, 30, 63] : List Nat).getD n 63

/-- Children of a node (R338). -/
def chordChildren (n : Nat) : List Nat := (List.range 32).filter (fun c => chordParent c == n)

/-- Depth of a node; 0 for the root. -/
def chordDepth (n : Nat) : Nat :=
  ([1, 3, 2, 1, 3, 2, 1, 3, 2, 1, 3, 2, 6, 7, 2, 4, 5, 6, 7, 2, 4, 5, 6, 7, 2, 4, 5, 6, 7, 2, 4, 5, 0]
    : List Nat).getD n 0

/-- The ancestor of `n` at depth `k` (n itself at its own depth), following `fuel` parents. -/
def chordUp : Nat → Nat → Nat → Nat
  | 0, n, _ => n
  | fuel + 1, n, k => if chordDepth n ≤ k then n else chordUp fuel (chordParent n) k

/-- Next node on the way from `a` to `d` (R339): down to the child whose subtree holds `d`, or up. -/
def chordNext (a d : Nat) : Nat :=
  if chordDepth a < chordDepth d && chordUp 8 d (chordDepth a) = a then chordUp 8 d (chordDepth a + 1)
  else chordParent a

/-- Node and local unit of a block (R344); a D2D end of a stack is unit 27 + its port code (DEDUCED, log entry 51). -/
def chordUnit (b : Nat) : Nat × Nat :=
  let i := instOf b
  match typeOf b with
  | 1 => (32, 6)
  | 2 => (i, 26)
  | 3 => (i / 4, i % 4)
  | 4 => (i, 4)
  | 5 => if i = 32 then (32, 7) else (i, 25)
  | 6 => (i / 4, 5 + i % 4)
  | 7 => (i / 16, 9 + i % 16)
  | 8 => let (r, p) := d2dEnd i; if r = 32 then (32, 8 + p) else (r, 27 + p)
  | 9 => (i + 12, 32)
  | 10 => (32, 2)
  | 11 => (32, 16)
  | 12 => (32, 24)
  | 13 => (32, 25)
  | 14 => (32, 17)
  | 15 => if i = 32 then (32, 23) else (i, 26)
  | 16 => (32, 4)
  | 17 => (32, 1)
  | 18 => (32, 0)
  | 19 => (32, 18)
  | 20 => (32, 5)
  | 21 => (32, 19)
  | 22 => (32, 20)
  | 23 => (32, 21)
  | 24 => (32, 22)
  | _ => (32, 3)

/-- Blocks that can be event targets by their type (R351). -/
def eventTarget (b : Nat) : Bool :=
  [Ty.MCORE, Ty.VCORE, Ty.MGMTP, Ty.BOOTP, Ty.ZLINK, Ty.PINS].contains (typeOf b)

/-! ## Addresses -/

/-- What a device address names (R18, R22, R23), populated or not. -/
inductive Place where
  | gnomon (off : Nat)
  | facet (addr : Nat)
  | slm (off : Nat)
  | mstore (g off : Nat)
  | vmem (v off : Nat)
  | dram (col off : Nat)
  | unmapped
deriving DecidableEq, Repr

/-- First address of SLM. -/
def slmBase : Nat := 0x004000000000
/-- First address of the M-core stores. -/
def mstoreBase : Nat := 0x006000000000
/-- First address of the V-core local memories. -/
def vmemBase : Nat := 0x006080000000
/-- First address of direct DRAM. -/
def dramBase : Nat := 0x008000000000
/-- First address of the interleaved alias. -/
def aliasBase : Nat := 0x010000000000
/-- Bytes of all the DRAM. -/
def dramSize : Nat := 0x8000000000
/-- Offset of the accumulator file in a store block (R22). -/
def accOff : Nat := 0x0800000

/-- The direct address an alias address names (R25); other addresses are their own. -/
def direct (a : Nat) : Nat :=
  if aliasBase ≤ a ∧ a < aliasBase + dramSize then
    let x := a - aliasBase
    dramBase + fieldOf x 16 12 * 0x400000000 + (fieldOf x 38 17 * 4096 + x % 4096)
  else a

/-- Is the address in the alias range? -/
def isAlias (a : Nat) : Bool := decide (aliasBase ≤ a) && decide (a < aliasBase + dramSize)

/-- The place a direct address names. -/
def placeOf (a : Nat) : Place :=
  if a < 0x100000 then .gnomon a
  else if a < 0x100000000 then .facet a
  else if slmBase ≤ a ∧ a < slmBase + 0x10000000 then .slm (a - slmBase)
  else if mstoreBase ≤ a ∧ a < vmemBase then
    let o := a - mstoreBase
    if o % 0x1000000 < 0x840000 then .mstore (o / 0x1000000) (o % 0x1000000) else .unmapped
  else if vmemBase ≤ a ∧ a < vmemBase + 0x20000000 then
    let o := a - vmemBase
    if o % 0x1000000 < 0x400000 then .vmem (o / 0x1000000) (o % 0x1000000) else .unmapped
  else if dramBase ≤ a ∧ a < dramBase + dramSize then
    let o := a - dramBase
    .dram (o / 0x40000000) (o % 0x40000000)
  else .unmapped

/-- Device address of an offset in the store block of M-core g. -/
def mstoreAddr (g off : Nat) : Nat := mstoreBase + g * 0x1000000 + off
/-- Device address of an offset in the local memory of V-core v. -/
def vmemAddr (v off : Nat) : Nat := vmemBase + v * 0x1000000 + off
/-- Device address of an offset in a column. -/
def dramAddr (col off : Nat) : Nat := dramBase + col * 0x40000000 + off

/-- ROW, LAYER, BANK and GRANULE of a column offset (R215). -/
def rowOf (off : Nat) : Nat := fieldOf off 29 16
def layerOf (off : Nat) : Nat := fieldOf off 15 13
def bankOf (off : Nat) : Nat := fieldOf off 12 11
def granuleOf (off : Nat) : Nat := fieldOf off 10 5
/-- Bank position of a column offset: 4 × layer + bank. -/
def bankPos (off : Nat) : Nat := fieldOf off 15 11

/-! ## Block states -/

/-- STATE of a block entry: 0 good, 1 fenced, 2 spare, 3 absent (R40). -/
def blockState (s : State) (b : Nat) : Nat := (Assoc.getD (0, 0) b s.shape.states).1
/-- STATE_DETAIL of a block entry. -/
def blockDetail (s : State) (b : Nat) : Nat := (Assoc.getD (0, 0) b s.shape.states).2
/-- Is the block good? -/
def good (s : State) (b : Nat) : Bool := blockState s b == 0

/-- Kind of an SLM granule in PART_NOW (R245). -/
def slmKind (s : State) (g : Nat) : Nat := fieldOf s.slm.partNow (2 * g + 1) (2 * g)

/-- Is the direct address in a populated part that an access reaches as memory (R19, R20, R246)? -/
def populated (s : State) (a : Nat) : Bool :=
  match placeOf a with
  | .slm off => slmKind s (fieldOf off 27 24) == 0
  | .mstore g _ => good s (blk Ty.MCORE g)
  | .vmem v _ => good s (blk Ty.VCORE v)
  | .dram c _ => good s (blk Ty.COLCTL c)
  | _ => false

/-- Page number of a block's facet (R637). -/
def facetPage (s : State) (b : Nat) : Nat := if s.shape.place = [] then 0x100 + b else nth s.shape.place b

/-- The block whose facet a page is (R46): none before the first publication or for an absent block. -/
def facetAt (s : State) (page : Nat) : Option Nat :=
  let i := if s.shape.place = [] then page - 0x100 else s.shape.place.idxOf page
  if s.shape.published && decide (i < blockCount) && decide (facetPage s i = page)
      && decide (blockState s i ≠ 3) then some i else none

/-! ## The place in the frame -/

/-- PSTATE (R106). -/
def running (s : State) : Bool := s.ft.pstate == 3

/-- Slots F of the current frame: the program's, or 200 on the idle schedule (R61, R86). -/
def fSlots (s : State) : Nat :=
  if s.ft.onProg then match s.prog with
    | some p => p.slots
    | none => 200
  else 200

/-- Class of a slot of the idle schedule (R86). -/
def idleClass (k : Nat) : Nat :=
  if k = 0 then 0 else if k ≤ 2 then 3 else if k = 3 then 4 else if k = 4 then 5
  else if 7 ≤ k ∧ k ≤ 194 ∧ (k - 7) % 11 = 0 then 2 else 6

/-- Class of slot k of the current frame: R64's code, or 7 for a stretch slot (R89). -/
def slotClass (s : State) (k : Nat) : Nat :=
  if fSlots s ≤ k then 7
  else if s.ft.onProg then match s.prog with
    | some p => nth p.map k
    | none => idleClass k
  else idleClass k

/-- Length of the current boundary slot (R60). -/
def boundaryLen (s : State) : Nat := (64 + s.ft.trim).toNat
/-- cc since the local tick. -/
def pos (s : State) : Nat := s.now - s.ft.tickAt
/-- Length of the current frame (R61). -/
def frameLen (s : State) : Nat := boundaryLen s + 64 * (fSlots s - 1 + s.ft.stretch)

/-- Slot of a cc `t` at or after the tick. -/
def slotAt (s : State) (t : Nat) : Nat :=
  let p := t - s.ft.tickAt
  if p < boundaryLen s then 0 else 1 + (p - boundaryLen s) / 64
/-- cc in its slot of a cc `t` at or after the tick. -/
def ccAt (s : State) (t : Nat) : Nat :=
  let p := t - s.ft.tickAt
  if p < boundaryLen s then p else (p - boundaryLen s) % 64

/-- The current slot and cc. -/
def slotNow (s : State) : Nat := slotAt s s.now
def ccNow (s : State) : Nat := ccAt s s.now
/-- Class of the current slot. -/
def classNow (s : State) : Nat := slotClass s (slotNow s)
/-- Frame position as the units count it: 64 × slot + cc. -/
def frameCc (s : State) : Nat := 64 * slotNow s + ccNow s

/-- A cc is column-available in classes SCHED, CAL_GARLET and CAL_D2D (R219). -/
def colAvailClass (c : Nat) : Bool := c == 1 || c == 3 || c == 4
def colAvail (s : State) (t : Nat) : Bool := colAvailClass (slotClass s (slotAt s t))
/-- SERVICE and stretch slots carry unscheduled traffic (R65, R89). -/
def serviceOpen (s : State) : Bool := classNow s == 6 || classNow s == 7
/-- REFRESH and stretch slots (R64, R89). -/
def refreshOpen (s : State) : Bool := classNow s == 2 || classNow s == 7
/-- Slots that withhold the columns: BOUNDARY is counted apart (R64, R220). -/
def colWithheld (s : State) : Bool := [2, 5, 6, 7].contains (classNow s)

/-- The frame a fault detected now belongs to (R560). -/
def faultFrame (s : State) : Nat :=
  if slotNow s = 0 ∧ ccNow s ≤ 28 then (s.ft.frame + 2 ^ 48 - 1) % 2 ^ 48 else s.ft.frame

/-- The stacks work: no retention hold has been entered (R499, R515), and no rail loss has ended the package's operation
(R498). -/
def stacksUp (s : State) : Bool := decide (s.sup.holdCause = 0) && !s.sup.ended

/-- The logic works: power states Ready and Run (R536), and Aux with the package held unfit once its bring-up
has ended, which runs the idle schedule (R557). -/
def awake (s : State) : Bool :=
  stacksUp s && (s.power == .ready || s.power == .run || (s.power == .aux && s.shape.unfit && decide (s.shape.step = 12)))

/-- The hub is up: in Ready, Run, in Tripped and on the way there (R515, R517, R630), and in Aux after its bring-up or in
recovery (R604). -/
def hubUp (s : State) : Bool :=
  !s.sup.ended && (awake s || s.power == .tripped || (decide (s.sup.holdCause = 2) && (s.power == .ready || s.power == .run))
    || (s.power == .aux && decide (2 ≤ s.shape.step)))

end Sys2Proof.Machine
end

