-- ==== Sys2Proof/Machine/Flags.lean ====
section
/-! DEFINITION. Facet registers as stored (R8, R47-R52), error flags and their notices (R52-R54), the
messages of the Chord network (R338-R350), and the raising of frame faults (R559-R573). -/

namespace Sys2Proof.Machine

/-! ## Stored registers -/

/-- Reset value of a stored register; the registers of the common header reset to 0 (R49, R52). -/
def regReset (b off : Nat) : Nat :=
  match (blockRegs (typeOf b)).find? (fun r => r.off == off) with
  | some r => r.reset
  | none => 0

/-- The stored value of a register. -/
def getReg (s : State) (b off : Nat) : Nat :=
  match Assoc.get? (4096 * b + off) s.regs with
  | some w => w.toNat
  | none => regReset b off

/-- A register stored: only values away from reset are listed. -/
def setReg (s : State) (b off v : Nat) : State :=
  let v' := v % 2 ^ 32
  let w : Option Word := if v' = regReset b off then none else some (BitVec.ofNat 32 v')
  { s with regs := Assoc.put (4096 * b + off) w s.regs }

/-- Field [hi:lo] of a stored register. -/
def regField (s : State) (b off hi lo : Nat) : Nat := fieldOf (getReg s b off) hi lo

/-- A stored register with field [hi:lo] replaced. -/
def setRegField (s : State) (b off hi lo v : Nat) : State := setReg s b off (putField (getReg s b off) hi lo v)

/-- A counting field that stops at its top (the saturating counters of the register tables). -/
def countField (s : State) (b off hi lo n : Nat) : State :=
  setRegField s b off hi lo (satAdd (2 ^ (hi + 1 - lo) - 1) (regField s b off hi lo) n)

/-! ## Chord messages -/

/-- `s` with the Chord network replaced. -/
def setChord (s : State) (f : Chord → Chord) : State := { s with chord := f s.chord }

/-- cc from the arrival of a message at its node to where it acts: 2 to a local unit (R341), none for an ARRIVE,
which the node itself takes (R355), and for a fault on its way to the root (R570). -/
def arriveCc (k : ChordKind) : Nat :=
  match k with
  | .arrive .. => 0
  | .fault .. => 0
  | .peerHalt .. => 0
  | _ => 2

/-- Words of a message (R346): a register access is a SERVICE packet of its header, its facet address, and its
data; TELEM brings one data word (R345). -/
def wordsOf (k : ChordKind) : Nat :=
  match k with
  | .access _ write .. => if write then 3 else 2
  | .answer _ write .. => if write then 1 else 2
  | .telem .. => 2
  | _ => 1

/-- Send a message from a local unit of node `src` to node `dst` (R341): it could start to leave its own
node 1 cc after it is issued; one for its own node is there in that cc, and applied 2 cc later, or in
that cc for an ARRIVE (R348, R355). The words of a packet follow one another. `held` keeps a SERVICE packet
at its entry point. -/
def chordSend (s : State) (kind : ChordKind) (src unit dst lane : Nat) (held : Bool) : State :=
  let t := s.now + 1
  let id := s.chord.nextId
  let n := wordsOf kind
  let word (i : Nat) : ChordMsg :=
    ⟨id + i, kind, src, dst, src, t, unit, lane, if src = dst && !held then some (t + arriveCc kind + 2 * i) else none, held, id, n - 1 - i⟩
  setChord s (fun c => { c with nextId := c.nextId + n, msgs := c.msgs ++ (List.range n).map word })

/-- A message for a unit of its own node, applied in cc `at_` (the releases of R355). -/
def chordDeliver (s : State) (kind : ChordKind) (src dst at_ : Nat) : State :=
  let m : ChordMsg := ⟨s.chord.nextId, kind, src, dst, dst, at_, 128, 3, some at_, false, s.chord.nextId, 0⟩
  setChord s (fun c => { c with nextId := c.nextId + 1, msgs := c.msgs ++ [m] })

/-- Copies of a message for NODE 63 for the children of a node, ready to leave it in cc `at_` (R339, R341): the
copy for child c is of kind `mk c`. -/
def copiesBelow (s : State) (mk : Nat → ChordKind) (lane node rank at_ : Nat) : State :=
  (chordChildren node).foldl (fun s c =>
    setChord s fun k =>
      { k with nextId := k.nextId + 1, msgs := k.msgs ++ [⟨k.nextId, mk c, node, c, node, at_, rank, lane, none, false, k.nextId, 0⟩] }) s

/-- A message for NODE 63 at a node in cc `at_`: applied at its units 2 cc later, and on to the nodes below (R339,
R341). -/
def nodeFrom (s : State) (mk : Nat → ChordKind) (lane node at_ : Nat) : State :=
  copiesBelow (setChord s fun k =>
    { k with nextId := k.nextId + 1,
             msgs := k.msgs ++ [⟨k.nextId, mk node, node, node, node, at_, 23, lane, some (at_ + 2), false, k.nextId, 0⟩] })
    mk lane node 23 at_

/-- A message of the network by its number. -/
def chordMsg? (s : State) (id : Nat) : Option ChordMsg := s.chord.msgs.find? (fun m => m.id == id)

/-- The network without that message. -/
def chordDrop (s : State) (id : Nat) : State :=
  setChord s (fun c => { c with msgs := c.msgs.filter (fun m => m.id != id) })

/-! ## Error flags and notices -/

/-- ERR_SUMMARY and ERR_MASK. -/
def errSummary (s : State) (b : Nat) : Nat := getReg s b Off.ERR_SUMMARY
def errMask (s : State) (b : Nat) : Nat := getReg s b Off.ERR_MASK

/-- STATE.ERR: ERR_SUMMARY & ~ERR_MASK is non-zero (R49). -/
def errActive (s : State) (b : Nat) : Bool :=
  (List.range 32).any (fun i => (errSummary s b).testBit i && !(errMask s b).testBit i)

/-- What the present cc has done to the facets so far. -/
def regCcNow (s : State) : RegCc := if s.regCc.at_ = s.now + 1 then s.regCc else ⟨s.now + 1, [], []⟩

/-- Bits of ERR_SUMMARY that the device has set in the present cc (R54). -/
def setsNow (s : State) (b : Nat) : Nat := Assoc.getD 0 b (regCcNow s).sets

/-- A bit of ERR_SUMMARY set, without its notice: no W1C write of the same cc clears it (R54). -/
def setErrBit (s : State) (b bit : Nat) : State :=
  let r := regCcNow s
  { (setReg s b Off.ERR_SUMMARY (errSummary s b ||| 2 ^ bit)) with
      regCc := { r with sets := Assoc.put b (some (Assoc.getD 0 b r.sets ||| 2 ^ bit)) r.sets } }

/-- A notice to a block that can take events leaves its node: CLASS 1 moves at once, CLASS 0 is held for a SERVICE
slot (R53, R350). -/
def launchNotice (s : State) (src target line cls : Nat) : State :=
  let (n, u) := chordUnit src
  chordSend s (.notice target line cls) n u (chordUnit target).1 (if cls = 1 then 1 else 2) (cls == 0)

/-- Can the block be the target of an event or notice (R351)? -/
def noticeTarget (s : State) (target : Nat) : Bool := eventTarget target && (blockState s target != 3)

/-- BAD_TARGET of a node (R351), with the node's own notice when its STATE.ERR goes from 0 to 1 (R53); a notice of
the node that again names no target finds the bit set and sends nothing more. -/
def badTarget (s : State) (n : Nat) : State :=
  let b := blk Ty.CHORD n
  let s1 := setErrBit s b Err.CHORD_BAD_TARGET
  let r := getReg s b Off.EVT_ROUTE
  if !(errActive s b) && errActive s1 b && bitOf r 31 && noticeTarget s (fieldOf r 15 0) then
    launchNotice s1 b (fieldOf r 15 0) (fieldOf r 20 16) (fieldOf r 30 30)
  else s1

/-- Send a notice to a target block's line (R53, R350). A target that cannot take events is dropped at the
source node, which sets BAD_TARGET (R351). -/
def sendNotice (s : State) (src target line cls : Nat) : State :=
  if noticeTarget s target then launchNotice s src target line cls else badTarget s (chordUnit src).1

/-- The notice of EVT_ROUTE (R53), when EN is set. -/
def routeNotice (s : State) (b : Nat) : State :=
  let r := getReg s b Off.EVT_ROUTE
  if bitOf r 31 then sendNotice s b (fieldOf r 15 0) (fieldOf r 20 16) (fieldOf r 30 30) else s

/-- Set a bit of ERR_SUMMARY; a change of STATE.ERR from 0 to 1 sends the block's notice (R53). -/
def setErr (s : State) (b bit : Nat) : State :=
  let s1 := setErrBit s b bit
  if !(errActive s b) && errActive s1 b then routeNotice s1 b else s1

/-- Set a bit when the condition holds. -/
def setErrIf (c : Bool) (s : State) (b bit : Nat) : State := if c then setErr s b bit else s

/-! ## Frame faults -/

/-- `s` with the frame timer replaced. -/
def setFt (s : State) (f : FTimer → FTimer) : State := { s with ft := f s.ft }

/-- DOMAIN_ID of the loaded program; 0xFFFF with none (R573). -/
def domainId (s : State) : Nat :=
  match s.prog with
  | some p => p.domainId
  | none => 0xFFFF

/-- Mark the frame a fault belongs to (R560): its commit does not run (R385), its signature is not
valid (R590). -/
def markFaulted (s : State) : State :=
  if slotNow s = 0 ∧ ccNow s ≤ 28 then setFt s (fun f => { f with faultedPrev := true })
  else setFt s (fun f => { f with faulted := true })

/-- Record a halt in FAULT_INFO if VALID is 0 (R573), with the notice of FRAME_FAULT. -/
def recordFault (s : State) (loc : Bool) (cause source hops unit frame : Nat) : State :=
  let ft := blk Ty.FTIMER 0
  if bitOf (getReg s ft Off.FTIMER_FAULT_INFO) 31 then s
  else
    let s := setReg s ft Off.FTIMER_FAULT_INFO (2 ^ 31 + b2n loc * 2 ^ 30 + cause % 256 * 2 ^ 16 + source % 65536)
    let s := setReg s ft Off.FTIMER_FAULT_UNIT (hops % 256 * 2 ^ 24 + unit % 65536)
    let s := setReg s ft Off.FTIMER_FAULT_FRAME_LO (frame % 2 ^ 32)
    let s := setReg s ft Off.FTIMER_FAULT_FRAME_HI (frame / 2 ^ 32)
    setErr s ft Err.FTIMER_FRAME_FAULT

/-- The HALT at a node in cc `at_`: applied at its units 2 cc later, and on to the nodes below (R339, R341, R359). -/
def haltFrom (s : State) (cause node at_ : Nat) : State := nodeFrom s (fun _ => .halt cause) 0 node at_

/-- The root sends the HALT when its cc has come; from then on the package drives HALT_N and FAULT_OUT low
(R359, R567). -/
def haltSend (s : State) : State :=
  match s.chord.halt with
  | some (cause, t, false) =>
    if t ≤ s.now then
      let s := { s with pins := { s.pins with haltOwn := true } }
      haltFrom (setChord s (fun c => { c with halt := some (cause, t, true) })) cause 32 s.now
    else s
  | _ => s

/-- The record of a local fault raised in the cc of a recorded one by a lower block takes its place (R573). -/
def lowerUnit (s : State) (cause unit frame at_ : Nat) : State :=
  let ft := blk Ty.FTIMER 0
  let info := getReg s ft Off.FTIMER_FAULT_INFO
  if bitOf info 31 ∧ bitOf info 30 ∧ s.ft.faultAt = at_ + 1 ∧ unit < regField s ft Off.FTIMER_FAULT_UNIT 15 0 then
    let s := setRegField s ft Off.FTIMER_FAULT_INFO 23 16 cause
    let s := setRegField s ft Off.FTIMER_FAULT_UNIT 15 0 unit
    setReg (setReg s ft Off.FTIMER_FAULT_FRAME_LO (frame % 2 ^ 32)) ft Off.FTIMER_FAULT_FRAME_HI (frame / 2 ^ 32)
  else s

/-- The root records a halt (R573) and raises the HALT (R561, R359), to be sent `delay` cc from now. -/
def rootSend (s : State) (loc : Bool) (cause source hops unit frame delay : Nat) : State :=
  let s := setFt (recordFault s loc cause source hops unit frame) (fun f => { f with haltFrom := 32 })
  haltSend (setChord s (fun c => { c with halt := some (cause, s.now + delay, false) }))

/-- The root acts only on the first halt that reaches it (R569). -/
def rootHalt (s : State) (loc : Bool) (cause source hops unit frame delay : Nat) : State :=
  if s.ft.halted || s.chord.halt.isSome then s else rootSend s loc cause source hops unit frame delay

/-- A local frame fault at the root, raised in cc `at_` (R561, R573). -/
def localHalt (s : State) (b cause frame at_ delay : Nat) : State :=
  if s.ft.halted || s.chord.halt.isSome then lowerUnit s cause b frame at_
  else
    let fresh := !bitOf (getReg s (blk Ty.FTIMER 0) Off.FTIMER_FAULT_INFO) 31
    rootHalt (if fresh then setFt s (fun f => { f with faultAt := at_ + 1 }) else s) true cause (domainId s) 0 b frame delay

/-- Raise a frame fault of a block (R559-R561): only while a program runs. Hub blocks raise it into the
root directly, which takes it 1 cc later and turns it into HALT in 4 more (R570); a stack unit sends a FAULT
message from its node. -/
def raiseFault (s : State) (b cause : Nat) : State :=
  if running s then
    let s := markFaulted s
    let (n, u) := chordUnit b
    if n = 32 then localHalt s b cause (faultFrame s) s.now 5
    else chordSend s (.fault b cause (faultFrame s) s.now) n u 32 0 false
  else s

/-- Set an error bit and raise the frame fault it stands for. -/
def errFault (s : State) (b bit cause : Nat) : State := raiseFault (setErr s b bit) b cause

end Sys2Proof.Machine
end

