-- ==== Sys2Proof/Machine/Fp.lean ====
section
/-! DEFINITION. Floating-point values and their roundings (R152-R156), element formats and scales
(R156-R161), exact sums and products (R162, R163), the device sum, minimum and maximum (R166-R169),
long-sum (R170-R174) and output conversion (R182-R184). -/

namespace Sys2Proof.Machine

/-- A value of a floating format: a NaN, an infinity, or (-1)^neg × m × 2^e. -/
inductive FVal where
  | nan
  | inf (neg : Bool)
  | fin (neg : Bool) (m : Nat) (e : Int)
deriving DecidableEq, Repr

/-- 2^k for an exponent known to be non-negative (1 for a negative one). -/
def pow2 (k : Int) : Nat := 2 ^ k.toNat

/-- The value m × 2^e on the grid 2^t, for t ≤ e. -/
def onGrid (m : Nat) (e t : Int) : Nat := m * pow2 (e - t)

/-- The signed integer of a finite value on the grid 2^t. -/
def gridInt (neg : Bool) (m : Nat) (e t : Int) : Int := if neg then -(onGrid m e t : Int) else (onGrid m e t : Int)

/-- The quotient m / 2^k rounded to nearest, ties to even (R152). -/
def roundShift (m k : Nat) : Nat :=
  let q := m / 2 ^ k
  let r := m % 2 ^ k
  if 2 * r > 2 ^ k ∨ (2 * r = 2 ^ k ∧ q % 2 = 1) then q + 1 else q

/-- m × 2^e rounded onto the grid of `p` significant bits, whose spacing is not below 2^qmin when a
least spacing is given (R152): the rounded number and its exponent. -/
def roundGrid (p : Nat) (qmin : Option Int) (m : Nat) (e : Int) : Nat × Int :=
  if m = 0 then (0, 0)
  else
    let q0 : Int := e + (Nat.log2 m + 1 : Nat) - (p : Int)
    let q := match qmin with
      | some t => max q0 t
      | none => q0
    if q ≤ e then (onGrid m e q, q) else (roundShift m (q - e).toNat, q)

/-- A binary format (R156): field widths, bias, code of the largest finite magnitude, code of an
overflow when it does not saturate, canonical NaN (R153), and whether infinities exist. -/
structure FFmt where
  eb : Nat
  mb : Nat
  bias : Nat
  maxCode : Nat
  ovf : Nat
  nanCode : Nat
  hasInf : Bool
  hasNan : Bool
deriving DecidableEq, Repr

def fE4M3 : FFmt := ⟨4, 3, 7, 0x7E, 0x7F, 0x7F, false, true⟩
def fE5M2 : FFmt := ⟨5, 2, 15, 0x7B, 0x7C, 0x7E, true, true⟩
def fE3M2 : FFmt := ⟨3, 2, 3, 0x1F, 0x1F, 0x1F, false, false⟩
def fE2M3 : FFmt := ⟨2, 3, 1, 0x1F, 0x1F, 0x1F, false, false⟩
def fE2M1 : FFmt := ⟨2, 1, 1, 0x7, 0x7, 0x7, false, false⟩
def fBF16 : FFmt := ⟨8, 7, 127, 0x7F7F, 0x7F80, 0x7FC0, true, true⟩
def fFP32 : FFmt := ⟨8, 23, 127, 0x7F7FFFFF, 0x7F800000, 0x7FC00000, true, true⟩

/-- Bits of a format. -/
def FFmt.bits (f : FFmt) : Nat := 1 + f.eb + f.mb

/-- The value of a code (R156); with `ftz`, a subnormal is a zero of its sign (R154). -/
def FFmt.dec (f : FFmt) (ftz : Bool) (x : Nat) : FVal :=
  let neg := x.testBit (f.eb + f.mb)
  let e := fieldOf x (f.eb + f.mb - 1) f.mb
  let m := x % 2 ^ f.mb
  let mag := x % 2 ^ (f.eb + f.mb)
  if f.hasInf && decide (mag > f.maxCode) then (if m = 0 then .inf neg else .nan)
  else if f.hasNan && decide (mag > f.maxCode) then .nan
  else if e = 0 then .fin neg (if ftz then 0 else m) (1 - (f.bias : Int) - f.mb)
  else .fin neg (2 ^ f.mb + m) ((e : Int) - f.bias - f.mb)

/-- The magnitude code of a rounded value q × 2^t that is not below the smallest normal, or keeps
subnormals; beyond the largest exponent it exceeds maxCode. -/
def FFmt.magCode (f : FFmt) (m : Nat) (t : Int) : Nat :=
  if m = 0 then 0
  else
    let len := Nat.log2 m + 1
    let ex : Int := t + len - 1 + f.bias
    if 1 ≤ ex then
      let frac := if len ≤ f.mb + 1 then m * 2 ^ (f.mb + 1 - len) else m / 2 ^ (len - (f.mb + 1))
      ex.toNat * 2 ^ f.mb + (frac - 2 ^ f.mb)
    else onGrid m t (1 - (f.bias : Int) - f.mb)

/-- A value rounded into a format (R152, R153, R182): `keep` keeps subnormals, else a rounded magnitude
below the smallest normal becomes a zero of its sign (R154); `sat` saturates overflow and infinities. -/
def FFmt.enc (f : FFmt) (keep sat : Bool) (v : FVal) : Nat :=
  let sgn (neg : Bool) := b2n neg * 2 ^ (f.eb + f.mb)
  let top (neg : Bool) := if sat || !f.hasNan then sgn neg + f.maxCode
    else if f.hasInf then sgn neg + f.ovf else f.nanCode
  match v with
  | .nan => f.nanCode
  | .inf neg => top neg
  | .fin neg m e =>
    let qmin : Int := 1 - (f.bias : Int) - f.mb
    let (m', t) := roundGrid (f.mb + 1) (if keep then some qmin else none) m e
    if m' = 0 then sgn neg
    else if !keep && decide (t + (Nat.log2 m' + 1 : Nat) - 1 + f.bias < 1) then sgn neg
    else
      let c := f.magCode m' t
      if c > f.maxCode then top neg else sgn neg + c

/-- The value with its sign reversed. -/
def FVal.negate : FVal → FVal
  | .nan => .nan
  | .inf n => .inf (!n)
  | .fin n m e => .fin (!n) m e

/-- Is the value zero? -/
def FVal.isZero : FVal → Bool
  | .fin _ 0 _ => true
  | _ => false

/-- Is the value a NaN? -/
def FVal.isNan : FVal → Bool
  | .nan => true
  | _ => false

/-- Sign of a value. -/
def FVal.neg? : FVal → Bool
  | .nan => false
  | .inf n => n
  | .fin n _ _ => n

/-- Exact product (R161, R163). -/
def FVal.mul : FVal → FVal → FVal
  | .nan, _ => .nan
  | _, .nan => .nan
  | .inf a, .inf b => .inf (a != b)
  | .inf a, .fin b m _ => if m = 0 then .nan else .inf (a != b)
  | .fin a m _, .inf b => if m = 0 then .nan else .inf (a != b)
  | .fin a m e, .fin b k d => .fin (a != b) (m * k) (e + d)

/-- The least exponent among the finite non-zero terms. -/
def minExp (l : List FVal) : Int :=
  l.foldl (fun t v => match v with
    | .fin _ m e => if m = 0 then t else min t e
    | _ => t) 0

/-- The exact sum of a list of terms (R155, R162, R163). -/
def fsum (l : List FVal) : FVal :=
  if l.any FVal.isNan then .nan
  else
    let p := l.any (fun v => decide (v = .inf false))
    let n := l.any (fun v => decide (v = .inf true))
    if p && n then .nan else if p then .inf false else if n then .inf true
    else
      let t := minExp l
      let i : Int := l.foldl (fun a v => match v with
        | .fin neg m e => if m = 0 then a else a + gridInt neg m e t
        | _ => a) 0
      if i = 0 then .fin (l.all (fun v => v.isZero && v.neg?)) 0 0
      else .fin (decide (i < 0)) i.natAbs t

/-- Exact quotient with a sticky bit below `k` extra bits: enough for one rounding. -/
def FVal.div : FVal → FVal → FVal
  | .nan, _ => .nan
  | _, .nan => .nan
  | .inf _, .inf _ => .nan
  | .inf a, .fin b _ _ => .inf (a != b)
  | .fin a _ _, .inf b => .fin (a != b) 0 0
  | .fin a m e, .fin b k d =>
    if k = 0 then (if m = 0 then .nan else .inf (a != b))
    else
      let sh := 64 + Nat.log2 k
      let q := m * 2 ^ sh / k
      let st := if m * 2 ^ sh % k = 0 then 0 else 1
      .fin (a != b) (2 * q + st) (e - d - sh - 1)

/-- Integer square root, one bit at a time from bit `k - 1` down. -/
def isqrtBits : Nat → Nat → Nat → Nat
  | 0, _, r => r
  | k + 1, n, r => let c := r + 2 ^ k; isqrtBits k n (if c * c ≤ n then c else r)

/-- Square root with a sticky bit: enough for one rounding. -/
def FVal.sqrt : FVal → FVal
  | .nan => .nan
  | .inf false => .inf false
  | .inf true => .nan
  | .fin neg m e =>
    if m = 0 then .fin neg 0 0
    else if neg then .nan
    else
      let sh : Nat := if e % 2 = 0 then 64 else 65
      let n := m * 2 ^ sh
      let r := isqrtBits (Nat.log2 n / 2 + 1) n 0
      let st := if r * r = n then 0 else 1
      .fin false (2 * r + st) ((e - sh) / 2 - 1)

/-- Is `x < y` for values that are not NaN? -/
def FVal.lt : FVal → FVal → Bool
  | .nan, _ => false
  | _, .nan => false
  | .inf a, .inf b => a && !b
  | .inf a, .fin .. => a
  | .fin .., .inf b => !b
  | .fin a m e, .fin b k d =>
    let t := min e d
    decide (gridInt a m e t < gridInt b k d t)

/-- Are two values equal as numbers (−0 equals +0)? -/
def FVal.eqv (x y : FVal) : Bool := !x.isNan && !y.isNan && !x.lt y && !y.lt x

/-- Maximum and minimum of R168. -/
def FVal.max (x y : FVal) : FVal :=
  if x.isNan || y.isNan then .nan
  else if x.isZero && y.isZero then .fin (x.neg? && y.neg?) 0 0
  else if x.lt y then y else x
def FVal.min (x y : FVal) : FVal :=
  if x.isNan || y.isNan then .nan
  else if x.isZero && y.isZero then .fin (x.neg? || y.neg?) 0 0
  else if y.lt x then y else x

/-- Largest integer not above a finite value; 0 for the others. -/
def FVal.floor : FVal → Int
  | .fin neg m e =>
    if 0 ≤ e then gridInt neg m e 0
    else (if neg then -(m : Int) else (m : Int)) / (pow2 (-e) : Int)
  | _ => 0

/-- A finite value rounded to an integer, ties to even. -/
def FVal.toInt : FVal → Int
  | .fin neg m e =>
    let n := if 0 ≤ e then onGrid m e 0 else roundShift m (-e).toNat
    if neg then -(n : Int) else (n : Int)
  | _ => 0

/-- The value of an integer. -/
def FVal.ofInt (i : Int) : FVal := .fin (decide (i < 0)) i.natAbs 0

/-! ## FP32 and BF16 of the device (R154) -/

/-- FP32 read by a unit to which R154 applies, and its result. -/
def f32 (x : Nat) : FVal := fFP32.dec true x
def toF32 (v : FVal) : Nat := fFP32.enc false false v
/-- BF16 likewise. -/
def bf16 (x : Nat) : FVal := fBF16.dec true x
def toBF16 (v : FVal) : Nat := fBF16.enc false false v

/-- Device FP32 sum and BF16 sum (R166). -/
def devAdd32 (x y : Nat) : Nat := toF32 (fsum [f32 x, f32 y])
def devAdd16 (x y : Nat) : Nat := toBF16 (fsum [bf16 x, bf16 y])
/-- One rounded product (R186). -/
def devMul32 (x y : Nat) : Nat := toF32 ((f32 x).mul (f32 y))

/-! ## Long-sum -/

/-- The end of the long-sum range, 2^95 - 1. -/
def lsTop : Int := 2 ^ 95 - 1

/-- Conversion in (R171): the value's container as a signed integer, and the range flag. -/
def lsIn (b : Int) (v : FVal) : Int × Bool :=
  match v with
  | .nan => (0, true)
  | .inf neg => (if neg then -lsTop else lsTop, true)
  | .fin neg m e =>
    let e' := e - b
    let n : Int := if 0 ≤ e' then onGrid m e' 0 else roundShift m (-e').toNat
    let exact := decide (0 ≤ e') || decide (m % pow2 (-e') = 0)
    let q := if neg then -n else n
    if n > lsTop then (if neg then -lsTop else lsTop, true) else (q, !exact)

/-- Conversion out (R173) to FP32 or BF16, and the range flag. -/
def lsOut (f : FFmt) (b : Int) (t : Int) : Nat × Bool :=
  let c := if t > lsTop then lsTop else if t < -lsTop then -lsTop else t
  (f.enc false false (.fin (decide (c < 0)) c.natAbs b), decide (c ≠ t))

/-- The 128-bit container sum (R172). -/
def lsAdd (x y : Nat) : Nat := (x + y) % 2 ^ 128

/-! ## Elements and scales (R156-R161) -/

/-- Bits of an element of an M-core format, 0-10 (R109): 0 E4M3, 1 E5M2, 2-6 the MX formats, 7 INT8,
8 INT4, 9 T2, 10 BF16; 12 FP32 for output. -/
def elemBits (fmt : Nat) : Nat :=
  match fmt with
  | 0 => 8 | 1 => 8 | 2 => 8 | 3 => 8 | 4 => 6 | 5 => 6 | 6 => 4 | 7 => 8 | 8 => 4 | 9 => 2
  | 10 => 16 | 12 => 32 | _ => 0

/-- The value of an element. -/
def elemVal (fmt x : Nat) : FVal :=
  match fmt with
  | 0 => fE4M3.dec false x
  | 1 => fE5M2.dec false x
  | 2 => fE4M3.dec false x
  | 3 => fE5M2.dec false x
  | 4 => fE3M2.dec false x
  | 5 => fE2M3.dec false x
  | 6 => fE2M1.dec false x
  | 7 => FVal.ofInt (signedOf 8 x)
  | 8 => FVal.ofInt (signedOf 4 x)
  | 9 => if x = 1 then .fin false 1 0 else if x = 2 then .fin true 1 0 else .fin false 0 0
  | _ => bf16 x

/-- Does the element encode zero (R142, R157, R161)? BF16 subnormals read as zero (R154). -/
def elemZero (fmt x : Nat) : Bool := (elemVal fmt x).isZero

/-- An E8M0 scale (R159). -/
def e8m0 (x : Nat) : FVal := if x = 0xFF then .nan else .fin false 1 ((x : Int) - 127)

/-- The value of a scaled element (R161). -/
def scaled (el scale : FVal) : FVal := if el.isZero then el else el.mul scale

end Sys2Proof.Machine
end

