-- ==== Sys2Proof/Machine/Ops.lean ====
section
/-! DEFINITION. The operations every unit shares: unit tables, free values, device memory as bytes in
canonical form, reads through a lattice checker with their effects (R256-R262), whole and narrow
writes (R638), the flip mask (R274), the memory-side adder (R239-R243) and signature records (R588). -/

namespace Sys2Proof.Machine

/-! ## Units -/

/-- A command on a unit that the package does not have stops (R42). -/
def onUnit (n i : Nat) (s : State) (f : State → State) : Host.Outcome State Fault Refusal :=
  if i < n then .next (f s) else .fault .noSuchUnit

def mc (s : State) (g : Nat) : MCore := Assoc.getD MCore.init g s.mcores
def setMc (s : State) (g : Nat) (f : MCore → MCore) : State :=
  { s with mcores := Assoc.put g (some (f (mc s g))) s.mcores }
def vc (s : State) (v : Nat) : VCore := Assoc.getD VCore.init v s.vcores
def setVc (s : State) (v : Nat) (f : VCore → VCore) : State :=
  { s with vcores := Assoc.put v (some (f (vc s v))) s.vcores }
def col (s : State) (c : Nat) : Column := Assoc.getD Column.init c s.cols
def setCol (s : State) (c : Nat) (f : Column → Column) : State :=
  { s with cols := Assoc.put c (some (f (col s c))) s.cols }
def rtr (s : State) (r : Nat) : Router := Assoc.getD Router.init r s.routers
def setRtr (s : State) (r : Nat) (f : Router → Router) : State :=
  { s with routers := Assoc.put r (some (f (rtr s r))) s.routers }
def dd (s : State) (e : Nat) : D2DEnd := Assoc.getD D2DEnd.init e s.d2d
def setDd (s : State) (e : Nat) (f : D2DEnd → D2DEnd) : State :=
  { s with d2d := Assoc.put e (some (f (dd s e))) s.d2d }
def smv (s : State) (m : Nat) : SMover := Assoc.getD SMover.init m s.smovers
def setSmv (s : State) (m : Nat) (f : SMover → SMover) : State :=
  { s with smovers := Assoc.put m (some (f (smv s m))) s.smovers }
def hmv (s : State) (c : Nat) : HMover := Assoc.getD HMover.init c s.hmovers
def setHmv (s : State) (c : Nat) (f : HMover → HMover) : State :=
  { s with hmovers := Assoc.put c (some (f (hmv s c))) s.hmovers }
def mbx (s : State) (q : Nat) : MBox := Assoc.getD MBox.init q s.mboxes
def setMbx (s : State) (q : Nat) (f : MBox → MBox) : State :=
  { s with mboxes := Assoc.put q (some (f (mbx s q))) s.mboxes }
def gp (s : State) (p : Nat) : GPort := Assoc.getD GPort.init p s.gports
def setGp (s : State) (p : Nat) (f : GPort → GPort) : State :=
  { s with gports := Assoc.put p (some (f (gp s p))) s.gports }
def setSlm (s : State) (f : Slm → Slm) : State := { s with slm := f s.slm }
def setKv (s : State) (f : Prefix → Prefix) : State := { s with kv := f s.kv }
def setZl (s : State) (f : Zeleri → Zeleri) : State := { s with zl := f s.zl }
def setTh (s : State) (f : Thermal → Thermal) : State := { s with th := f s.th }
def setSup (s : State) (f : Supply → Supply) : State := { s with sup := f s.sup }
def setPlate (s : State) (f : Plate → Plate) : State := { s with plate := f s.plate }
def setShape (s : State) (f : Shape → Shape) : State := { s with shape := f s.shape }
def setFw (s : State) (f : Firmware → Firmware) : State := { s with fw := f s.fw }
def setPins (s : State) (f : Pins → Pins) : State := { s with pins := f s.pins }
def addOut (s : State) (o : Out) : State := { s with outs := s.outs ++ [o] }

/-- Draw `w` bits that the manual does not fix: Config.freeBits at the counter, which advances. -/
def draw (s : State) (w : Nat) : Nat × State :=
  (Config.freeBits s.freeCtr w % 2 ^ w, { s with freeCtr := s.freeCtr + 1 })

/-- The section of a kind for a unit in the loaded program (R92). -/
def sectionOf (s : State) (kind inst : Nat) : Option (List Byte) :=
  match s.prog with
  | some p => (p.sections.find? (fun x => x.kind == kind && x.inst == inst)).map Section.body
  | none => none

/-- Little-endian number of `n` bytes at offset `o` of a section. -/
def bytesAt (l : List Byte) (o n : Nat) : Nat := leNat ((l.drop o).take n)

/-- ENABLE in effect (R49, R51): a held write acts at cc 45-52. A block without CAN_ENABLE runs. -/
def enabled (s : State) (b : Nat) : Bool :=
  !canEnable (typeOf b) || (match Assoc.get? b s.heldEnable with
    | some v => v
    | none => bitOf (getReg s b Off.CONTROL) 0)

/-- Node of the Chord network at which a halt finds a block. -/
def haltNode (b : Nat) : Nat := (chordUnit b).1

/-- No TRIP has gated the clocks of a block (R359). -/
def untripped (s : State) (b : Nat) : Bool := match Assoc.get? (haltNode b) s.ft.tripAt with
  | some t => decide (s.now < t)
  | none => true

/-- Program work of a block goes on: PSTATE 3, or a halt that has not reached it; M-cores, V-cores and stack
movers finish the issue group in which it found them (R131, R359, R563). A TRIP stops it at cc 0 of a slot. -/
def workLive (s : State) (b : Nat) : Bool :=
  (running s || s.ft.pstate == 4) && untripped s b &&
    (if [Ty.MCORE, Ty.VCORE, Ty.SMOVER].contains (typeOf b) then
      (match Assoc.get? (haltNode b) s.ft.stops with
        | some t => decide (s.now < t)
        | none => true)
     else !s.ft.reached.contains (haltNode b))

/-- The cc in which a fence ends an M-core's issue (R131). -/
def fenceStop (s : State) (b : Nat) : Nat := if typeOf b = Ty.MCORE then (mc s (instOf b)).fenceAt else 0

/-- Scheduled work of a block may issue: the program's frame runs, the cc lies in slots 1 to F - 1 (R63, R71,
R89), the block is good and enabled, and no halt has ended it. -/
def workOpen (s : State) (b : Nat) : Bool :=
  awake s && workLive s b && s.ft.onProg && (good s b || decide (s.now < fenceStop s b)) && enabled s b
    && decide (1 ≤ slotNow s) && decide (slotNow s < fSlots s)

/-- A unit may still mark its frame work done: as `workOpen`, up to the check of the next tick (R97). -/
def doneOpen (s : State) (b : Nat) : Bool :=
  awake s && running s && s.ft.onProg && workLive s b && good s b && enabled s b && decide (1 ≤ slotNow s)

/-! ## Memory as bytes -/

/-- What an unlisted byte reads as (log entry 3). -/
def memDefault : Byte := 0

/-- The canonical form: addresses strictly rising, no entry equal to what an unlisted byte reads as. -/
def Memory.wf (m : List Host.Cell) : Bool := Assoc.sorted m && m.all (fun c => c.2 != memDefault)

/-- The byte of a memory list at an address. -/
def Memory.get (m : List Host.Cell) (a : Nat) : Byte := Assoc.getD memDefault a m

/-- The list with the byte at an address replaced, in canonical form. -/
def Memory.set (m : List Host.Cell) (a : Nat) (b : Byte) : List Host.Cell :=
  Assoc.put a (if b = memDefault then none else some b) m

/-- Consecutive bytes replaced. -/
def Memory.setBytes (m : List Host.Cell) : Nat → List Byte → List Host.Cell
  | _, [] => m
  | a, b :: bs => Memory.setBytes (Memory.set m a b) (a + 1) bs

/-- Bytes as stored, at a direct address. -/
def rawRead (s : State) (a n : Nat) : List Byte := (List.range n).map (fun i => Memory.get s.mem (a + i))

/-- One byte of device memory by any of its names (R27). -/
def readByte (s : State) (a : Nat) : Byte := Memory.get s.mem (direct a)

/-- Bytes stored, with no checker. -/
def rawWrite (s : State) (a : Nat) (l : List Byte) : State := { s with mem := Memory.setBytes s.mem a l }

/-! ## Lattice-coded granules -/

/-- Class of the granule at index `i` (address / 32) from its stored syndrome: SC above SR (R256). -/
def granuleClass (s : State) (i : Nat) : LClass :=
  match Assoc.get? i s.synd with
  | none => .clean
  | some x => latticeClass (x.toNat % 65536) (x.toNat / 65536)

/-- Data of the granule as a checker returns them. -/
def granuleData (s : State) (i : Nat) : List Byte :=
  match granuleClass s i with
  | .dataBit k => leBytes 32 (leNat (rawRead s (32 * i) 32) ^^^ 2 ^ k)
  | _ => rawRead s (32 * i) 32

/-- Bond of a granule's bit (R259): data bond 256(q mod 8) + k, or 2,048 + check bond. -/
def bondOf (granule bit : Nat) : Nat :=
  let g := granule % 16 % 8
  if bit < 256 then 256 * g + bit else 2048 + 32 * g + (bit - 256)

/-- The bond in use where a data or check bond is named: its spare, numbered from 2,304, once it is replaced (R269). -/
def carrier (k : Column) (b : Nat) : Nat := match Assoc.get? b k.bondMap with
  | some n => 2304 + n
  | none => b

/-- A bond is judged hard: a cell that it carries is no longer repaired with a row (R267). -/
def judgeBond (k : Column) (b : Nat) : Column :=
  { k with hardBonds := k.hardBonds ++ [b], hardCells := k.hardCells.filter (fun (_, g, bit) => carrier k (bondOf g bit) != b) }

/-- Enter a correction in the column's log of 64 entries (R268) and judge its bond (R267): hard when
four distinct rows of the current pass name it. -/
def logCorrection (s : State) (c off bit : Nat) : State :=
  setCol s c fun k =>
    let e : LogEntry := ⟨off / 2048, granuleOf off % 16, bit, k.scrubPasses, carrier k (bondOf (granuleOf off) bit)⟩
    let old := k.log.findIdx? (fun x => x.pass != k.scrubPasses)
    let kept := if k.log.length < 64 then k.log else k.log.eraseIdx (old.getD 0)
    let log := kept ++ [e]
    let rows := ((log.filter (fun x => x.pass == k.scrubPasses && x.bond == e.bond)).map LogEntry.row).eraseDups
    let hard := decide (4 ≤ rows.length) && !k.hardBonds.contains e.bond && !k.deadBonds.contains e.bond
    let k := { k with log := log }
    if hard then judgeBond k e.bond else k

/-! ## SRAM beside device memory

The activation registers, stream buffers, mailbox queues and general-cache lines are lattice-coded too (R258) but have
no device address: their granules have indices from 2^43 on, past every address. -/

/-- Index of an activation-register granule: register bytes 32k to 32k + 31 of the keys of `MCore.areg`. -/
def aregGran (g k : Nat) : Nat := 2 ^ 43 + 4096 * g + k
/-- Index of granule k of the stream-buffer line at a place 0-63. -/
def streamGran (g place k : Nat) : Nat := 2 * 2 ^ 43 + 2048 * g + 32 * (place % 64) + k
/-- Index of the granule of mailbox entries 2k and 2k + 1 (R417). -/
def mboxGran (q k : Nat) : Nat := 3 * 2 ^ 43 + 512 * q + k % 512
/-- Index of granule k of the general-cache line at a place (way of a set). -/
def cacheGran (place k : Nat) : Nat := 4 * 2 ^ 43 + 8 * place + k

/-- Index of granule k of a line of 256 bytes that the kind-2 granules hold for the prefix engine (R245). -/
def kvGran (line k : Nat) : Nat := 5 * 2 ^ 43 + 8 * line + k

/-- No such granule holds an error. -/
def sramClean (s : State) : Bool := s.synd.all (fun x => decide (x.1 < 2 ^ 43))

/-- A mailbox entry of 16 bytes. -/
def MBox.entry (x : MBox) (p : Nat) : List Byte := Assoc.getD (List.replicate 16 (0 : Byte)) (p % 1024) x.entries

/-- Replace the bytes of `d` from offset `o` by `l`. -/
def splice (d : List Byte) (o : Nat) (l : List Byte) : List Byte := d.take o ++ l ++ d.drop (o + l.length)

/-- The 32 bytes of a granule as stored, in device memory or beside it; a kind-2 line is written through, so it holds what
DRAM holds (R248). -/
def granuleBits (s : State) (i : Nat) : List Byte :=
  let x := i % 2 ^ 43
  match i / 2 ^ 43 with
  | 0 => rawRead s (32 * i) 32
  | 1 => (List.range 32).map (fun j => Assoc.getD 0 (32 * (x % 4096) + j) (mc s (x / 4096)).areg)
  | 2 =>
    let m := mc s (x / 2048)
    let line := (m.stream.getD ((x % 2048 / 32 + 64 - m.streamAt % 64) % 64) (0, [])).2
    (line.drop (32 * (x % 32))).take 32
  | 3 => (mbx s (x / 512)).entry (2 * (x % 512)) ++ (mbx s (x / 512)).entry (2 * (x % 512) + 1)
  | 4 => (((Assoc.getD ⟨0, []⟩ (x / 8) s.slm.lines).data).drop (32 * (x % 8))).take 32
  | _ => rawRead s (32 * x) 32

/-- Store the 32 bytes of a granule. -/
def granulePut (s : State) (i : Nat) (d : List Byte) : State :=
  let x := i % 2 ^ 43
  match i / 2 ^ 43 with
  | 0 => rawWrite s (32 * i) d
  | 1 => setMc s (x / 4096) fun m =>
      { m with areg := d.zipIdx.foldl (fun a (b, j) => Assoc.put (32 * (x % 4096) + j) (if b = 0 then none else some b) a) m.areg }
  | 2 => setMc s (x / 2048) fun m =>
      let j := (x % 2048 / 32 + 64 - m.streamAt % 64) % 64
      { m with stream := m.stream.zipIdx.map (fun (l, k) => if k = j then (l.1, splice l.2 (32 * (x % 32)) d) else l) }
  | 3 => setMbx s (x / 512) fun q =>
      { q with entries := Assoc.put (2 * (x % 512) + 1) (some (d.drop 16)) (Assoc.put (2 * (x % 512)) (some (d.take 16)) q.entries) }
  | 4 => setSlm s fun y =>
      { y with lines := Assoc.put (x / 8) ((Assoc.get? (x / 8) y.lines).map (fun l => { l with data := splice l.data (32 * (x % 8)) d })) y.lines }
  | _ => s

/-- The 32 bytes of a granule as a checker returns them. -/
def correctedBits (s : State) (i : Nat) : List Byte :=
  match granuleClass s i with
  | .dataBit k => leBytes 32 (leNat (granuleBits s i) ^^^ 2 ^ k)
  | _ => granuleBits s i

/-- The write-back that a correctable SRAM granule queues (R261). -/
def queueWriteBack (s : State) (i : Nat) : State :=
  { s with writeBacks := if s.writeBacks.contains i then s.writeBacks else s.writeBacks ++ [i] }

/-- Report of a correctable granule beside device memory (R115, R258, R280, R417). -/
def reportSramCorr (s : State) (i : Nat) : State :=
  let x := i % 2 ^ 43
  let s := queueWriteBack s i
  match i / 2 ^ 43 with
  | 1 => setErr s (blk Ty.MCORE (x / 4096)) Err.MCORE_STORE_CORR
  | 2 => setErr s (blk Ty.MCORE (x / 2048)) Err.MCORE_STORE_CORR
  | 3 => setErr s (blk Ty.MBOX (x / 512)) Err.MBOX_MEM_CORR
  | _ => countField s (blk Ty.SLM 0) Off.SLM_LATTICE 31 16 1

/-- Report of an uncorrectable one; while a program runs it is a frame fault of cause 0x10 (R115, R262, R280, R417), but in
a general-cache line, which is fetched again (R247). -/
def reportSramUncorr (s : State) (i : Nat) : State :=
  let x := i % 2 ^ 43
  match i / 2 ^ 43 with
  | 1 => errFault s (blk Ty.MCORE (x / 4096)) Err.MCORE_STORE_UNCORR 0x10
  | 2 => errFault s (blk Ty.MCORE (x / 2048)) Err.MCORE_STORE_UNCORR 0x10
  | 3 => errFault s (blk Ty.MBOX (x / 512)) Err.MBOX_MEM_UNCORR 0x10
  | 4 => setRegField s (blk Ty.SLM 0) Off.SLM_LATTICE 0 0 1
  | _ => raiseFault (setRegField s (blk Ty.SLM 0) Off.SLM_LATTICE 0 0 1) (blk Ty.SLM 0) 0x10

/-- A read of a granule beside device memory through its checker (R256, R258): effects on its owner, the data, whether it
was uncorrectable. -/
def sramRead (s : State) (i : Nat) : State × List Byte × Bool :=
  let d := correctedBits s i
  match granuleClass s i with
  | .clean => (s, d, false)
  | .dataBit _ => (reportSramCorr s i, d, false)
  | .checkBit _ => (reportSramCorr s i, d, false)
  | .uncorr => (reportSramUncorr s i, d, true)

/-- Fresh check bits for a granule that is written whole; a write-back queued for it is dropped (R261, R638). -/
def freshCheck (s : State) (i : Nat) : State :=
  { s with writeBacks := s.writeBacks.filter (· != i), synd := Assoc.put i none s.synd }

/-- Fresh check bits for granules of a range, when any of them holds an error. -/
def freshRange (s : State) (first n : Nat) : State :=
  let mine (i : Nat) : Bool := decide (first ≤ i) && decide (i < first + n)
  if s.synd.any (fun x => mine x.1) then
    { s with writeBacks := s.writeBacks.filter (fun i => !mine i), synd := s.synd.filter (fun x => !mine x.1) }
  else s

/-- Report of a correctable granule to its owner (R258, R261, R278): counters, flags, and the write-back
that an SRAM read queues. -/
def reportCorr (s : State) (i bit : Nat) (dataCls : Bool) : State :=
  match placeOf (32 * i) with
  | .dram c off =>
    let b := blk Ty.COLCTL c
    let s := setReg s b Off.COLCTL_ECC_CORR (satAdd (2 ^ 32 - 1) (getReg s b Off.COLCTL_ECC_CORR) 1)
    let s := setReg s b Off.COLCTL_ECC_LAST ((if dataCls then 1 else 2) * 2 ^ 30 + off / 32 * 32)
    let s := setReg s b Off.COLCTL_ECC_LAST_BIT bit
    setErr (logCorrection s c off bit) b Err.COLCTL_DATA_CORR
  | .slm _ =>
    let s := countField s (blk Ty.SLM 0) Off.SLM_LATTICE 31 16 1
    { s with writeBacks := if s.writeBacks.contains i then s.writeBacks else s.writeBacks ++ [i] }
  | .mstore g _ =>
    let s := { s with writeBacks := if s.writeBacks.contains i then s.writeBacks else s.writeBacks ++ [i] }
    setErr s (blk Ty.MCORE g) Err.MCORE_STORE_CORR
  | .vmem v _ =>
    let s := { s with writeBacks := if s.writeBacks.contains i then s.writeBacks else s.writeBacks ++ [i] }
    setErr s (blk Ty.VCORE v) Err.VCORE_LMEM_CORR
  | _ => s

/-- Report of an uncorrectable granule to its owner; while a program runs it is a frame fault of cause
0x10 (R262). -/
def reportUncorr (s : State) (i : Nat) : State :=
  match placeOf (32 * i) with
  | .dram c off =>
    let b := blk Ty.COLCTL c
    let s := setReg s b Off.COLCTL_ECC_LAST (3 * 2 ^ 30 + off / 32 * 32)
    let s := setReg s b Off.COLCTL_ECC_LAST_BIT 0x1FF
    errFault s b Err.COLCTL_DATA_UNCORR 0x10
  | .slm _ => raiseFault (setRegField s (blk Ty.SLM 0) Off.SLM_LATTICE 0 0 1) (blk Ty.SLM 0) 0x10
  | .mstore g _ => errFault s (blk Ty.MCORE g) Err.MCORE_STORE_UNCORR 0x10
  | .vmem v _ => errFault s (blk Ty.VCORE v) Err.VCORE_LMEM_UNCORR 0x10
  | _ => s

/-- The granule lies in DRAM whose contents were lost with its supply (R498). -/
def contentsLost (s : State) (i : Nat) : Bool :=
  match placeOf (32 * i) with
  | .dram c _ => s.sup.lost.testBit (quadrantOf (c / 16))
  | _ => false

/-- A read of one granule through its checker: the effects on its owner, the data, and whether it was
uncorrectable. Lost contents read as free values. -/
def granuleRead (s : State) (i : Nat) : State × List Byte × Bool :=
  if contentsLost s i then
    let (x, s1) := draw s 256
    (s1, leBytes 32 x, false)
  else match granuleClass s i with
  | .clean => (s, rawRead s (32 * i) 32, false)
  | .dataBit k => (reportCorr s i k true, granuleData s i, false)
  | .checkBit k => (reportCorr s i k false, granuleData s i, false)
  | .uncorr => (reportUncorr s i, granuleData s i, true)

/-- Granules read one after another from index `i`. -/
def granulesRead : Nat → State → Nat → State × List Byte × List Bool
  | 0, s, _ => (s, [], [])
  | n + 1, s, i =>
    let (s1, d, u) := granuleRead s i
    let (s2, ds, us) := granulesRead n s1 (i + 1)
    (s2, d ++ ds, u :: us)

/-- A read of `n` bytes at a direct address: granules in ascending address (R229). -/
def memRead (s : State) (a n : Nat) : State × List Byte × Bool :=
  let i := a / 32
  let k := if n = 0 then 0 else (a + n - 1) / 32 + 1 - i
  let (s1, d, us) := granulesRead k s i
  (s1, (d.drop (a % 32)).take n, us.any id)

/-- Bits of the flip mask of a column that are enabled (R274). -/
def flipBits (f : Nat) : List Nat :=
  let a := if bitOf f 29 then [fieldOf f 8 0] else []
  let b := if bitOf f 30 then [fieldOf f 24 16] else []
  (a ++ b).eraseDups.filter (fun k => decide (k < 288))

/-- Syndrome bits that inverting a stored bit flips: SC above SR. -/
def flipSynd (k : Nat) : Nat :=
  if k < 256 then 2 ^ (16 + k % 16) + 2 ^ (k / 16) else if k < 272 then 2 ^ (k - 256) else 2 ^ (16 + (k - 272))

/-- A write of one whole granule with fresh check bits (R638): a queued write-back of it is dropped
(R261), a scrub of its row becomes stale (R266), and a write for a requester takes an armed flip mask
(R274). -/
def granuleWrite (s : State) (i : Nat) (d : List Byte) (requester : Bool) : State :=
  let s := { s with writeBacks := s.writeBacks.filter (· != i), synd := Assoc.put i none s.synd }
  match placeOf (32 * i) with
  | .dram c off =>
    let b := blk Ty.COLCTL c
    let s := setCol s c fun k =>
      let hit := match k.scrubPhase with
        | .read => false
        | .writeBack r _ => r == off / 2048
        | .verify r _ => r == off / 2048
        | .reread r => r == off / 2048
        | .repairRead r => r == off / 2048
        | .repairWrite r _ => r == off / 2048
      { k with scrubDirty := k.scrubDirty || hit }
    let f := getReg s b Off.COLCTL_FLIP
    if requester && bitOf f 31 then
      let bits := flipBits f
      let data := bits.foldl (fun x k => if k < 256 then x ^^^ 2 ^ k else x) (leNat d)
      let sy := bits.foldl (fun x k => x ^^^ flipSynd k) 0
      let s := setRegField s b Off.COLCTL_FLIP 31 31 0
      let s := rawWrite s (32 * i) (leBytes 32 data)
      { s with synd := Assoc.put i (if sy = 0 then none else some (BitVec.ofNat 32 sy)) s.synd }
    else rawWrite s (32 * i) d
  | _ => rawWrite s (32 * i) d

/-- A write inside one granule: whole, or read, merged and written; an uncorrectable stored granule is
left as it is and reported (R638). -/
def granuleMerge (s : State) (i o : Nat) (l : List Byte) (requester : Bool) : State × Bool :=
  if o = 0 ∧ l.length = 32 then (granuleWrite s i l requester, false)
  else
    let (s1, d, u) := granuleRead s i
    if u then (s1, true) else (granuleWrite s1 i (splice d o l) requester, false)

/-- A write of bytes at a direct address, granule by granule. `fuel` bounds the granules. -/
def memWriteGo : Nat → State → Nat → List Byte → Bool → State × Bool
  | 0, s, _, _, _ => (s, false)
  | n + 1, s, a, l, rq =>
    if l = [] then (s, false)
    else
      let k := 32 - a % 32
      let (s1, u) := granuleMerge s (a / 32) (a % 32) (l.take k) rq
      let (s2, us) := memWriteGo n s1 (a + k) (l.drop k) rq
      (s2, u || us)

/-- A write of bytes at a direct address; the flag says that a granule was uncorrectable and was left. -/
def memWrite (s : State) (a : Nat) (l : List Byte) (requester : Bool) : State × Bool :=
  memWriteGo (l.length / 32 + 2) s a l requester

/-! ## Memory-side adders (R239-R243) -/

/-- Elements of `w` bits of a granule's number, lowest first. -/
def splitNat (w n x : Nat) : List Nat := (List.range n).map (fun i => (x >>> (w * i)) % 2 ^ w)
/-- The number such elements make. -/
def joinNat (w : Nat) (l : List Nat) : Nat := l.foldr (fun x acc => x % 2 ^ w + 2 ^ w * acc) 0

/-- Signed maximum and minimum of two's complement elements (R168). -/
def maxSigned (w x y : Nat) : Nat := if signedOf w x < signedOf w y then y else x
def minSigned (w x y : Nat) : Nat := if signedOf w y < signedOf w x then y else x

/-- One element of an adder operation (R239, R240). -/
def adderElem (aop x y : Nat) : Nat :=
  match aop with
  | 1 => devAdd32 x y
  | 2 => devAdd16 x y
  | 3 => (x + y) % 2 ^ 32
  | 4 => (x + y) % 2 ^ 64
  | 5 => toF32 ((f32 x).max (f32 y))
  | 6 => toF32 ((f32 x).min (f32 y))
  | 7 => toBF16 ((bf16 x).max (bf16 y))
  | 8 => toBF16 ((bf16 x).min (bf16 y))
  | 9 => maxSigned 32 x y
  | 10 => minSigned 32 x y
  | 11 => lsAdd x y
  | _ => y

/-- Element width of an adder operation. -/
def adderWidth (aop : Nat) : Nat :=
  match aop with
  | 1 => 32 | 2 => 16 | 3 => 32 | 4 => 64 | 5 => 32 | 6 => 32 | 7 => 16 | 8 => 16 | 9 => 32 | 10 => 32
  | 11 => 128 | _ => 256

/-- The combined granule. -/
def adderGranule (aop x y : Nat) : Nat :=
  let w := adderWidth aop
  let n := 256 / w
  joinNat w ((splitNat w n x).zip (splitNat w n y) |>.map (fun (a, b) => adderElem aop a b))

/-- Outcome of an access as its requester hears it (R19, R312): 0 done, 1 address error, 2 uncorrectable. -/
abbrev Status := Nat

/-- A whole-granule write or an adder operation at one populated direct granule (R239-R243, R251): a
reserved AOP changes nothing, sets BAD_AOP and is an address error; an adder acts only at direct DRAM and
SLM scratchpad. -/
def adderWrite (s : State) (i aop : Nat) (d : List Byte) : State × Status :=
  if aop = 0 then (granuleWrite s i d true, 0)
  else match placeOf (32 * i) with
    | .dram c _ =>
      if 12 ≤ aop then (setErr s (blk Ty.COLCTL c) Err.COLCTL_BAD_AOP, 1)
      else
        let s := setCol s c (fun k => { k with adds := satAdd (2 ^ 32 - 1) k.adds 1 })
        let (s1, x, u) := granuleRead s i
        if u then (s1, 2) else (granuleWrite s1 i (leBytes 32 (adderGranule aop (leNat x) (leNat d))) true, 0)
    | .slm _ =>
      if 12 ≤ aop then (setErr s (blk Ty.SLM 0) Err.SLM_BAD_AOP, 1)
      else
        let (s1, x, u) := granuleRead s i
        if u then (s1, 2) else (granuleWrite s1 i (leBytes 32 (adderGranule aop (leNat x) (leNat d))) true, 0)
    | _ => (s, 1)

/-! ## Completion signatures (R588) -/

/-- A record of 32 data bytes and an address term entered in a value U. -/
def sigStep (u : DWord) (d : List Byte) (term : Nat) : DWord :=
  BitVec.ofNat 64 (crc64 u.toNat (d.take 32 ++ leBytes 8 term))

/-- The granules of an M-core's own writes wait for the end of the cc, to enter in address order. -/
def mcSig (s : State) (g i : Nat) : State :=
  setMc s g (fun m => { m with sigCc := m.sigCc ++ [(i, rawRead s (32 * i) 32)] })
/-- The address term of a granule is its device address. -/
def vcSig (s : State) (v i : Nat) : State :=
  setVc s v (fun m => { m with sig := sigStep m.sig (rawRead s (32 * i) 32) (32 * i) })
def colSig (s : State) (c i : Nat) : State :=
  setCol s c (fun m => { m with sig := sigStep m.sig (rawRead s (32 * i) 32) (32 * i) })

/-- Insert a record by address, after those of the same address. -/
def sigInsert (x : Nat × List Byte) : List (Nat × List Byte) → List (Nat × List Byte)
  | [] => [x]
  | y :: r => if y.1 ≤ x.1 then y :: sigInsert x r else x :: y :: r

/-- The waiting records of an M-core entered in its value U. -/
def mcSigFlush (m : MCore) : MCore :=
  if m.sigCc = [] then m
  else
    let l := m.sigCc.foldl (fun acc x => sigInsert x acc) []
    { m with sig := l.foldl (fun u x => sigStep u x.2 (32 * x.1)) m.sig, sigCc := [] }

/-- Granule indices that a span of bytes covers. -/
def granulesOf (a n : Nat) : List Nat :=
  if n = 0 then [] else (List.range ((a + n - 1) / 32 + 1 - a / 32)).map (fun k => a / 32 + k)

/-- Signature records for every granule of a span, ascending. -/
def mcSigSpan (s : State) (g a n : Nat) : State := (granulesOf a n).foldl (fun s i => mcSig s g i) s
def vcSigSpan (s : State) (v a n : Nat) : State := (granulesOf a n).foldl (fun s i => vcSig s v i) s

end Sys2Proof.Machine
end

