-- ==== Sys2Proof/Machine/Sections.lean ====
section
/-! DEFINITION. The program sections as their units read them: tile programs (R126), V-core programs
(R211), router slot tables (R320, R323), reduction descriptors (R326), column schedules (R221) and
barrier setups (R357). -/

namespace Sys2Proof.Machine

/-! ## Tile and V-core programs -/

/-- Operations of a tile program. -/
def tileCount (b : List Byte) : Nat := bytesAt b 4 2
/-- Operation `pc` of a tile program. -/
def tileOpAt (b : List Byte) (pc : Nat) : Option TileOp :=
  if pc < tileCount b then decodeTile (bytesAt b (32 + 8 * pc) 8) else none
/-- B_INIT. -/
def tileBases (b : List Byte) : List Nat := (List.range 8).map (fun i => bytesAt b (8 + 2 * i) 2)

/-- Instructions of a V-core program. -/
def vecCount (b : List Byte) : Nat := bytesAt b 4 4
/-- Instruction `pc` of a V-core program. -/
def vecAt (b : List Byte) (pc : Nat) : Option VInstr :=
  if pc < vecCount b then decodeVec (bytesAt b (16 + 4 * pc) 4) else none

/-! ## Router slot tables -/

/-- One flow record (R320). -/
structure Flow where
  idx : Nat
  inp : Nat
  cc : Nat
  len : Nat
  rate : Nat
  outs : Nat
  key : Nat
  count : Nat
  eject : Nat
  aop : Nat
  b : Int
  base : Nat
deriving DecidableEq, Repr

/-- One injection queue record (R323). -/
structure QueueRec where
  m : Nat
  q : Nat
  mode : Nat
  key : Nat
  rdi : Nat
  b : Int
  delta : Int
  seq0 : Nat
deriving DecidableEq, Repr

/-- Slots, flows and queues of a router section. -/
def rtSlots (s : List Byte) : Nat := bytesAt s 4 2
def rtFlows (s : List Byte) : Nat := bytesAt s 6 2
def rtQueues (s : List Byte) : Nat := bytesAt s 8 2

/-- Offset of the first flow record: after the slot entries, padded to 32 bytes. -/
def rtFlowBase (s : List Byte) : Nat := 32 + 32 * ceilDiv (4 * rtSlots s) 32

/-- FIRST and NUM of a slot. -/
def rtSlot (s : List Byte) (k : Nat) : Nat × Nat := (bytesAt s (32 + 4 * k + 2) 2, bytesAt s (32 + 4 * k) 2)

/-- Flow record i. -/
def rtFlow (s : List Byte) (i : Nat) : Flow :=
  let o := rtFlowBase s + 32 * i
  ⟨i, bytesAt s o 1, bytesAt s (o + 1) 1, bytesAt s (o + 2) 1, bytesAt s (o + 3) 1, bytesAt s (o + 4) 4,
   bytesAt s (o + 8) 2, bytesAt s (o + 10) 2, bytesAt s (o + 12) 1, bytesAt s (o + 13) 1,
   signedOf 16 (bytesAt s (o + 14) 2), bytesAt s (o + 16) 8⟩

/-- Flows of a slot, in ascending record index. -/
def rtFlowsOf (s : List Byte) (k : Nat) : List Flow :=
  let (first, num) := rtSlot s k
  (List.range num).map (fun i => rtFlow s (first + i))

/-- Injection queue record i. -/
def rtQueue (s : List Byte) (i : Nat) : QueueRec :=
  let o := rtFlowBase s + 32 * rtFlows s + 16 * i
  ⟨bytesAt s o 1, bytesAt s (o + 1) 1, bytesAt s (o + 2) 1, bytesAt s (o + 4) 2, bytesAt s (o + 6) 2,
   signedOf 16 (bytesAt s (o + 8) 2), signedOf 16 (bytesAt s (o + 10) 2), bytesAt s (o + 12) 2⟩

/-- The record of queue q of M-core m of a stack. -/
def rtQueueOf (s : List Byte) (m q : Nat) : Option QueueRec :=
  ((List.range (rtQueues s)).map (rtQueue s)).find? (fun r => r.m == m && r.q == q)

/-! ## Reduction descriptors -/

/-- One reduction descriptor (R326). -/
structure RedDesc where
  kind : Nat
  n : Nat
  next : Nat
  order : List Nat
deriving DecidableEq, Repr

def redCount (s : List Byte) : Nat := bytesAt s 4 2
def redDesc (s : List Byte) (i : Nat) : RedDesc :=
  let o := 16 + 16 * i
  let n := bytesAt s (o + 1) 1
  ⟨bytesAt s o 1, n, bytesAt s (o + 2) 2, (List.range n).map (fun k => bytesAt s (o + 4 + k) 1)⟩

/-! ## Column schedules -/

/-- One entry of a column schedule (R221). -/
structure ColEntry where
  slot : Nat
  cc : Nat
  kind : Nat
  count : Nat
  addr : Nat
  arg : Nat
deriving DecidableEq, Repr

def colCount (s : List Byte) : Nat := bytesAt s 4 2
def colEntry (s : List Byte) (i : Nat) : ColEntry :=
  let o := 16 + 16 * i
  ⟨bytesAt s o 2, bytesAt s (o + 2) 1, bytesAt s (o + 3) 1, bytesAt s (o + 4) 4, bytesAt s (o + 8) 4, bytesAt s (o + 12) 4⟩

/-! ## Barrier setups -/

/-- LIMIT of counter k in a barrier setup section (R357); 0 when it is not configured. -/
def barLimit (s : List Byte) (k : Nat) : Nat :=
  match (List.range (bytesAt s 4 2)).find? (fun i => bytesAt s (16 + 8 * i) 1 == k) with
  | some i => bytesAt s (16 + 8 * i + 2) 2
  | none => 0

/-! ## Flits -/

/-- A tag (R309) with its CHECK. -/
def mkTag (rdi seq slot op key : Nat) : BitVec 64 :=
  let t := rdi % 4096 * 2 ^ 44 + seq % 4096 * 2 ^ 32 + slot % 4096 * 2 ^ 20 + op % 16 * 2 ^ 16 + key % 65536
  BitVec.ofNat 64 (crc8 t 55 0 * 2 ^ 56 + t)

/-- A flit with fresh check bits. -/
def mkFlit (pay rdi seq slot op key : Nat) : Flit :=
  ⟨BitVec.ofNat 256 pay, BitVec.ofNat 32 (latticeCheck (pay % 2 ^ 256)), mkTag rdi seq slot op key⟩

end Sys2Proof.Machine

namespace Sys2Proof
open Sys2Proof.Machine

/-- Fields of a flit's tag. -/
def Flit.rdi (f : Flit) : Nat := fieldOf f.tag.toNat 55 44
def Flit.seq (f : Flit) : Nat := fieldOf f.tag.toNat 43 32
def Flit.slot (f : Flit) : Nat := fieldOf f.tag.toNat 31 20
def Flit.op (f : Flit) : Nat := fieldOf f.tag.toNat 19 16
def Flit.key (f : Flit) : Nat := fieldOf f.tag.toNat 15 0
/-- Is the tag CHECK good (R310)? -/
def Flit.tagOk (f : Flit) : Bool := crc8 f.tag.toNat 55 0 == fieldOf f.tag.toNat 63 56

/-- A flit with the bits that a wire inverted. -/
def Flit.xor (f n : Flit) : Flit := ⟨f.pay ^^^ n.pay, f.chk ^^^ n.chk, f.tag ^^^ n.tag⟩
/-- The class of a flit's payload (R256), check bits laid as COLPAR above ROWPAR. -/
def Flit.cls (f : Flit) : LClass :=
  let d := f.chk.toNat ^^^ latticeCheck f.pay.toNat
  latticeClass (d % 65536) (d / 65536)
/-- Bytes of a payload. -/
def Flit.bytes (f : Flit) : List Byte := leBytes 32 f.pay.toNat

end Sys2Proof
end

