-- ==== Sys2Proof/Machine/Packets.lean ====
section
/-! DEFINITION. Unscheduled packets as whole records (R312, R318, R319): where a request goes and how it
is put on its way. -/

namespace Sys2Proof.Machine

/-- Router and port that serve a direct address (R308); port 30 stands for none: such a request is
answered with status 1 where it stands. -/
def serverOf (a here : Nat) : Nat × Nat :=
  match placeOf a with
  | .dram c _ => (c / 16, 17)
  | .slm _ => (32, 8)
  | .mstore g _ => (g / 4, 4 + g % 4)
  | .vmem v _ => (v, 12)
  | .gnomon _ => (32, 9)
  | .facet _ => (here, 30)
  | .unmapped => (here, 30)

/-- Granules of kind 1, ascending (R245, R247). -/
def cacheGranules (s : State) : List Nat := (List.range 16).filter (fun g => slmKind s g == 1)

/-- Router and port that serve a request of unscheduled traffic: while the general cache has granules, DRAM requests go
to it at hub port 8 (R247, R248). -/
def requestServer (s : State) (a here : Nat) : Nat × Nat :=
  match placeOf a with
  | .dram _ _ => if cacheGranules s = [] then serverOf a here else (32, 8)
  | _ => serverOf a here

/-- A request for a server put at its entry point: it enters in the next SERVICE or stretch slot (R65, R319). -/
def requestTo (s : State) (server : Nat × Nat) (here port sub rtag : Nat) (write : Bool) (aop len addr : Nat) (data : List Byte) : State :=
  let pk : Packet := { id := s.nextPacket, here := here, dest := server.1, port := server.2, sub := 0, replyRouter := here,
                       replyPort := port, replySub := sub, rtag := rtag, isReply := false, write := write, aop := aop,
                       len := len, addr := addr, data := data, status := 0, badUnits := [], entered := false, ready := s.now }
  { s with packets := s.packets ++ [pk], nextPacket := s.nextPacket + 1 }

/-- A request put at its entry point: it enters in the next SERVICE or stretch slot (R65, R319). Alias
addresses of plain accesses are mapped first (R25, R247); an adder operation keeps an alias address and
is refused for it (R28, R243). -/
def newRequest (s : State) (here port sub rtag : Nat) (write : Bool) (aop len addr : Nat) (data : List Byte) :
    State :=
  let a := if aop = 0 then direct addr else addr
  requestTo s (requestServer s a here) here port sub rtag write aop len a data

/-- A packet by its number. -/
def packet? (s : State) (id : Nat) : Option Packet := s.packets.find? (fun p => p.id == id)
/-- The packets without it, and with it replaced. -/
def dropPacket (s : State) (id : Nat) : State := { s with packets := s.packets.filter (fun p => p.id != id) }
def setPacket (s : State) (id : Nat) (f : Packet → Packet) : State :=
  { s with packets := s.packets.map (fun p => if p.id = id then f p else p) }

/-- A unit that waited at a store has its status and data (R312). -/
def unitGot (s : State) (packet unit : Nat) (r : Nat × List Byte) : State :=
  { s with coreReqs := s.coreReqs.map (fun q => if q.packet = packet ∧ q.unit = unit then { q with got := some r } else q) }

/-- The units of a packet that is held at a store (R312); a unit of a write whose payload was found uncorrectable is not
written (R311). -/
def holdUnits (s : State) (p : Packet) : State :=
  let units := (List.range (p.len + 1)).map fun k =>
    ({ packet := p.id, unit := k, got := if p.write && p.badUnits.contains k then some (2, []) else none } : CoreReq)
  { (setPacket s p.id (fun x => { x with port := 31 })) with coreReqs := s.coreReqs ++ units }

/-- A request served (R312): it turns into its reply, standing at the router that served it, with the
data, the status and the units found uncorrectable, ready in cc `t`. A status the mesh already gave it
(R311) stays. -/
def replyPacket (s : State) (id status : Nat) (data : List Byte) (bad : List Nat) (t : Nat) : State :=
  setPacket s id fun p =>
    { p with isReply := true, dest := p.replyRouter, port := p.replyPort, sub := p.replySub, data := data,
             status := if p.status = 0 then status else p.status, badUnits := bad, entered := false, ready := t }

end Sys2Proof.Machine
end

