-- ==== Sys2Proof/Machine/ColumnCore.lean ====
section
/-! DEFINITION. A column controller's timing and service: column availability (R219), windows (R221, R222,
R224, R228), bank commands (R218, R641), and the requests it serves in acceptance order (R229, R230,
R242, R243). -/

namespace Sys2Proof.Machine

/-- Columns of the package. -/
def columnCount : Nat := 512

/-! ## Column-available cc -/

/-- First cc of slot k ≥ 1 of the current frame. -/
def slotStart (s : State) (k : Nat) : Nat := s.ft.tickAt + boundaryLen s + 64 * (k - 1)

/-- The first column-available cc at or after `t` in this frame (R219). `fuel` bounds the slots passed. -/
def nextAvail : Nat → State → Nat → Nat
  | 0, _, t => t
  | n + 1, s, t => if colAvail s t then t else nextAvail n s (slotStart s (slotAt s t + 1))

/-- The n-th column-available cc at or after `t`, n counted from 1. -/
def nthAvail : Nat → State → Nat → Nat → Nat
  | 0, _, t, _ => t
  | k + 1, s, t, n =>
    let a := nextAvail (fSlots s + 1) s t
    let room := 64 - ccAt s a
    if n ≤ room then a + n - 1 else nthAvail k s (a + room) (n - room)

/-- Are cc t to t + 151 all column-available (R287)? -/
def availSpan (s : State) (t : Nat) : Bool := [0, 64, 128, 151].all (fun d => colAvail s (t + d) && decide (slotAt s (t + d) < fSlots s))

/-! ## Schedule entries -/

/-- The column schedule of a column. -/
def colBody (s : State) (c : Nat) : List Byte := (sectionOf s 7 c).getD []

/-- cc of a position of the current frame. -/
def posCc (s : State) (slot cc : Nat) : Nat := slotStart s slot + cc

/-- The first entry at or after `i` that is, or is not, a ROWENG entry. -/
def entryFrom (body : List Byte) (i : Nat) (rowEng : Bool) : Option (Nat × ColEntry) :=
  ((List.range (colCount body - i)).map (fun k => (i + k, colEntry body (i + k)))).find?
    (fun x => (x.2.kind == 3) == rowEng)

/-- Bring the windows of a column up to the present cc: a PORT window past its last cc is over, and the
next STREAM or PORT entry whose position has come begins, moved by the slips of the frame (R228). `fuel`
bounds the entries. -/
def colSyncGo : Nat → State → Nat → State
  | 0, s, _ => s
  | n + 1, s, c =>
    let k := col s c
    let body := colBody s c
    match k.window with
    | some w =>
      if (colEntry body w.entry).kind = 2 ∧ w.stop < s.now then
        colSyncGo n (setCol s c (fun k => { k with window := none, free := w.stop + 1 })) c
      else s
    | none =>
      match entryFrom body k.entry false with
      | some (i, e) =>
        let start := max (posCc s e.slot e.cc + k.slip) k.free
        if start ≤ s.now then
          let w : Window := ⟨i, start, 0, nthAvail (fSlots s + 1) s start e.count⟩
          colSyncGo n (setCol s c (fun k => { k with window := some w, entry := i + 1 })) c
        else s
      | none => s

/-- The windows of a column while scheduled work is open to it. -/
def colSync (s : State) (c : Nat) : State :=
  if workOpen s (blk Ty.COLCTL c) then colSyncGo (2 * colCount (colBody s c) + 2) s c else s

/-! ## Banks (R218, R641) -/

/-- A bank of a column by its position 4 × layer + bank. -/
def bankAt (k : Column) (p : Nat) : Bank := Assoc.getD Bank.init p k.banks
def setBank (k : Column) (p : Nat) (f : Bank → Bank) : Column := { k with banks := Assoc.put p (some (f (bankAt k p))) k.banks }

/-- Rows that a step of an operation names, sources first, D last (R281). -/
def stepRows (op a b d : Nat) : List Nat :=
  match op with
  | 1 => [a, d]
  | 2 => [d]
  | 6 => [a, d]
  | _ => [a, b, d]

/-- Bank positions of rows given by index (R282). -/
def banksOf (rows : List Nat) : List Nat := (rows.map (· % 32)).eraseDups

/-- Does a row step hold the bank (R286)? -/
def stepHolds (r : RowStep) (p : Nat) : Bool := (banksOf (stepRows r.op r.a r.b r.d)).contains p

/-- One pass over the terms of R641 that the banks set for an ACT in cc `t`: the first cc that meets them. The PRE of an
open row may issue as soon as tRAS, tWR and the row's last command allow; a bank that a row step or cc 40 closed stands
precharged. `starts` holds the starts of the row steps that hold bank `p`. -/
def bankTerms (bank : Nat → Bank) (starts : List Nat) (p span t : Nat) : Nat :=
  let b := bank p
  let t := if b.act = 0 then t else max t (b.act + 35)
  let t := if b.openRow.isSome then max t (max (max (b.act + 23) (if b.wr = 0 then 0 else b.wr + 11)) b.cmd + 12) else t
  let t := (List.range 4).foldl (fun t j =>
    let q := p / 4 * 4 + j
    let a := (bank q).act
    if q = p ∨ a = 0 then t else max t (a + 3)) t
  let t := max t b.held
  starts.foldl (fun t a => if a ≤ t + span ∧ t < a + 152 then a + 152 else t) t

/-- Those terms, and for scheduled work the column-available or lead-in cc (R219, R641). -/
def actTerms (s : State) (k : Column) (p span : Nat) (sched : Bool) (t : Nat) : Nat :=
  let t := bankTerms (bankAt k) ((k.steps.filter (fun r => stepHolds r p)).map RowStep.start) p span t
  if sched then
    let n := nextAvail (fSlots s + 1) s t
    if t + 24 < n then n - 24 else t
  else t

/-- The cc of an ACT planned for `t`. -/
def actCc : Nat → State → Column → Nat → Nat → Bool → Nat → Nat
  | 0, _, _, _, _, _, t => t
  | n + 1, s, k, p, span, sched, t => actCc n s k p span sched (actTerms s k p span sched t)

/-- A transfer to a column offset whose command is planned for `cOpen` when its row is open and `cShut`
otherwise: the delay of its ACT, its data cc, and the column with its bank commanded. -/
def transfer (s : State) (k : Column) (off : Nat) (read sched : Bool) (cOpen cShut : Nat) : Nat × Nat × Column :=
  let p := bankPos off
  let b := bankAt k p
  let lat := if read then 10 else 0
  if b.openRow = some (rowOf off) then
    let cmd := max cOpen (b.act + 11)
    (0, cmd + lat, setBank k p (fun b => { b with cmd := cmd + 1, wr := if read then b.wr else cmd + 1 }))
  else
    let plan := cShut - 12
    let act := actCc 16 s k p (12 + lat) sched plan
    let cmd := act + 12
    (act - plan, cmd + lat,
      setBank k p (fun b => { b with openRow := some (rowOf off), act := act + 1, cmd := cmd + 1, wr := if read then 0 else cmd + 1 }))

/-! ## Data bonds (R217, R242) -/

/-- May `cost` granules more go over the data bonds in a cc, in that direction? -/
def dataRoom (k : Column) (t cost : Nat) (read : Bool) : Bool :=
  match k.data.find? (fun x => x.cc == t) with
  | some x => x.read == read && decide (x.grans + cost ≤ 16)
  | none => true

/-- Granules taken up in a cc; what lies before `now` is dropped. -/
def dataTake (k : Column) (now t cost : Nat) (read : Bool) : Column :=
  let old := ((k.data.find? (fun x => x.cc == t)).map DataCc.grans).getD 0
  { k with data := k.data.filter (fun x => decide (now ≤ x.cc) && x.cc != t) ++ [⟨t, old + cost, read⟩] }

/-! ## Requests -/

/-- A transfer slips by `d` cc (R228): the column's later transfers move with it. -/
def slipBy (s : State) (c d : Nat) : State :=
  setErrIf (decide (0 < d)) (setCol s c (fun k => { k with slip := satAdd 0xFFFF k.slip d })) (blk Ty.COLCTL c) Err.COLCTL_SLIP

/-! ## Stream transfers (R222, R641) -/

/-- Scheduled commands may go out: scheduled work is open, or the boundary slot's lead-in runs (R219). -/
def cmdOpen (s : State) (b : Nat) : Bool :=
  workOpen s b || (awake s && running s && s.ft.onProg && workLive s b && good s b && enabled s b && decide (slotNow s = 0)
    && decide (slotStart s 1 ≤ s.now + 24))

/-- First cc that the windows before entry `i` leave free: `from_` is the next entry that has not begun. -/
def windowFree : Nat → State → Nat → Nat → Nat → Nat → Nat
  | 0, _, _, _, _, free => free
  | n + 1, s, c, from_, i, free =>
    match entryFrom (colBody s c) from_ false with
    | some (j, e) =>
      if i ≤ j then free
      else
        let start := max (posCc s e.slot e.cc + (col s c).slip) free
        windowFree n s c (j + 1) i (if e.kind = 2 then nthAvail (fSlots s + 1) s start e.count + 1 else (col s c).cmdLast + 1)
    | none => free

/-- The next STREAM entry at or after `i`. -/
def streamFrom (body : List Byte) (i : Nat) : Option (Nat × ColEntry) :=
  ((List.range (colCount body - i)).map (fun k => (i + k, colEntry body (i + k)))).find? (fun x => x.2.kind == 1)

/-- The next stream transfer to command, with its data cc when nothing delays it further (R222). -/
def streamPlan (s : State) (c : Nat) : Option Fly :=
  let k := col s c
  let body := colBody s c
  match streamFrom body k.cmdNext.1 with
  | none => none
  | some (i, e) =>
    let j := if i = k.cmdNext.1 then k.cmdNext.2 else 0
    let first :=
      if 0 < j then k.cmdLast + 1
      else
        let free := match k.window with
          | some w => if (colEntry body w.entry).kind = 2 then w.stop + 1 else k.cmdLast + 1
          | none => k.free
        max (posCc s e.slot e.cc + k.slip) (windowFree (colCount body + 1) s c k.entry i free)
    some ⟨i, j, e.addr + 512 * j, nextAvail (fSlots s + 1) s first⟩

/-- The bank of a column opened for a row in this cc. -/
def openBank (s : State) (c off : Nat) : State :=
  setCol s c fun k => setBank k (bankPos off) (fun b => { b with openRow := some (rowOf off), act := s.now + 1, wr := 0 })

/-- An ACT for the row may issue in this cc (R641). -/
def actNow (s : State) (c off : Nat) : Bool := decide (actCc 16 s (col s c) (bankPos off) 22 true s.now = s.now)

/-- A transfer commanded: it is made in its data cc, and its READ issues 10 cc before. -/
def streamPut (s : State) (c : Nat) (x : Fly) : State :=
  setCol s c fun k =>
    let last := decide ((colEntry (colBody s c) x.entry).count ≤ x.made + 1)
    { (setBank k (bankPos x.off) (fun b => { b with cmd := max b.cmd (x.data - 9) })) with
        fly := k.fly ++ [x], cmdLast := x.data, cmdNext := if last then (x.entry + 1, 0) else (x.entry, x.made + 1) }

/-- Stream transfers whose rows fall due (R641): 22 cc before its data cc a transfer's row is open, or its ACT issues; an
ACT that must wait moves the transfer, and with it the later ones. `fuel` bounds those of one cc. -/
def streamCommand : Nat → State → Nat → State
  | 0, s, _ => s
  | n + 1, s, c =>
    match streamPlan s c with
    | some x =>
      if s.now + 22 < x.data then s
      else if (bankAt (col s c) (bankPos x.off)).openRow = some (rowOf x.off) then streamCommand n (streamPut s c x) c
      else if actNow s c x.off then
        let d := s.now + 22 - x.data
        let x' := { x with data := if d = 0 then x.data else nextAvail (fSlots s + 1) s (x.data + d) }
        streamCommand n (streamPut (slipBy (openBank s c x.off) c d) c x') c
      else s
    | none => s

/-- A READ that falls due in this cc finds its row closed, or not open for tRCD, as when a row step has taken the bank
since (R288): the transfer and the later ones wait a cc, and the row's ACT issues as soon as it may. -/
def streamCheck (s : State) (c : Nat) : State :=
  match (col s c).fly.find? (fun x => x.data == s.now + 10 &&
      (let b := bankAt (col s c) (bankPos x.off)
       b.openRow != some (rowOf x.off) || decide (s.now + 1 < b.act + 12))) with
  | some x =>
    let s := slipBy s c 1
    let s := setCol s c fun k =>
      { k with fly := k.fly.map (fun y => if x.data ≤ y.data then { y with data := y.data + 1 } else y), cmdLast := k.cmdLast + 1 }
    if (bankAt (col s c) (bankPos x.off)).openRow != some (rowOf x.off) && actNow s c x.off then openBank s c x.off else s
  | none => s

/-- The bank commands of a column's streams in a cc. -/
def columnCommands (s : State) (c : Nat) : State :=
  if cmdOpen s (blk Ty.COLCTL c) then streamCommand 4 (streamCheck s c) c else s

/-- The parts of a write cover its granule: nothing of the stored one stays. -/
def wholeParts (parts : List (Nat × Nat)) : Bool :=
  (List.range 32).all (fun i => parts.any (fun p => decide (p.1 ≤ i) && decide (i < p.1 + p.2)))

/-- Capacity that a granule of a request takes (R242, R401): two for an adder operation or a write
narrower than a granule. -/
def granuleCost (r : PortReq) : Nat := if r.aop ≠ 0 ∨ (r.write ∧ !wholeParts r.parts) then 2 else 1

/-- Read bytes that a request's parts name. -/
def partBytes (parts : List (Nat × Nat)) (d : List Byte) : List Byte := (parts.map (fun (o, w) => (d.drop o).take w)).flatten

/-- `d` with a request's parts replaced by consecutive bytes of `l`; a later part governs (R400). -/
def putParts : List (Nat × Nat) → List Byte → List Byte → List Byte
  | [], d, _ => d
  | (o, w) :: r, d, l => putParts r (splice d o (l.take w)) (l.drop w)

/-- Units in which a request is served: its granules, and where elements of a mover share an access to an adder, one adder
operation for each of them (R242, R401). -/
def PortReq.per (r : PortReq) : Nat := if r.aop = 0 then 1 else max 1 (ceilDiv (r.parts.map Prod.snd).sum 32)
def PortReq.units (r : PortReq) : Nat := r.count * r.per
/-- Column offset of the granule of unit u. -/
def PortReq.offAt (r : PortReq) (u : Nat) : Nat := r.off + 32 * (u / r.per)

/-- Perform one unit of a request (R229, R240, R243, R262, R638): the state, the data read and the
status. A unit of a write whose payload reached the router uncorrectable is not written (R311). -/
def performGranule (s : State) (c : Nat) (r : PortReq) : State × List Byte × Status :=
  let i := (dramAddr c (r.offAt r.next)) / 32
  let sign (s : State) : State := if r.sched then colSig s c i else s
  if r.write && r.bad.contains r.next then (s, [], 2)
  else if r.write then
    let n := if r.aop = 0 then (r.parts.map Prod.snd).sum else 32
    let d := (r.data.drop (n * r.next)).take n
    if r.aop ≠ 0 then
      let (s1, st) := adderWrite s i r.aop d
      if st = 0 then (sign s1, [], 0)
      else if st = 1 ∧ r.sched then (raiseFault s1 (blk Ty.COLCTL c) 0x20, [], 1)
      else (s1, [], st)
    else if wholeParts r.parts then (sign (granuleWrite s i (putParts r.parts (List.replicate 32 0) d) true), [], 0)
    else
      let (s1, old, u) := granuleRead s i
      if u then (s1, [], 2) else (sign (granuleWrite s1 i (putParts r.parts old d) true), [], 0)
  else
    let (s1, d, u) := granuleRead s i
    (s1, partBytes r.parts d, if u then 2 else 0)

/-- A mover's bus error (R414): the failing address, DIR, CAUSE and descriptor are latched, BUS_ERR and
HALTED set. -/
def latchBusError (s : State) (b addr dir cause desc : Nat) : State :=
  let s := setReg s b Off.SMOVER_FAIL_ADDR_LO (addr % 2 ^ 32)
  let s := setReg s b Off.SMOVER_FAIL_ADDR_HI (addr / 2 ^ 32)
  let s := setReg s b Off.SMOVER_FAIL_INFO (dir * 2 ^ 30 + cause * 2 ^ 27 + desc % 4096)
  setErr s b Err.SMOVER_BUS_ERR

/-- A stack mover's bus error is also a frame fault (R416). -/
def smoverError (s : State) (m addr dir cause : Nat) : State :=
  let s := latchBusError s (blk Ty.SMOVER m) addr dir cause (smv s m).desc
  raiseFault (setSmv s m (fun x => { x with halted := true })) (blk Ty.SMOVER m) 0x22

/-- The reply to a request that has been served whole. -/
def finishRequest (s : State) (c : Nat) (r : PortReq) : State :=
  match r.src with
  | .router =>
    if r.sched then s
    else replyPacket s r.handle (if r.bad = [] then 0 else 2) r.got r.bad (r.ready + 1)
  | .mover i =>
    let m := 4 * (c / 16) + i
    let bad := decide (r.bad ≠ [])
    let s :=
      if r.write then
        setSmv s m (fun x => { x with writes := x.writes - 1, lastAt := s.now + 1, moved := satAdd (2 ^ 32 - 1) x.moved (if bad then 0 else r.data.length) })
      else
        setSmv s m (fun x => { x with reads := x.reads.map (fun (q, w, d) => if q = r.handle then (q, w, some (r.ready, r.got)) else (q, w, d)) })
    if bad then smoverError s m (dramAddr c r.off + (r.parts.headD (0, 0)).1) (if r.write then 1 else 0) 2 else s

/-- The last data cc of a request if its units from `u` on were transferred from cc `t` on. -/
def dryRun : Nat → State → Column → PortReq → Nat → Nat → Nat → Nat
  | 0, _, _, _, _, t, last => max last (t + 64)
  | n + 1, s, k, r, u, t, last =>
    if r.units ≤ u then last
    else
      let (_, d, k') := transfer s k (r.offAt u) (!r.write) false t (t + 12)
      if dataRoom k d (granuleCost r) (!r.write) then
        dryRun n s (dataTake k' t d (granuleCost r) (!r.write)) r (u + 1) (if r.aop = 0 then t else t + 1) (max last (max t d))
      else dryRun n s k r u (t + 1) last

/-- Serve the requests of one kind in acceptance order (R229) as the capacity of this cc allows: `sched`
in a PORT window, else in cc 0-39 of a SERVICE or stretch slot, where a request begins only when its data
end by cc 39 (R230). A unit whose data cc has no room for it (R217), or a second adder operation of a cc (R242), is taken up
again in the next cc, with those behind it. A scheduled transfer whose ACT is late slips, and the window with it (R228). -/
def serveGo : Nat → State → Nat → Bool → State
  | 0, s, _, _ => s
  | n + 1, s, c, sched =>
    let k := col s c
    match k.queue.find? (fun r => r.sched == sched) with
    | none => s
    | some r =>
      let cost := granuleCost r
      if (r.aop ≠ 0 ∧ k.addAt = s.now + 1) ∨ s.now + 1 < r.begun then s
      else if !sched && r.next == 0 && decide (slotStart s (slotNow s) + 39 < dryRun (r.units + 64) s k r 0 s.now 0) then s
      else
        let (d, data, k') := transfer s k (r.offAt r.next) (!r.write) sched s.now (s.now + 12)
        if sched && decide (0 < d) then
          slipBy (setCol s c fun k =>
            { k with queue := k.queue.set (k.queue.findIdx (fun x => x.sched == sched)) { r with begun := s.now + d + 1 },
                     fly := k.fly.map (fun y => { y with data := y.data + d }), cmdLast := if k.fly = [] then k.cmdLast else k.cmdLast + d,
                     window := k.window.map (fun w => { w with next := s.now + d, stop := nextAvail (fSlots s + 1) s (w.stop + d) }) }) c d
        else if !dataRoom k data cost (!r.write) then s
        else
          let s := setCol s c fun _ =>
            { (dataTake k' s.now data cost (!r.write)) with addAt := if r.aop = 0 then k.addAt else s.now + 1,
                                                            lastData := if sched then max k.lastData data else k.lastData }
          let (s, got, st) := performGranule s c r
          let r' := { r with next := r.next + 1, got := r.got ++ got, bad := if st = 0 then r.bad else r.bad ++ [r.next], ready := max r.ready data }
          let ended := decide (r'.next = r.units) || st == 1
          let s := setCol s c fun k =>
            let i := k.queue.findIdx (fun x => x.sched == sched)
            { k with queue := if ended then k.queue.eraseIdx i else k.queue.set i r' }
          let s := if ended then (if st = 1 then (if r.sched then s else replyPacket s r.handle 1 [] [] data) else finishRequest s c r') else s
          serveGo n s c sched

/-- Is a PORT window open in this cc? -/
def portOpen (s : State) (c : Nat) : Bool :=
  workOpen s (blk Ty.COLCTL c) && colAvail s s.now &&
    (match (col s c).window with
      | some w => (colEntry (colBody s c) w.entry).kind == 2 && decide (w.next ≤ s.now) && decide (s.now ≤ w.stop)
      | none => false)

/-- Scheduled requests that wait. -/
def portHeld (k : Column) : Nat := (k.queue.filter (fun x => x.sched)).length

/-- Scheduled requests beyond 64 that a cc leaves waiting are lost, the latest first, with PORT_OVERFLOW and a frame fault
(R224). -/
def portOverflow (s : State) (c : Nat) : State :=
  let k := col s c
  if portHeld k ≤ 64 then s
  else
    let kept := ((k.queue.filter (fun x => x.sched)).take 64) ++ k.queue.filter (fun x => !x.sched)
    errFault (setCol s c (fun k => { k with queue := kept })) (blk Ty.COLCTL c) Err.COLCTL_PORT_OVERFLOW 0x20

/-- A transfer already accepted of which a halt or a fence lets the column finish (R563, R578): one that its ACT delayed,
or one that has begun. -/
def reqBegun (r : PortReq) : Bool := decide (0 < r.begun) || decide (0 < r.next)

/-- A column at the end of a cc: it serves what it can of the requests accepted by then, in their order; outside scheduled
work only a scheduled transfer that was already accepted (R563, R578). -/
def colServe (s : State) (c : Nat) : State :=
  let s := colSync s c
  portOverflow (if portOpen s c then serveGo 17 s c true
    else if awake s && !workOpen s (blk Ty.COLCTL c) && (col s c).queue.any (fun r => r.sched && reqBegun r) then serveGo 17 s c true
    else if awake s && serviceOpen s && decide (1 ≤ slotNow s) && decide (ccNow s ≤ 39) then serveGo 17 s c false
    else s) c

/-- Order of acceptance (R229): by cc; in one cc the stack router comes before movers 0 to 3. -/
def reqRank (r : PortReq) : Nat := match r.src with
  | .router => 0
  | .mover i => i + 1
def acceptInsert (r : PortReq) : List PortReq → List PortReq
  | [] => [r]
  | x :: l => if r.arrived < x.arrived ∨ (r.arrived = x.arrived ∧ reqRank r < reqRank x) then r :: x :: l else x :: acceptInsert r l

/-- A request reaches a column and is accepted in its place (R224, R229); it is served from the end of the cc on. -/
def colRequest (s : State) (c : Nat) (r : PortReq) : State := setCol s c (fun k => { k with queue := acceptInsert r k.queue })

end Sys2Proof.Machine
end

