-- ==== Sys2Proof/Machine/Health.lean ====
section
/-! DEFINITION. What decides and records the health of the package: the governing values of the sensors
(R503-R506), the flash write range (R596), defects found in service (R546-R551), the Gnomon's generation
(R33) and fencing (R50, R577-R579). -/

namespace Sys2Proof.Machine

/-! ## Governing values -/

/-- A sensor by index (R503). -/
def sensor (s : State) (i : Nat) : Sensor := Assoc.getD Sensor.init i s.th.sensors
/-- Is it alive, with a reading? -/
def sensorLive (s : State) (i : Nat) : Bool := (sensor s i).valid && (sensor s i).state != 2

/-- Governing value of M-core g's hot spot (R504). -/
def hotGov (s : State) (g : Nat) : Option Int :=
  let a := sensor s (2 * g)
  let b := sensor s (2 * g + 1)
  let bd := b.value + Assoc.getD 0 g s.shape.deltas
  match sensorLive s (2 * g), sensorLive s (2 * g + 1) with
  | true, true => some (if a.state = 1 then max a.value bd + 32 else max a.value bd)
  | false, true => some (bd + 48)
  | true, false => some (a.value + 48)
  | false, false => none

/-- The largest of a list of optional values. -/
def maxOf (l : List (Option Int)) : Option Int :=
  l.foldl (fun m x => match m, x with
    | some a, some b => some (max a b)
    | some a, none => some a
    | none, y => y) none

/-- Governing value of layer ℓ of stack st (R506). -/
def layerGov (s : State) (st l : Nat) : Option Int :=
  let i := 256 + 8 * st + l
  if sensorLive s i then some (sensor s i).value
  else
    match maxOf ((List.range 8).map (fun k => let j := 256 + 8 * st + k; if sensorLive s j then some (sensor s j).value else none)) with
    | some v => some (v + 48)
    | none => maxOf ((List.range 4).map (fun m => hotGov s (4 * st + m)))

/-- Governing value of hub sensor k of 0-11 (R506): 115 °C when no hub sensor is live. -/
def hubGov (s : State) (k : Nat) : Int :=
  if sensorLive s (512 + k) then (sensor s (512 + k)).value
  else
    match maxOf ((List.range 12).map (fun j => if sensorLive s (512 + j) then some (sensor s (512 + j)).value else none)) with
    | some v => v + 48
    | none => 1840

/-- The governing value that a sensor index shows: a pair's at index 2g. -/
def govOf (s : State) (i : Nat) : Option Int :=
  if i < 256 then hotGov s (i / 2)
  else if i < 512 then layerGov s ((i - 256) / 8) ((i - 256) % 8)
  else some (hubGov s (i - 512))

/-- Flash and fuse writes may start (R596): every hub governing value lies in 10-70 °C. -/
def flashWritable (s : State) : Bool :=
  (List.range 12).all (fun k => decide (160 ≤ hubGov s k) && decide (hubGov s k ≤ 1120))

/-! ## Gnomon and defects -/

/-- The Gnomon's fields have changed in service: GEN goes to the next even value (R33). -/
def gnomonBump (s : State) : State :=
  if s.shape.published then setShape s (fun h => { h with gen := (h.gen + 2) % 2 ^ 32 }) else s

/-- Order of the defect map (R551). -/
def defectLt (a b : DefectEntry) : Bool :=
  decide (a.block < b.block) ||
    (a.block == b.block && (decide (a.unit < b.unit) || (a.unit == b.unit && decide (a.pos < b.pos))))

/-- Insert an entry in map order. -/
def insertDefect (d : DefectEntry) : List DefectEntry → List DefectEntry
  | [] => [d]
  | x :: r => if defectLt d x then d :: x :: r else x :: insertDefect d r

/-- Add a defect to the field defect list with its cause: in flash, or held in hub memory while the hub temperature
forbids flash writes (R546-R548, R273). -/
def fieldDefect (s : State) (d : Defect) (cause : FieldCause) : State :=
  if (s.shape.fieldDefects ++ s.shape.heldDefects).any (fun e => e.defect == d) then s
  else if flashWritable s then setShape s (fun h => { h with fieldDefects := h.fieldDefects ++ [⟨d, cause⟩] })
  else setShape s (fun h => { h with heldDefects := h.heldDefects ++ [⟨d, cause⟩] })

/-- A defect found in service: it joins the field defect list, and the map with SOURCE 4 while the map has
room (R547, R551); an entry of the same unit gives way to it. -/
def noteDefect (s : State) (d : Defect) (spare outcome : Nat) (cause : FieldCause) : State :=
  let s := fieldDefect s d cause
  if s.shape.defects.length < 16384 then
    let keep := s.shape.defects.filter (fun e => e.block != d.block || e.unit != d.unit || e.pos != d.pos)
    gnomonBump (setShape s (fun h => { h with defects := insertDefect ⟨d.block, d.unit, 4, d.pos, spare, outcome⟩ keep }))
  else s

/-- Units of a block that the fuses or the field defect list mark bad (R546), and a mask without them. -/
def knownBad (s : State) (b unit : Nat) : List Nat :=
  ((s.shape.fuseDefects ++ (s.shape.fieldDefects ++ s.shape.heldDefects).map FieldEntry.defect).filter
    (fun d => d.block == b && d.unit == unit)).map Defect.pos
def maskWithout (m : Nat) (bad : List Nat) : Nat := bad.foldl (fun m k => if m.testBit k then m - 2 ^ k else m) m

/-- Lanes that fail the qualification of a link join the field defect list and the map (R545, R546). -/
def lanesFail (s : State) (b unit : Nat) (lanes : List Nat) : State :=
  lanes.foldl (fun s k => if (knownBad s b unit).contains k then s else noteDefect s ⟨b, unit, k⟩ 0xFFFF 2 .test) s

/-- The transmit preset of a link that trains (R529): Garlet port n < 20, the Zeleri link at 20. -/
def presetNow (s : State) (link : Nat) : Int := Assoc.getD 0 link s.shape.presets + Assoc.getD 0 (557 + link) s.th.ucal

/-! ## Fencing -/

/-- A die-to-die end goes DOWN (R578, R307). -/
def d2dDown (x : D2DEnd) : D2DEnd :=
  { x with width := 0, ready := false, tstate := 0, inMarker := none, inReply := none, inWidth := none, pendWidth := none }

/-- Contents of a mailbox queue discarded (R427). -/
def mboxClear (q : MBox) : MBox := { MBox.init with noticed := q.noticed, fenced := q.fenced, era := q.era + 1 }

/-- A Garlet port goes DOWN and to SEARCH (R455, R457): what it holds of the link is lost. -/
def gportDown (p : GPort) : GPort :=
  { GPort.init with ownMask := p.ownMask, rx := p.rx, released := p.released, calAt := p.calAt,
                    done := p.done, preset := p.preset, fenced := p.fenced, tstate := 1 }

/-- What the block's type does at the fence (R578, R331, R457). Unscheduled requests that a column abandons are answered as
for memory that is not populated (R20; DEDUCED, log entry 81). -/
def fenceEffect (s : State) (b : Nat) : State :=
  let i := instOf b
  match typeOf b with
  | 3 => setMc s i (fun m => { m with inj := [], fenceAt := s.now - ccNow s % 8 + 8 })
  | 4 => setVc s i (fun v => { v with fenced := true })
  | 6 => setSmv s i (fun m => { m with fenced := true })
  | 7 =>
    let lost := (col s i).queue.filter (fun r => !reqBegun r && !r.sched)
    let s := setCol s i (fun c => { c with window := none, entry := 65536, cmdNext := (65536, 0), rowEntry := (65536, 0),
                                           queue := c.queue.filter reqBegun, reqs := [], fenced := true })
    lost.foldl (fun s r => replyPacket s r.handle 1 [] [] s.now) s
  | 8 =>
    let s := setErr (setDd s i (fun x => { (d2dDown x) with fenced := true })) b Err.D2D_DOWN
    setErr (setDd s (d2dPeer i) d2dDown) (blk Ty.D2D (d2dPeer i)) Err.D2D_DOWN
  | 9 =>
    let was := (gp s i).width
    setErrIf (was != 0) (setGp s i (fun p => { (gportDown p) with fenced := true, tstate := 0, rx := [], tx := [] })) b Err.GPORT_DOWN
  | 12 => setMbx s i (fun q => { (mboxClear q) with fenced := true })
  | 13 => setHmv s i (fun h => { h with fenced := true })
  | _ => s

/-- Fence a block (R50, R578, R579): STATE 1, cause 4; while a program runs, a frame fault of cause 0x30. In a
block that a bring-up has fenced, the write sets its CONTROL.FENCE and no more (R8, R49, R550); a block that cannot be
fenced is left as it is. -/
def fenceBlock (s : State) (b : Nat) : State :=
  if canFence (typeOf b) && blockState s b == 1 then setReg s b Off.CONTROL (getReg s b Off.CONTROL % 2 + 2)
  else if canFence (typeOf b) && (blockState s b == 0 || blockState s b == 2) then
    let s := setShape s (fun h => { h with states := Assoc.put b (some (1, 4)) h.states })
    let s := setReg s b Off.CONTROL (getReg s b Off.CONTROL % 2 + 2)
    raiseFault (gnomonBump (fenceEffect s b)) b 0x30
  else s

/-- A block that the device itself fences joins the field defect list with its cause (R547, R577). -/
def deviceFence (s : State) (b : Nat) (cause : FieldCause) : State :=
  if blockState s b = 0 then noteDefect (fenceBlock s b) ⟨b, 1, 0⟩ 0xFFFF 1 cause else s

end Sys2Proof.Machine
end

