-- ==== Sys2Proof/Machine/Columns.lean ====
section
/-! DEFINITION. The column controllers: streams (R222), port requests (R224, R229), frame work (R227),
precharge (R220), refresh (R231-R237), scrubbing (R263-R268), repair (R269-R272), calibration (R238) and
write-backs (R261, R277). -/

namespace Sys2Proof.Machine

/-! ## STREAM_TRANSFER -/

/-- A stream half handed to its M-core (R222): columns C(4m) to C(4m + 3) are 0 to 3. -/
def pushHalf (m : MCore) (q : Nat) (d : List Byte) : MCore :=
  { m with halves := Assoc.put q (some (Assoc.getD [] q m.halves ++ [d])) m.halves }

/-- Lines completed in order by waiting halves (R222): line 2u of columns 0 and 1, line 2u + 1 of columns
2 and 3. -/
def joinHalves : Nat → MCore → Nat → MCore
  | 0, m, _ => m
  | n + 1, m, now =>
    let q := 2 * (m.strLine % 2)
    match Assoc.getD [] q m.halves, Assoc.getD [] (q + 1) m.halves with
    | a :: ra, b :: rb =>
      let h := Assoc.put q (if ra = [] then none else some ra) m.halves
      let h := Assoc.put (q + 1) (if rb = [] then none else some rb) h
      joinHalves n { m with halves := h, strLine := m.strLine + 1, stream := m.stream ++ [(now, a ++ b)] } now
    | _, _ => m

/-- Lines of the stream buffer in use, a waiting half counting as one (R222). -/
def streamUse (m : MCore) : Nat :=
  let n (q : Nat) : Nat := (Assoc.getD [] q m.halves).length
  m.stream.length + max (n 0) (n 1) + max (n 2) (n 3)

/-- One column's transfer of a STREAM window whose data cc has come (R222): its half goes to the M-core. A transfer that
was commanded before a halt or a fence finishes (R563, R578). -/
def streamColumn (s : State) (g q : Nat) : State :=
  let c := 4 * g + q
  let s := colSync s c
  match (col s c).fly with
  | [] => s
  | x :: rest =>
    if x.data ≤ s.now ∧ colAvail s s.now ∧ awake s then
      let ended := decide ((colEntry (colBody s c) x.entry).count ≤ x.made + 1)
      let s := setCol s c fun k =>
        { k with fly := rest, window := if ended then none else k.window.map (fun w => { w with next := s.now + 1, made := x.made + 1 }),
                 free := if ended then s.now + 1 else k.free, lastData := max k.lastData (s.now + 1) }
      let (s, bytes, _) := memRead s (dramAddr c x.off) 512
      if good s (blk Ty.MCORE g) then setMc s g (fun m => pushHalf m q bytes) else s
    else s

/-- STREAM_TRANSFER (R222, R125): the four columns of the slice, then the lines their halves complete; a
buffer that would hold more than 64 lines loses the last ones and faults. Whether lines that a step removes in the same
cc count before those that arrive is left open: the order of the commands decides (DESIGN CHOICE, log entry 58). -/
def execStreamTransfer (g : Nat) (s : State) : Host.Outcome State Fault Refusal :=
  onUnit 128 g s fun s =>
    let s := (List.range 4).foldl (fun s q => streamColumn s g q) s
    let old := mc s g
    let s := setMc s g (fun m => joinHalves 8 m s.now)
    let s := (List.range ((mc s g).stream.length - old.stream.length)).foldl
      (fun s k => freshRange s (streamGran g (old.streamAt + old.stream.length + k) 0) 32) s
    if 64 < streamUse (mc s g) then
      let s := setMc s g (fun m => { m with stream := m.stream.take 64 })
      errFault s (blk Ty.MCORE g) Err.MCORE_STREAM_OVERFLOW 0x20
    else s

/-- What a column has accepted ends at once when it goes to self-refresh (R500): the stream transfers commanded, and the
requests begun. `units` of each are made in turn. -/
def requestFinish (s : State) (c : Nat) (r : PortReq) : State :=
  let (s, r, st) := (List.range (r.units - r.next)).foldl (fun (s, r, st) _ =>
    if st = 1 then (s, r, st)
    else
      let (s, got, st) := performGranule s c r
      (s, { r with next := r.next + 1, got := r.got ++ got, bad := if st = 0 then r.bad else r.bad ++ [r.next], ready := max r.ready s.now }, st)) (s, r, 0)
  if st = 1 then (if r.sched then s else replyPacket s r.handle 1 [] [] s.now) else finishRequest s c r
def columnFinish (s : State) (c : Nat) : State :=
  let s := (col s c).fly.foldl (fun s x =>
    let (s, bytes, _) := memRead s (dramAddr c x.off) 512
    if good s (blk Ty.MCORE (c / 4)) then setMc s (c / 4) (fun m => pushHalf m (c % 4) bytes) else s) s
  ((col s c).queue.filter reqBegun).foldl (fun s r => requestFinish s c r) s

/-! ## Mover accesses (R398, R401) -/

/-- A stack mover's descriptor (R395, R402). -/
structure Desc where
  ctrl : Nat
  startSlot : Nat
  startCc : Nat
  src : Nat
  dst : Nat
  n0 : Nat
  n1 : Nat
  n2 : Nat
  target : Nat
  sstep : List Int
  dstep : List Int
  fstrS : Int
  fstrD : Int
deriving DecidableEq, Repr

/-- A descriptor from its 64 bytes. -/
def descOf (b : List Byte) : Desc :=
  let st (o : Nat) : Int := signedOf 32 (bytesAt b o 4)
  ⟨bytesAt b 0 4, bytesAt b 4 2, bytesAt b 6 1, bytesAt b 8 8, bytesAt b 16 8, bytesAt b 24 2, bytesAt b 26 2, bytesAt b 28 2,
   bytesAt b 30 2, [st 0x20, st 0x28, st 0x30], [st 0x24, st 0x2C, st 0x34], st 0x38, st 0x3C⟩

/-- Element widths, side kinds and the other fields of CTRL (R396, R397). -/
def Desc.sw (d : Desc) : Nat := 2 ^ fieldOf d.ctrl 23 21
def Desc.dw (d : Desc) : Nat := 2 ^ fieldOf d.ctrl 20 18
def Desc.skind (d : Desc) : Nat := fieldOf d.ctrl 17 16
def Desc.dkind (d : Desc) : Nat := fieldOf d.ctrl 15 14
def Desc.aop (d : Desc) : Nat := fieldOf d.ctrl 13 10
/-- Destination elements of one inner loop. -/
def Desc.m0 (d : Desc) : Nat := d.n0 * d.sw / d.dw
/-- Source and destination elements of the whole descriptor. -/
def Desc.srcTotal (d : Desc) : Nat := d.n0 * d.n1 * d.n2
def Desc.dstTotal (d : Desc) : Nat := d.m0 * d.n1 * d.n2

/-- Address of element e of a side: base, steps, inner count, and the frame base (R398). -/
def Desc.addrOf (d : Desc) (dest : Bool) (frame e : Nat) : Nat :=
  let n := if dest then d.m0 else d.n0
  let st := if dest then d.dstep else d.sstep
  let base := if dest then d.dst else d.src
  let fp := fieldOf d.ctrl 9 6
  let fb : Int := if fp = 0 then 0 else (frame % 2 ^ fp : Nat) * (if dest then d.fstrD else d.fstrS)
  let i0 := e % n
  let i1 := e / n % d.n1
  let i2 := e / n / d.n1
  let x : Int := base + fb + i2 * st.getD 2 0 + i1 * st.getD 1 0 + i0 * st.getD 0 0
  (x % (2 ^ 64 : Nat)).toNat

/-- Elements that share one access with element e (R401): consecutive ones of its inner loop in its
granule, at most `room` of them. -/
def Desc.share (d : Desc) (dest : Bool) (frame e room : Nat) : Nat :=
  let n := if dest then d.m0 else d.n0
  let g (k : Nat) : Nat := d.addrOf dest frame k % 2 ^ 48 / 32
  let lim := min room (n - e % n)
  match (List.range lim).find? (fun k => g (e + k) != g e) with
  | some k => k
  | none => lim

/-- Descriptors of a mover's ring image (R402), each with its OWN as the image holds it. -/
def ringBody (s : State) (m : Nat) : List Byte := (sectionOf s 6 m).getD []
def ringCount (b : List Byte) : Nat := bytesAt b 4 2
def ringDesc (b : List Byte) (i : Nat) : Desc := descOf ((b.drop (16 + 64 * i)).take 64)

/-- Bytes that the reads issued and not yet held will bring. -/
def comingBytes (x : SMover) : Nat := (x.reads.map (fun r => r.2.1)).sum

/-- Reads that are there enter the holding register in their order (R398). -/
def settleGo : Nat → SMover → Nat → SMover
  | 0, x, _ => x
  | n + 1, x, now =>
    match x.reads with
    | (_, _, some (t, b)) :: r =>
      if t ≤ now then settleGo n { x with reads := r, walk := { x.walk with hold := x.walk.hold ++ b } } now else x
    | _ => x
def settleReads (x : SMover) (now : Nat) : SMover := settleGo x.reads.length x now

/-- A descriptor of the mover runs, and may issue accesses. -/
def smoverOpen (s : State) (m : Nat) : Bool :=
  let x := smv s m
  workOpen s (blk Ty.SMOVER m) && x.active && !x.halted && !x.fenced && decide (x.startAt ≤ s.now)

/-- The parts of a granule that elements e to e + k - 1 of a side name. -/
def Desc.partsOf (d : Desc) (dest : Bool) (frame e k : Nat) : List (Nat × Nat) :=
  (List.range k).map (fun i => (d.addrOf dest frame (e + i) % 32, if dest then d.dw else d.sw))

/-- Runs of parts that lie end to end become one. -/
def mergeParts : List (Nat × Nat) → List (Nat × Nat)
  | [] => []
  | (o, w) :: r =>
    match mergeParts r with
    | (p, v) :: t => if o + w = p then (o, w + v) :: t else (o, w) :: (p, v) :: t
    | [] => [(o, w)]

/-- Accesses that the sides of a stack mover have made in this cc (R401). -/
def sideUsed (x : SMover) (now : Nat) (dest : Bool) : Nat :=
  if x.used.1 = now + 1 then (if dest then x.used.2.2 else x.used.2.1) else 0
def sideTake (x : SMover) (now : Nat) (dest : Bool) : SMover :=
  { x with used := (now + 1, sideUsed x now false + b2n (!dest), sideUsed x now true + b2n dest) }

/-- The next access of a stack mover to a column (R401, R404): a destination write whose bytes are held,
else a source read with room for it; two accesses of each side in a cc. -/
def moverAccess (s : State) (m c : Nat) : Option (PortReq × SMover) :=
  let x := settleReads (smv s m) s.now
  let d := ringDesc (ringBody s m) x.desc
  let f := s.ft.frame
  let inCol (a : Nat) : Option Nat := match placeOf (a % 2 ^ 48) with
    | .dram c' off => if c' = c then some off else none
    | _ => none
  let have_ := x.walk.hold.length / d.dw
  let i := m % 4
  let rd : Option (PortReq × SMover) :=
    let room := (64 - x.walk.hold.length - comingBytes x) / d.sw
    if d.skind = 0 ∧ x.walk.src < d.srcTotal ∧ 0 < room ∧ sideUsed x s.now false < 2 then
      let k := d.share false f x.walk.src room
      (inCol (d.addrOf false f x.walk.src)).map fun off =>
        (⟨.mover i, true, false, 0, off / 32 * 32, 1, mergeParts (d.partsOf false f x.walk.src k), [], x.seq, s.now, 0, [], [], 0, 0⟩,
          { (sideTake x s.now false) with walk := { x.walk with src := x.walk.src + k }, seq := x.seq + 1, reads := x.reads ++ [(x.seq, k * d.sw, none)] })
    else none
  if d.dkind = 0 ∧ x.walk.dst < d.dstTotal ∧ 0 < have_ ∧ sideUsed x s.now true < 2 then
    let k := d.share true f x.walk.dst have_
    match inCol (d.addrOf true f x.walk.dst) with
    | some off =>
      some (⟨.mover i, true, true, d.aop, off / 32 * 32, 1, mergeParts (d.partsOf true f x.walk.dst k),
             x.walk.hold.take (k * d.dw), x.seq, s.now, 0, [], [], 0, 0⟩,
            { (sideTake x s.now true) with
                walk := { x.walk with dst := x.walk.dst + k, hold := x.walk.hold.drop (k * d.dw) }, seq := x.seq + 1,
                writes := x.writes + 1 })
    | none => rd
  else rd

/-! ## PORT_REQUEST -/

/-- Scheduled copies that a stack router presents to its column group (R308, R321): EJECT writes or
presents at BASE; kept in the router's output queue for port 17 with the address and action there. -/
def routerCopy (s : State) (c : Nat) : Option (Nat × OutCopy) :=
  ((rtr s (c / 16)).outq.zipIdx.find? (fun (x, _) => x.port == 17 && !x.taken && decide (x.due ≤ s.now) &&
    (match placeOf x.addr with
      | .dram c' _ => c' == c
      | _ => false))).map (fun (x, i) => (i, x))

/-- A request of the stack router reaches the column: the oldest scheduled copy for it, taken from the
router's output. -/
def routerRequest (s : State) (c : Nat) : State :=
  match routerCopy s c with
  | some (i, x) =>
    let mark (r : Router) : Router := { r with outq := r.outq.zipIdx.map (fun (y, k) => if k = i then { y with taken := true } else y) }
    let s := setRtr s (c / 16) mark
    let off := x.addr % 0x40000000
    colRequest s c ⟨.router, true, true, x.aop, off / 32 * 32, 1, [(off % 32, x.data.length)], x.data, 0, s.now, 0, [], [], 0, 0⟩
  | none => s

/-- A request of a stack mover reaches the column. -/
def moverRequest (s : State) (c i : Nat) : State :=
  let m := 4 * (c / 16) + i
  if i < 4 ∧ smoverOpen s m then
    match moverAccess s m c with
    | some (r, x) => colRequest (setSmv s m (fun _ => x)) c r
    | none => s
  else s

/-- PORT_REQUEST (R224, R229): the request joins the port queue; the column serves what the cc allows at its end. -/
def execPortRequest (c : Nat) (src : PortSrc) (s : State) : Host.Outcome State Fault Refusal :=
  onUnit columnCount c s fun s =>
    match src with
    | .router => routerRequest s c
    | .mover i => moverRequest s c i

/-! ## COLUMN_DONE -/

/-- Has every entry of a column finished, and everything it accepted (R227, R291)? -/
def columnFinished (s : State) (c : Nat) : Bool :=
  let k := col s c
  let body := colBody s c
  let win := match k.window with
    | some w => (colEntry body w.entry).kind == 2 && decide (w.stop < s.now)
    | none => true
  win && (entryFrom body k.entry false).isNone && (entryFrom body k.rowEntry.1 true).isNone && decide (k.steps = [])
    && (k.queue.all (fun r => !r.sched)) && decide (k.lastData ≤ s.now)

/-- COLUMN_DONE (R227). -/
def execColumnDone (c : Nat) (s : State) : Host.Outcome State Fault Refusal :=
  onUnit columnCount c s fun s =>
    if doneOpen s (blk Ty.COLCTL c) && (sectionOf s 7 c).isSome then
      let s := colSync s c
      if columnFinished s c then setCol s c (fun k => { k with done := true }) else s
    else s

/-! ## REFRESH_SLOT, the scrubber and WITHHELD_PRECHARGE -/

/-- Layer of a column by number. -/
def layerAt (k : Column) (l : Nat) : Layer := Assoc.getD Layer.init l k.layers

/-- The banks of a layer are held by a refresh up to cc 40 of the slot that began at `t` (R218, R233). -/
def holdLayer (k : Column) (l t : Nat) : Column :=
  (List.range 4).foldl (fun k j => setBank k (4 * l + j) (fun b => { b with openRow := none, held := t + 40 })) k

/-- What a layer does in a slot (R233): refresh, owed activity refreshes, or free (the flag). -/
def layerAct (k : Column) (l t : Nat) : Column × Bool :=
  let x := layerAt k l
  let owing := (List.range 4).filter (fun j => decide (0 < (bankAt k (4 * l + j)).owed))
  if 65536 ≤ x.debt then
    (holdLayer { k with layers := Assoc.put l (some { x with debt := x.debt - 65536, pointer := (x.pointer + 2) % 16384 }) k.layers } l t, false)
  else if owing ≠ [] then
    (owing.foldl (fun k j => setBank k (4 * l + j) (fun b => { b with owed := b.owed - 1, openRow := none, held := t + 40 })) k, false)
  else (k, true)

/-- Layer of a row index (R282). -/
def rowLayer (row : Nat) : Nat := row / 4 % 8
/-- Device granule index of granule g of a row of a column. -/
def rowGranule (c row g : Nat) : Nat := dramAddr c (2048 * row) / 32 + g

/-- The scrubber reads a row, granule by granule (R265): the state, and the granules found correctable
with their bit positions. -/
def scrubRead (s : State) (c row : Nat) : State × List (Nat × Nat) :=
  (List.range 64).foldl (fun (s, found) g =>
    let i := rowGranule c row g
    match granuleClass s i with
    | .clean => (s, found)
    | .dataBit k => (reportCorr s i k true, found ++ [(g, k)])
    | .checkBit k => (reportCorr s i k false, found ++ [(g, k)])
    | .uncorr => (reportUncorr s i, found)) (s, [])

/-- The scrub buffer written to the row: correctable granules corrected, uncorrectable ones as read
(R265); such a write takes no flip mask (R274). -/
def scrubWrite (s : State) (c row : Nat) (found : List (Nat × Nat)) : State :=
  found.foldl (fun s (g, _) => let i := rowGranule c row g; granuleWrite s i (granuleData s i) false) s

/-- End of a pass (R263, R268): entries older than the pass that has just ended are cleared. -/
def scrubPass (k : Column) : Column :=
  { k with scrubPasses := (k.scrubPasses + 1) % 2 ^ 32, log := k.log.filter (fun e => decide (k.scrubPasses ≤ e.pass)) }

/-- The bond that carries the bit is hard, so its cells are not repaired with rows (R267): it waits for a spare, or none
was free for it. -/
def bondHard (k : Column) (g bit : Nat) : Bool :=
  let b := carrier k (bondOf (g % 16) bit)
  k.hardBonds.contains b || k.deadBonds.contains b

/-- Next spare row of a bank (R269): lowest-numbered good and free. -/
def spareRow (k : Column) (p : Nat) : Option Nat :=
  ((List.range 32).map (fun j => 32 * p + j)).find? (fun n => !k.badRows.contains n && !(k.rowMap.any (fun x => x.2 == n)))

/-- The repair of a row whose buffer was written in this slot (R270): the corrected granules stand in the spare row, and the
repair table maps the row to it. A spare row that it had before has failed: it is left out, and joins the field defect list
as row 524,288 plus its number (R269, R547, R549; DESIGN CHOICE, log entry 78). -/
def rowRepaired (s : State) (c : Nat) : State :=
  match (col s c).rowPend with
  | some (row, n, found) =>
    let s := scrubWrite s c row found
    let old := (Assoc.get? row (col s c).rowMap).toList
    let s := setCol s c (fun k => { k with repairAt := s.now + 1, rowPend := none, rowMap := Assoc.put row (some n) k.rowMap, badRows := k.badRows ++ old })
    let s := old.foldl (fun s x => fieldDefect s ⟨blk Ty.COLCTL c, 6, 524288 + x⟩ .service) s
    noteDefect s ⟨blk Ty.COLCTL c, 6, row⟩ n 0 .service
  | none => s

/-- A bank at cc 40 of a withheld slot: precharged, and nothing before that cc delays it any more (R105, R220). -/
def bankShut (b : Bank) : Bank := { b with openRow := none, act := 0, cmd := 0, wr := 0, held := 0 }

/-- Every bank of every column at cc 40 of a withheld slot. -/
def banksShut (s : State) : State :=
  { s with cols := s.cols.map (fun (c, k) => (c, { k with banks := k.banks.map (fun (p, b) => (p, bankShut b)) })) }

/-- WITHHELD_PRECHARGE (R220): at cc 40 of a slot that withholds the columns every bank stands precharged; a repair
written in the slot takes effect (R270). -/
def execWithheldPrecharge (s : State) : Host.Outcome State Fault Refusal :=
  .next (if awake s && colWithheld s && decide (ccNow s = 40) then
    (s.cols.filter (fun x => x.2.rowPend.isSome)).foldl (fun s x => rowRepaired s x.1) (banksShut s)
  else s)

/-- The bank commands of a scrub step in the slot that began at `t` (R265): its ACT at cc 0; a Read's data take cc 22 to 25
and its bank is shut at 26, a Write-back's 12 to 15 and 28. -/
def scrubBank (s : State) (c row t : Nat) (write : Bool) : State :=
  setCol s c fun k =>
    (List.range 4).foldl (fun k i => dataTake k s.now (t + (if write then 12 else 22) + i) 16 (!write))
      (setBank k (row % 32) (fun b => { b with openRow := none, act := t + 1, held := t + (if write then 40 else 38) }))

/-- A Read step of a row (R265). -/
def scrubReadStep (s : State) (c row : Nat) : State :=
  let (s, found) := scrubRead (scrubBank s c row (slotStart s (slotNow s)) false) c row
  setCol s c (fun k => { k with scrubDirty := false, scrubPhase := if found = [] then .read else .writeBack row found })

/-- The Read with which the repair of a row begins, or begins again (R270). -/
def repairRead (s : State) (c row : Nat) : State :=
  let (s, found) := scrubRead (scrubBank s c row (slotStart s (slotNow s)) false) c row
  setCol s c (fun k => { k with scrubPhase := .repairWrite row found, scrubDirty := false })

/-- What the scrubber does in a slot, with the layers that are free (R265-R267, R270, R272): the owed
step, else a repair, else a Read that is due; nothing while its layer is not free. A repair whose cells a bond judgement has
taken over is given up (R267). -/
def scrubStep (s : State) (c : Nat) (free : List Nat) : State :=
  let k := col s c
  let t := slotStart s (slotNow s)
  let ok (row : Nat) : Bool := free.contains (rowLayer row)
  let hardRow (row : Nat) : Bool := k.hardCells.any (·.1 == row)
  match k.scrubPhase with
  | .writeBack row found =>
    if !ok row then s
    else if k.scrubDirty then scrubReadStep s c row
    else setCol (scrubWrite (scrubBank s c row t true) c row found) c (fun k => { k with scrubPhase := .verify row found, scrubDirty := false })
  | .verify row found =>
    if !ok row then s
    else
      let (s, again) := scrubRead (scrubBank s c row t false) c row
      let hard := again.filter (fun x => found.contains x && !(bondHard (col s c) x.1 x.2))
      setCol s c (fun k => { k with scrubPhase := .read, hardCells := k.hardCells ++ hard.map (fun x => (row, x)) })
  | .reread row => if ok row then scrubReadStep s c row else s
  | .repairRead row =>
    if !hardRow row then setCol s c (fun k => { k with scrubPhase := .read }) else if ok row then repairRead s c row else s
  | .repairWrite row found =>
    if !hardRow row then setCol s c (fun k => { k with scrubPhase := .read })
    else if !ok row then s
    else if k.scrubDirty then repairRead s c row
    else
      match spareRow k (row % 32) with
      | some n =>
        setCol (scrubBank s c row t true) c fun k =>
          { k with scrubPhase := .read, rowPend := some (row, n, found), hardCells := k.hardCells.filter (·.1 != row) }
      | none =>
        setErr (setCol s c (fun k => { k with scrubPhase := .read, hardCells := k.hardCells.filter (·.1 != row) }))
          (blk Ty.COLCTL c) Err.COLCTL_SPARE_EXHAUSTED
  | .read =>
    match (k.hardCells.map Prod.fst).find? ok with
    | some row => repairRead s c row
    | none =>
      if 0 < k.scrubDue ∧ ok k.scrubPtr then
        let row := k.scrubPtr
        let s := scrubReadStep s c row
        setCol s c fun k =>
          let k := { k with scrubPtr := (row + 1) % 524288, scrubDue := k.scrubDue - 1 }
          if k.scrubPtr = 0 then scrubPass k else k
      else s

/-- REFRESH_SLOT (R233, R265): once in each REFRESH or stretch slot, in cc 0-39. -/
def execRefreshSlot (c : Nat) (s : State) : Host.Outcome State Fault Refusal :=
  onUnit columnCount c s fun s =>
    if awake s && refreshOpen s && decide (ccNow s ≤ 39) && decide ((col s c).slotDone ≠ slotStart s (slotNow s) + 1) then
      let (k, free) := (List.range 8).foldl (fun (k, free) l =>
        let (k', f) := layerAct k l (slotStart s (slotNow s))
        (k', if f then free ++ [l] else free)) (col s c, [])
      scrubStep (setCol s c (fun _ => { k with slotDone := slotStart s (slotNow s) + 1 })) c free
    else s

/-- cc between scrub steps at a rate (R264); 0 when the scrubber stands. -/
def scrubPeriod (rate : Nat) : Nat := if rate = 0 then 0 else (if rate < 60 then 60 else rate) * 800000000 / 524288

/-- SCRUB_STEP_DUE (R264): due steps count up to 8; a further one is lost. -/
def execScrubStepDue (c : Nat) (s : State) : Host.Outcome State Fault Refusal :=
  onUnit columnCount c s fun s =>
    let k := col s c
    let p := scrubPeriod k.scrubRate
    if awake s && decide (0 < p) && decide (k.scrubAt + p ≤ s.now) then
      let s := setCol s c (fun k => { k with scrubAt := k.scrubAt + p, scrubDue := min 8 (k.scrubDue + 1) })
      setErrIf (k.scrubDue == 8) s (blk Ty.COLCTL c) Err.COLCTL_SCRUB_BEHIND
    else s

/-! ## Bonds -/

/-- Bond group of a bond number (data 0-2,047, check 2,048 on) (R259). -/
def bondGroup (b : Nat) : Nat := if b < 2048 then b / 256 else (b - 2048) / 32

/-- Next spare bond of a group (R269). -/
def spareBond (k : Column) (g : Nat) : Option Nat :=
  ((List.range 12).map (fun j => 12 * g + j)).find? (fun n => !k.badBonds.contains n && !(k.bondMap.any (fun x => x.2 == n)))

/-- Insertion of a bond number in order: data bonds come before check bonds (R269). -/
def leastBond (l : List Nat) : Option Nat := l.foldl (fun m x => match m with
  | none => some x
  | some y => some (min x y)) none

/-- The bond that a bond number names (R267, R269): 2,304 and on are the column's spare bonds, each in the place of the
bond that the repair table gives it. -/
def bondPlace (k : Column) (b : Nat) : Nat :=
  if b < 2304 then b else ((k.bondMap.find? (fun x => x.2 + 2304 == b)).map Prod.fst).getD b

/-- BOND_SUBSTITUTION (R271, R272): at cc 0 of a withheld slot. A spare bond that has turned hard is itself replaced, and
left out of use. -/
def execBondSubstitution (c : Nat) (s : State) : Host.Outcome State Fault Refusal :=
  onUnit columnCount c s fun s =>
    match leastBond (col s c).hardBonds with
    | some b =>
      if awake s && colWithheld s && decide (ccNow s = 0) then
        let rest (k : Column) : List Nat := k.hardBonds.filter (· != b)
        let p := bondPlace (col s c) b
        match spareBond (col s c) (bondGroup p) with
        | some n =>
          let s := setCol s c (fun k =>
            { k with repairAt := s.now + 1, hardBonds := rest k, bondMap := Assoc.put p (some n) k.bondMap,
                     badBonds := if b < 2304 then k.badBonds else k.badBonds ++ [b - 2304],
                     spareCals := Assoc.put n (some k.cals.length) k.spareCals })
          let s := if b < 2304 then s else noteDefect s ⟨blk Ty.COLCTL c, 5, b - 2304⟩ 0xFFFF 2 .service
          noteDefect s ⟨blk Ty.COLCTL c, if p < 2048 then 3 else 4, if p < 2048 then p else p - 2048⟩ n 0 .service
        | none => setErr (setCol s c (fun k => { k with hardBonds := rest k, deadBonds := k.deadBonds ++ [b] })) (blk Ty.COLCTL c) Err.COLCTL_SPARE_EXHAUSTED
      else s
    | none => s

/-- Steps of 1/64 bit time by which a bond's sampling delay stands off its factory value (R238, R271): at most one in
each calibration, in a direction that is a free value (log entry 60); a spare keeps its factory delay until the first
calibration after it was taken. -/
def sampleSteps (k : Column) (c b : Nat) : Int :=
  let n := if b < 2304 then 0 else Assoc.getD 0 (b - 2304) k.spareCals
  ((k.cals.drop n).map (fun ctr =>
    match Config.freeBits (ctr + c + 512 * b) 2 % 3 with
    | 0 => (0 : Int)
    | 1 => 1
    | _ => -1)).sum

/-- A weak eye reported (R267, R269): the bond is hard at once, unless it is so already or is not in use; a spare bond not
in use is left out. -/
def weakEye (s : State) (c b : Nat) : State :=
  setCol s c fun k =>
    if k.hardBonds.contains b || k.deadBonds.contains b || (Assoc.get? b k.bondMap).isSome then k
    else if 2304 ≤ b && !k.bondMap.any (fun x => x.2 + 2304 == b) then
      { k with badBonds := if k.badBonds.contains (b - 2304) then k.badBonds else k.badBonds ++ [b - 2304] }
    else judgeBond k b

/-- CAL_MEM (R238, R267): in cc 0-39 of the CAL_MEM slot column C(N mod 16) of each stack calibrates, once; its sampling
delays move, and its training rows, which no address names, hold the pattern. `weak` names the bonds whose eyes fell below
their limit, as (column, bond); spare bonds are 2,304 and on. The check of the sensor offset (R67) changes nothing (DESIGN
CHOICE, log entry 76). -/
def execCalMem (weak : List (Nat × Nat)) (s : State) : Host.Outcome State Fault Refusal :=
  if weak.all (fun x => decide (x.1 < columnCount) && decide (x.2 < 2400)) then
    .next (if awake s && classNow s == 5 && decide (ccNow s ≤ 39) then
      let ctr := s.freeCtr
      let at_ := slotStart s (slotNow s) + 1
      let mine := ((List.range 32).map (fun r => 16 * r + s.ft.frame % 16)).filter (fun c => decide ((col s c).calAt ≠ at_))
      let s := mine.foldl (fun s c => setCol s c (fun k => { k with cals := k.cals ++ [ctr], calAt := at_ })) { s with freeCtr := s.freeCtr + 1 }
      weak.foldl (fun s (c, b) => if mine.contains c then weakEye s c b else s) s
    else s)
  else .fault .noSuchUnit

/-! ## Write-backs -/

/-- A block with a section in a program. -/
def sectionBlock (p : Program) (b : Nat) : Bool := p.sections.any (fun x => x.ty != 0 && blk x.ty x.inst == b)

/-- Does the block run a frame program's control memory (R277, R92)? -/
def runsProgram (s : State) (b : Nat) : Bool :=
  match s.prog with
  | some p => sectionBlock p b
  | none => false

/-- Types of block that a section of a program loads (R92). -/
def loadedTypes : List Nat := [Ty.ROUTER, Ty.MCORE, Ty.VCORE, Ty.SMOVER, Ty.COLCTL, Ty.GPORT, Ty.CHORD, Ty.PREFIX]

/-- Is a block's control memory being written in this cc (R277): by a load in progress (R95), by a register write to the
block, or, of a column, by a repair (R270, R271)? -/
def ctrlWritten (s : State) (b : Nat) : Bool :=
  (s.ft.pstate == 1 && loadedTypes.contains (typeOf b)) || (regCcNow s).writes.any (fun a => a.block == b)
    || (typeOf b == Ty.COLCTL && decide ((col s (instOf b)).repairAt = s.now + 1))

/-- CTRL_WRITE_BACK (R277): a read finds a control-memory word of a block corrected, to be written back in the next cc in
which the memory is not written, or uncorrectable, held until the memory is loaded again: then a frame fault of cause
0x11 when the memory serves a frame program. -/
def execCtrlWriteBack (b word : Nat) (uncorr : Bool) (s : State) : Host.Outcome State Fault Refusal :=
  onUnit blockCount b s fun s =>
    if !hubUp s then s
    else
      let s := { s with ctrlWords := if s.ctrlWords.contains (b, word, uncorr) then s.ctrlWords else s.ctrlWords ++ [(b, word, uncorr)] }
      if uncorr then
        let s := setErr s b 3
        if runsProgram s b then raiseFault s b 0x11 else s
      else setErr s b 2

/-- The corrected words written back in a cc (R277). -/
def ctrlCc (s : State) : State :=
  if s.ctrlWords = [] then s else { s with ctrlWords := s.ctrlWords.filter (fun w => w.2.2 || ctrlWritten s w.1) }

/-- FLIP_ARM (R274): a write of 1 to FLIP.ARM. -/
def execFlipArm (c : Nat) (s : State) : Host.Outcome State Fault Refusal :=
  onUnit columnCount c s fun s => if hubUp s then setRegField s (blk Ty.COLCTL c) Off.COLCTL_FLIP 31 31 1 else s

end Sys2Proof.Machine
end

