-- ==== Sys2Proof/Machine/RowEngines.lean ====
section
/-! DEFINITION. Row engines (R281-R302): row steps, refusals, results, completion events, the request queue
and its places. -/

namespace Sys2Proof.Machine

/-! ## Entries and steps -/

/-- A ROWENG entry or request as its three words say (R283, R298). -/
structure RowWork where
  op : Nat
  stride : Nat
  rows : Nat
  b : Nat
  a : Nat
  pattern : Nat
  evt : Nat
  d : Nat
deriving DecidableEq, Repr

/-- The fields of COUNT, ADDR and ARG (R283). -/
def rowWork (count addr arg : Nat) : RowWork :=
  ⟨fieldOf count 31 28, fieldOf count 27 27, fieldOf count 26 19 + 1, fieldOf count 18 0, fieldOf addr 18 0, addr,
   fieldOf arg 31 22, fieldOf arg 18 0⟩

/-- Row index of an operand in step j (R283). -/
def RowWork.row (w : RowWork) (x j : Nat) : Nat := x + (if w.stride = 1 then 32 * j else j)
/-- Row indices named by step j, sources first, D last. -/
def RowWork.stepRows (w : RowWork) (j : Nat) : List Nat := Machine.stepRows w.op (w.row w.a j) (w.row w.b j) (w.row w.d j)

/-- The ROWENG entry in progress or next to start: its index, the next step, its fields. -/
def rowCur (s : State) (c : Nat) : Option (Nat × Nat × ColEntry) :=
  let k := col s c
  (entryFrom (colBody s c) k.rowEntry.1 true).map (fun (i, e) => (i, if i = k.rowEntry.1 then k.rowEntry.2 else 0, e))

/-- Terms of R287 other than the position's: fewer than 8 steps in progress, no step on a bank of this one,
each bank's last activation at least tRC old. -/
def banksFree (s : State) (k : Column) (banks : List Nat) : Bool :=
  decide (k.steps.length < 8) &&
    banks.all (fun p => !(k.steps.any (fun r => stepHolds r p)) && decide ((bankAt k p).act = 0 ∨ (bankAt k p).act + 35 ≤ s.now))

/-- Budget of a bank in a frame (R295). -/
def rowBudget (s : State) : Nat := match s.prog with
  | some p => 64 * p.refreshAct
  | none => 64

/-- Failure of a row step or request (R297, R298, R301, R302): the flag of its code, RE_STATUS and
RE_ENTRY, and a frame fault. -/
def rowFail (s : State) (c code row entry : Nat) (queued : Bool) : State :=
  let b := blk Ty.COLCTL c
  let s := setReg s b Off.COLCTL_RE_STATUS (code * 2 ^ 28 + row % 524288)
  let s := setReg s b Off.COLCTL_RE_ENTRY (b2n queued * 4096 + entry % 4096)
  errFault s b (match code with
    | 1 => Err.COLCTL_RE_HOT
    | 2 => Err.COLCTL_RE_BUDGET
    | 3 => Err.COLCTL_RE_RESIDUE
    | _ => Err.COLCTL_RE_BAD_REQ) 0x23

/-- A bank that a step activates counts it (R234, R295): at 64 the counter returns to 0 and the bank owes
an activity refresh; the 16th owed one is not counted and sets ACT_DEBT (the flag). -/
def countActivity (k : Column) (p row : Nat) : Column × Bool :=
  let b := bankAt k p
  if b.activity + 1 = 64 then
    (setBank k p (fun b => { b with activity := 0, owed := min 15 (b.owed + 1), recorded := row, charged := b.charged + 1 }), decide (15 ≤ b.owed))
  else (setBank k p (fun b => { b with activity := b.activity + 1, charged := b.charged + 1 }), false)

/-- Row that a step records in a bank (R295): D's when D lies there, else its last source there. -/
def recordedRow (rows : List Nat) (p : Nat) : Nat := ((rows.filter (fun r => r % 32 == p)).getLast?).getD 0

/-- A row step starts (R286, R287, R297): refused when its layer is hot or a bank's budget is spent, it activates and
charges no bank, but keeps its banks for its 152 cc, and later transfers are timed as after a step that ran. -/
def startStep (s : State) (c entry : Nat) (queued : Bool) (w : RowWork) (j handle : Nat) : State × Nat :=
  let rows := w.stepRows j
  let banks := banksOf rows
  let k := col s c
  let d := w.row w.d j
  let code := if k.hot.testBit (rowLayer d) then 1
    else if banks.any (fun p => decide (rowBudget s < (bankAt k p).charged + 1)) then 2 else 0
  let r : RowStep := ⟨entry, queued, j, decide (j + 1 = w.rows), w.op, w.row w.a j, w.row w.b j, d, w.pattern, s.now, code, w.evt, handle⟩
  let s := setCol s c (fun k =>
    { (banks.foldl (fun k p => setBank k p (fun b => { b with openRow := none, act := s.now + 1 })) k) with
        steps := k.steps ++ [r], lastRow := s.now + 1 })
  if code ≠ 0 then
    (rowFail (setCol s c (fun k => { k with stepsRefused := satAdd 0xFFFF k.stepsRefused 1 })) c code d entry queued, code)
  else
    let (k', debt) := banks.foldl (fun (k, f) p =>
      let (k', g) := countActivity k p (recordedRow rows p)
      (k', f || g)) (col s c, false)
    (setErrIf debt (setCol s c (fun _ => { k' with stepsRun := satAdd 0xFFFF k'.stepsRun 1 })) (blk Ty.COLCTL c) Err.COLCTL_ACT_DEBT, 0)

/-- ROW_STEP_START (R287): the next step of the column's ROWENG entry, in the first cc that meets every
term. -/
def execRowStepStart (c : Nat) (s : State) : Host.Outcome State Fault Refusal :=
  onUnit columnCount c s fun s =>
    match rowCur s c with
    | some (i, j, e) =>
      let w := rowWork e.count e.addr e.arg
      let k := col s c
      if w.op ≠ 7 ∧ workOpen s (blk Ty.COLCTL c) ∧ posCc s e.slot e.cc ≤ s.now ∧ k.reserved ≤ s.now ∧ (k.lastRow = 0 ∨ k.lastRow + 3 ≤ s.now)
          ∧ banksFree s k (banksOf (w.stepRows j)) ∧ availSpan s s.now then
        let s := setCol s c (fun k => { k with rowEntry := if j + 1 = w.rows then (i + 1, 0) else (i, j + 1) })
        (startStep s c i false w j 0).1
      else s
    | none => s

/-! ## Results -/

/-- One source row through the engine's checker (R292): corrections are counted and reported but do not
enter the correction log; the flag says that a granule was uncorrectable. -/
def engineRead (s : State) (c row : Nat) : State × List (List Byte) × Bool :=
  (List.range 64).foldl (fun (s, ds, u) g =>
    let i := rowGranule c row g
    let k := col s c
    let (s1, d, bad) := granuleRead s i
    (setCol s1 c (fun k' => { k' with log := k.log, hardBonds := k.hardBonds, hardCells := k.hardCells }), ds ++ [d], u || bad)) (s, [], false)

/-- Result granule of an operation on numbers (R281). -/
def rowOp (op a b pattern : Nat) : Nat :=
  match op with
  | 1 => a
  | 2 => joinNat 32 (List.replicate 8 (pattern % 2 ^ 32))
  | 3 => a &&& b
  | 4 => a ||| b
  | 5 => a ^^^ b
  | _ => 2 ^ 256 - 1 - a % 2 ^ 256

/-- Residue modulo 255 of a granule (R293). -/
def residue (x : Nat) : Nat := x % 255

/-- The residue check of a result granule (R293). -/
def residueOk (op a b pattern d : Nat) : Bool :=
  match op with
  | 1 => residue d == residue a
  | 2 => residue d == residue (rowOp 2 0 0 pattern)
  | 5 => (residue (a ^^^ b) + residue (a &&& b)) % 255 == residue (a ||| b)
  | 6 => (residue d + residue a) % 255 == 0
  | _ => (residue (a &&& b) + residue (a ||| b)) % 255 == (residue a + residue b) % 255

/-- The work of a row step at its end (R286, R292-R294): sources read, computed, checked, D written with
fresh check bits; an uncorrectable source or a failed residue leaves D as it is. The flag says D was
written. -/
def finishStep (s : State) (c : Nat) (r : RowStep) : State × Bool :=
  let useA := r.op ≠ 2
  let useB := r.op = 3 ∨ r.op = 4 ∨ r.op = 5
  let (s, as, ua) := if useA then engineRead s c r.a else (s, [], false)
  let (s, bs, ub) := if useB then engineRead s c r.b else (s, [], false)
  if ua || ub then (s, false)
  else
    let ds := (List.range 64).map (fun g => rowOp r.op (leNat (as.getD g [])) (leNat (bs.getD g [])) r.pattern)
    let ok := (List.range 64).all (fun g => residueOk r.op (leNat (as.getD g [])) (leNat (bs.getD g [])) r.pattern (ds.getD g 0))
    if ok then
      (ds.zipIdx.foldl (fun s (d, g) =>
        let i := rowGranule c r.d g
        colSig (granuleWrite s i (leBytes 32 d) false) c i) s, true)
    else (rowFail s c 3 r.d r.entry r.queued, false)

/-- The completion event of an entry or request (R290): EVT [9], LINE [8:4], TGT [3:0] of ARG [31:22]. -/
def sendCompletion (s : State) (c evt : Nat) : State :=
  if bitOf evt 9 then
    let t := fieldOf evt 3 0
    let st := c / 16
    let target := if t < 4 then blk Ty.MCORE (4 * st + t) else if t = 4 then blk Ty.VCORE st else blk Ty.MGMTP 0
    chordSend s (.event target (fieldOf evt 8 4)) st (9 + c % 16) (chordUnit target).1 3 false
  else s

/-- The end of a queued request reported to the prefix engine (R382). -/
def sendCopyEnd (s : State) (c handle : Nat) : State := chordSend s (.copyEnd handle s.now) (c / 16) (9 + c % 16) 32 3 false

/-- ROW_STEP_END (R286, R290, R382): the oldest step whose 152 cc are over. -/
def execRowStepEnd (c : Nat) (s : State) : Host.Outcome State Fault Refusal :=
  onUnit columnCount c s fun s =>
    match (col s c).steps with
    | r :: rest =>
      if awake s ∧ r.start + 152 ≤ s.now then
        let s := setCol s c (fun k => { k with steps := rest })
        if r.code ≠ 0 then (if r.last && !r.queued then sendCompletion s c r.evt else s)
        else
          let (s, ok) := finishStep s c r
          if r.queued && !ok then
            sendCopyEnd (setCol s c (fun k => { k with reqs := k.reqs.filter (fun q => q.handle != r.handle) })) c r.handle
          else if r.last then
            let s := sendCompletion s c r.evt
            if r.queued then sendCopyEnd s c r.handle else s
          else s
      else s
    | [] => s

/-! ## The request queue -/

/-- Does a request break R284: operands of one layer throughout, no index past 524,287? -/
def rowsLegal (w : RowWork) : Bool :=
  let used := match w.op with
    | 1 => [w.a, w.d]
    | 2 => [w.d]
    | 6 => [w.a, w.d]
    | _ => [w.a, w.b, w.d]
  let key (x : Nat) : Nat := if w.stride = 1 then x / 4 % 8 else x % 32
  (used.all (fun x => key x == key (used.headD 0))) && used.all (fun x => decide (w.row x (w.rows - 1) < 524288))

/-- Is a request legal when it is written (R298)? -/
def requestLegal (count addr arg : Nat) : Bool :=
  let w := rowWork count addr arg
  decide (1 ≤ w.op) && decide (w.op ≤ 6) && rowsLegal w
    && !(bitOf w.evt 9 && decide (6 ≤ fieldOf w.evt 3 0)) && fieldOf arg 21 19 == 0
    && (w.op == 2 || fieldOf addr 31 19 == 0) && ((w.op == 3 || w.op == 4 || w.op == 5) || w.b == 0)

/-- The prefix engine writes a request (R298, R381): refused with code 4 or 5, it reports its end at once
(R382). -/
def queueRequest (s : State) (c count addr arg handle : Nat) : State :=
  let d := fieldOf arg 18 0
  if !requestLegal count addr arg then sendCopyEnd (rowFail s c 4 d 0 true) c handle
  else if 64 ≤ (col s c).reqs.length then sendCopyEnd (rowFail s c 5 d 0 true) c handle
  else setCol s c (fun k => { k with reqs := k.reqs ++ [⟨count, addr, arg, 0, handle⟩] })

/-- First cc after the span that a QUEUE entry of n places at P reserves (R299). -/
def queueSpan (p n : Nat) : Nat := p + 152 * ceilDiv n 8 + 4 * (min n 8 - 1)

/-- Place k of a QUEUE entry at position P (R299). -/
def placeCc (p k : Nat) : Nat := p + 152 * (k / 8) + 4 * (k % 8)

/-- QUEUE_PLACE (R299): the next place of the column's QUEUE entry runs the next row step of the oldest
request when its terms hold, and runs nothing otherwise. A step refused there stops its request (R382). -/
def execQueuePlace (c : Nat) (s : State) : Host.Outcome State Fault Refusal :=
  onUnit columnCount c s fun s =>
    match rowCur s c with
    | some (i, j, e) =>
      let n := fieldOf e.count 26 19 + 1
      if fieldOf e.count 31 28 = 7 ∧ workOpen s (blk Ty.COLCTL c) ∧ placeCc (posCc s e.slot e.cc) j ≤ s.now then
        let s := setCol s c (fun k => { k with rowEntry := if j + 1 = n then (i + 1, 0) else (i, j + 1), reserved := queueSpan (posCc s e.slot e.cc) n })
        match (col s c).reqs with
        | q :: rest =>
          let w := rowWork q.count q.addr q.arg
          if banksFree s (col s c) (banksOf (w.stepRows q.next)) then
            let last := decide (q.next + 1 = w.rows)
            let (s, code) := startStep s c i true w q.next q.handle
            let s := setCol s c (fun k => { k with reqs := if last || code != 0 then rest else { q with next := q.next + 1 } :: rest })
            if code ≠ 0 then sendCopyEnd s c q.handle else s
          else s
        | [] => s
      else s
    | none => s

end Sys2Proof.Machine
end

