-- ==== Sys2Proof/Machine/Thermal.lean ====
section
/-! DEFINITION. Sensors, requests, grace, clamps and trips (R503-R517), power estimate, limits, ramps and
fill (R518-R522), user calibration (R529, R530). -/

namespace Sys2Proof.Machine

/-- cc of 125 µs, 1 ms and 1 s. -/
def cc125us : Nat := 100000
def cc1ms : Nat := 800000
def cc1s : Nat := 800000000

/-- The sensor aggregator's block entry. -/
def sensagg : Nat := blk Ty.SENSAGG 0

def setSensor (s : State) (i : Nat) (f : Sensor → Sensor) : State :=
  setTh s (fun t => { t with sensors := Assoc.put i (some (f (Assoc.getD Sensor.init i t.sensors))) t.sensors })

/-- Indices whose governing value is judged (R507): one for each pair, the layers and the hub. -/
def govIndices : List Nat := (List.range 128).map (2 * ·) ++ (List.range 268).map (256 + ·)

/-- Warn, request, clamp and trip levels of a sensor index in 1/16 °C (R507). -/
def levels (i : Nat) : List Int := if 256 ≤ i ∧ i < 512 then [1360, 1472, 1552, 1632] else [1520, 1632, 1728, 1840]

/-- Stack of a sensor index; 32 for the hub. -/
def sensorStack (i : Nat) : Nat := if i < 256 then i / 8 else if i < 512 then (i - 256) / 8 else 32

/-- A crossing reaches the aggregator: from a stack as a THERM message of its node (R345, R507), from the
hub at once. -/
def reportLevel (s : State) (i level : Nat) : State :=
  let st := sensorStack i
  if st < 32 then chordSend s (.therm i level) st 26 32 0 false
  else setSensor s i (fun x => { x with seen := max x.seen level })

/-! ## Requests and S_req -/

/-- T_in in 1/16 °C (R514): 45 °C before any item and when stale. -/
def tIn (s : State) : Int := if s.th.inletStale then 720 else s.th.inlet
/-- P_lim in mW (R509, R527). -/
def pLim (s : State) : Nat := if s.plate.worn then 1960000 else 2800000

/-- Does the request of a sensor index stand at the aggregator? -/
def requestStands (s : State) (i : Nat) : Bool := (sensor s i).request && decide (1 ≤ (sensor s i).seen)
/-- Does its clamp condition? -/
def clampStands (s : State) (i : Nat) : Bool := (sensor s i).clamp && decide (2 ≤ (sensor s i).seen)

/-- Does any request stand (R509)? -/
def anyRequest (s : State) : Bool :=
  govIndices.any (fun i => requestStands s i || (sensor s i).rateReq) || s.th.lowFlow || s.th.sustained || s.th.peak

/-- F of R509. -/
def fOfRequest (s : State) : Nat := if running s then fSlots s else 200

/-- ceil(F × a / b) for b ≠ 0; a negative value needs no stretch. -/
def ceilRatio (f : Nat) (a b : Int) : Nat :=
  let (a, b) := if 0 < b then (a, b) else (-a, -b)
  (-(-(f * a) / b)).toNat

/-- Stretch need of a temperature above its request level (R509); `none` where T_in = T_goal leaves the expression without
a value. -/
def heatTerm (s : State) (i : Nat) : Option Nat :=
  let goal : Int := if 256 ≤ i ∧ i < 512 then 1392 else 1552
  let t := tIn s
  match govOf s i with
  | some g => if t = goal then none else some (ceilRatio (fOfRequest s) (g - goal) (goal - t))
  | none => some 0

/-- S_req (R509): the largest term over the standing requests, at least 1; 0 with none standing. A term
without a value is a free value. -/
def sReq (s : State) : Nat × State :=
  if !anyRequest s then (0, s)
  else
    let f := fOfRequest s
    let (heat, s) := govIndices.foldl (fun (m, s) i =>
      if requestStands s i then match heatTerm s i with
        | some x => (max m x, s)
        | none => let (x, s') := draw s 12; (max m x, s')
      else (m, s)) (1, s)
    let quarter := if govIndices.any (fun i => (sensor s i).rateReq) || s.th.lowFlow then ceilDiv f 4 else 0
    let sus := if s.th.sustained then ceilRatio f ((s.th.p : Int) - pLim s) (pLim s) else 0
    let pk := if s.th.peak then ceilRatio f ((s.th.e : Int) - 3200000) 3200000 else 0
    (max (max heat quarter) (max sus pk), s)

/-- Requests judged afresh (R509, R511): S_req, REQUEST and its notice at the start of an episode, the grace
timer back to zero when none stands. -/
def judgeRequests (s : State) : State :=
  let s := setTh s (fun t => { t with sustained := t.pHist != [] && decide (pLim s < t.p) })
  let was := s.th.request
  let now := anyRequest s
  let (q, s) := sReq s
  let s := setTh s fun t =>
    { t with request := now, sReq := q, graceCc := if now then t.graceCc else 0, graceOut := now && t.graceOut,
             met := now && t.met }
  if now && !was then setErr s sensagg Err.SENSAGG_REQUEST else s

/-! ## SENSOR_READ -/

/-- Is the message a TELEM of the sensor? -/
def telemOf (i : Nat) (m : ChordMsg) : Bool := match m.kind with
  | .telem k _ => k == i
  | _ => false

/-- The aggregator's copy of a reading (R345, R533): of a hub sensor it is there at once; a stack node sends a new
value as TELEM, in place of one that is still held at its entry (DESIGN CHOICE, log entry 52: the spec does not say
when TELEM is sent). -/
def telemSend (s : State) (i : Nat) (v : Int) : State :=
  let st := sensorStack i
  if st < 32 then
    let s := setChord s (fun c => { c with msgs := c.msgs.filter (fun m => !(m.held && telemOf i m)) })
    if (sensor s i).shown = v ∧ !s.chord.msgs.any (telemOf i) then s else chordSend s (.telem i v) st 26 32 2 true
  else setSensor s i (fun x => { x with shown := v })

/-- Factory and user offset of a sensor in force (R503, R529). -/
def sensorOffset (s : State) (i : Nat) : Int := Assoc.getD 0 i s.shape.offsets + Assoc.getD 0 i s.th.ucalNow

/-- User offsets take effect at a read; the sensor map's UCAL fields change with them (R33, R529, R531). -/
def offsetsTake (s : State) : State :=
  let new := s.th.ucal.filter (fun x => decide (x.1 < 524))
  if s.th.ucalNow = new then s else gnomonBump (setTh s (fun t => { t with ucalNow := new }))

/-- A sensor is dead (R505): the map and the field defect list name it, and the sensor map changes (R33) though the defect
map may have no room. -/
def sensorDies (s : State) (i : Nat) : State :=
  let st := sensorStack i
  let full := decide (16384 ≤ s.shape.defects.length)
  let s := noteDefect (setErr s sensagg Err.SENSAGG_SENSOR_DEAD)
    ⟨if st < 32 then blk Ty.STACK st else blk Ty.HUB 0, 10, i⟩ 0xFFFF 2 .service
  if full then gnomonBump s else s

/-- Store one reading (R503, R505): the offsets added, a dead sensor found. -/
def storeReading (s : State) (i : Nat) (raw : Int) : State :=
  let v := raw + sensorOffset s i
  let s := telemSend s i v
  let x := sensor s i
  if x.state = 2 then setSensor s i (fun x => { x with value := v, valid := true })
  else if v < -320 ∨ 2400 < v then
    let s := setSensor s i (fun x => { x with value := v, valid := true, state := 2, hist := [] })
    let s := if i < 256 then setSensor s (i / 2 * 2) (fun x => { x with hist := [], splitRun := 0, state := if x.state = 1 then 0 else x.state }) else s
    sensorDies s i
  else setSensor s i (fun x => { x with value := v, valid := true })

/-- The split of a pair (R505): eight consecutive reads on the other side of 5 °C. -/
def judgeSplit (s : State) (g : Nat) : State :=
  let a := sensor s (2 * g)
  let b := sensor s (2 * g + 1)
  if sensorLive s (2 * g) && sensorLive s (2 * g + 1) then
    let apart := decide (80 < (a.value - b.value - Assoc.getD 0 g s.shape.deltas).natAbs)
    if apart == (a.state == 1) then setSensor s (2 * g) (fun x => { x with splitRun := 0 })
    else if a.splitRun + 1 < 8 then setSensor s (2 * g) (fun x => { x with splitRun := x.splitRun + 1 })
    else
      let s := setSensor s (2 * g) (fun x => { x with splitRun := 0, state := if apart then 1 else 0, hist := [] })
      gnomonBump (setErr s sensagg Err.SENSAGG_SENSOR_SPLIT)
  else s

/-- A condition and its count of reads that would clear it (R507, R508): set by `on`, cleared after eight
consecutive reads of `off`. -/
def eightRead (flag : Bool) (low : Nat) (on off : Bool) : Bool × Nat :=
  if on then (true, 0) else if !flag then (false, 0) else if !off then (true, 0)
  else if low + 1 < 8 then (true, low + 1) else (false, 0)

/-- Judge the governing value of one index (R507, R508): the conditions, the crossings to report (each read at or
above a threshold is one), and whether it trips. -/
def judgeValue (s : State) (i : Nat) (g : Int) : State × Bool :=
  let x := sensor s i
  let l := levels i
  let lv (k : Nat) : Int := l.getD k 0
  let hist := (g :: x.hist).take 33
  let d (a b : Nat) : Int := hist.getD a 0 - hist.getD b 0
  let full := decide (hist.length = 33)
  let rate := full && decide (24 ≤ d 0 8) && decide (24 ≤ d 8 16) && decide (24 ≤ d 16 24) && decide (24 ≤ d 24 32)
  let trip := decide (lv 3 ≤ g) || (full && decide (96 ≤ d 0 8))
  let (w, wl) := eightRead x.warn x.warnLow (decide (lv 0 ≤ g)) (decide (g < lv 0 - 48))
  let (q, ql) := eightRead x.request x.requestLow (decide (lv 1 ≤ g)) (decide (g < lv 1 - 48))
  let (c, cl) := eightRead x.clamp x.clampLow (decide (lv 2 ≤ g)) (decide (g < lv 2 - 48))
  let (r, rl) := eightRead x.rateReq x.rateLow rate (!rate)
  let s := setSensor s i fun x =>
    { x with hist := hist, warn := w, warnLow := wl, request := q, requestLow := ql, clamp := c, clampLow := cl,
             rateReq := r, rateLow := rl, seen := if c then x.seen else if q then min 1 x.seen else 0 }
  let s := setErrIf (decide (lv 0 ≤ g)) s sensagg Err.SENSAGG_WARN
  let s := if lv 1 ≤ g then reportLevel s i 1 else s
  let s := if lv 2 ≤ g then reportLevel s i 2 else s
  (s, trip)

/-- Highest hot-spot governing value (R522, R525). -/
def hottest (s : State) : Option Int := maxOf ((List.range 128).map (fun g => hotGov s g))

/-- TAPER.SECONDS in force (R522, R533). -/
def taperSeconds (s : State) : Nat := min 60 (regField s sensagg Off.SENSAGG_TAPER 5 0)

/-- Device fill set to a level (in tenths of a watt) and phase; what it has been is counted in the present window (R520). -/
def setFill (s : State) (w phase : Nat) : State :=
  setTh s fun t => { t with fillSum := t.fillSum + t.fill * (s.now - t.fillAt), fillAt := s.now, fill := w, fillPhase := phase }

/-- A step of the job-end taper at a read (R522): the governing value is compared with the line itself, 1 °C per second. -/
def taperStep (s : State) : State :=
  if s.th.fillPhase = 3 then
    let since := s.now + 1 - s.th.taperAt
    if s.th.fill = 0 then setFill s 0 0
    else if taperSeconds s * cc1s ≤ since then setFill s s.th.fill 2
    else match hottest s with
      | some h => if (h - s.th.taperLine) * cc1s + 16 * since ≤ 0 then setFill s (s.th.fill - 50) 3 else s
      | none => s
  else s

/-- A trip halts the package whatever its state (R559): a frame fault while a program runs, else the halt that R566 sets
out. A package that has halted records it only once VALID has been cleared. -/
def tripHalt (s : State) : State :=
  let frame := faultFrame s
  let rearmed := s.ft.halted && s.chord.halt.isNone && !bitOf (getReg s (blk Ty.FTIMER 0) Off.FTIMER_FAULT_INFO) 31
  let s := if running s then markFaulted s else s
  if rearmed then rootSend s true 0x32 (domainId s) 0 sensagg frame 5
  else localHalt s sensagg 0x32 frame s.now 5

/-- The root's part of a trip (R515, R562): TRIP sent to every node (R339, R341), THERM_N low in the same cc, and the halt.
A package in Hold cannot trip (R537); in one whose stacks are not clocked yet there is nothing to gate. -/
def rootTrip (s : State) : State :=
  if s.chord.trip.isSome || s.th.tripped || s.ft.tripGate || s.power == .hold || s.sup.ended then s
  else
    let s := setErr (setPins s (fun p => { p with thermLow := true })) sensagg Err.SENSAGG_TRIP
    if hubUp s then
      tripHalt (nodeFrom (setChord s (fun c => { c with trip := some s.now })) (fun _ => .trip) 0 32 (s.now + 1))
    else setFt s (fun f => { f with tripGate := true })

/-- The sensors work: in every power state but Off (R503, R517, R599). -/
def sensing (s : State) : Bool := s.power != .off

/-- Both sensors of M-core g's pair are dead (R504). -/
def pairDead (s : State) (g : Nat) : Bool := (sensor s (2 * g)).state == 2 && (sensor s (2 * g + 1)).state == 2

/-- A pair whose second sensor has died at this read (R504): CORE_FENCED, and the M-core fenced if nothing has fenced it
before. -/
def pairJudge (old s : State) (g : Nat) : State :=
  if pairDead s g && !pairDead old g then
    deviceFence (setErr s sensagg Err.SENSAGG_CORE_FENCED) (blk Ty.MCORE g) .sensorPair
  else s

/-- SENSOR_READ (R503-R508): every sensor read, then every governing value judged, requests and the taper. -/
def execSensorRead (reads : List Int) (s : State) : Host.Outcome State Fault Refusal :=
  .next (if sensing s && decide (s.th.readAt = 0 ∨ s.th.readAt - 1 + cc125us ≤ s.now) then
    let s := offsetsTake (setTh s (fun t => { t with readAt := s.now + 1 }))
    let old := s
    let s := (List.range 524).foldl (fun s i => storeReading s i (reads.getD i 0)) s
    let s := (List.range 128).foldl judgeSplit s
    let s := (List.range 128).foldl (pairJudge old) s
    let (s, trips) := govIndices.foldl (fun (s, t) i => match govOf s i with
      | some g => let (s', x) := judgeValue s i g; (s', if x then t ++ [i] else t)
      | none => (s, t)) (s, [])
    let cool := govIndices.all (fun i => match govOf s i with
      | some g => decide (g < (levels i).getD 0 0)
      | none => true)
    let s := setTh s fun t =>
      { t with coolSince := if cool then (if t.coolSince = 0 then s.now + 1 else t.coolSince) else 0,
               hotSum := t.hotSum + (hottest s).getD 0, hotCount := t.hotCount + 1 }
    let s := trips.foldl (fun s i => reportLevel s i 3) s
    let s := if trips.any (fun i => decide (512 ≤ i)) then rootTrip s else s
    taperStep (judgeRequests s)
  else s)

/-! ## Grace, clamp, trip -/

/-- Grace time in cc (R511). -/
def graceTime (s : State) : Nat :=
  let ms := regField s sensagg Off.SENSAGG_GRACE 8 0
  cc1ms * (if ms = 0 then 1 else min 500 ms)

/-- A marker has come whose STRETCH, once it is applied, meets the request (R102, R510): by the timer's deadline and two cc
it wins. -/
def graceArrival (s : State) (fr stretch : Nat) : State :=
  let top := match s.prog with
    | some p => p.stretchMax
    | none => 200
  if s.th.request && decide (s.th.sReq ≤ min stretch top) && decide (s.th.graceCc ≤ graceTime s + 2) then
    setTh s (fun t => { t with graceWon := fr + 1 })
  else s

/-- GRACE_EXPIRY (R511, R102): decided three cc after the deadline, unless a marker that meets the request has come in
time. -/
def execGraceExpiry (s : State) : Host.Outcome State Fault Refusal :=
  .next (if s.th.request && !s.th.met && decide (s.th.graceWon = 0) && decide (graceTime s + 3 ≤ s.th.graceCc) then
    setTh s (fun t => { t with graceOut := true })
  else s)

/-- CLAMP_APPLY (R512, R513) at cc 0 of a boundary slot: the clamp starts, or ends when no request stands;
the first frame of a running program that it stretches faults (`clampNow` until then). -/
def clampApply (s : State) : State :=
  let hot := govIndices.any (clampStands s)
  let s :=
    if s.th.clamped then
      if s.th.request then s else setTh s (fun t => { t with clamped := false, clampNow := false, graceOut := false })
    else if s.th.graceOut || hot then
      setErr (setTh s (fun t => { t with clamped := true, clampNow := true })) sensagg Err.SENSAGG_CLAMP
    else s
  if s.th.clamped && s.th.clampNow && running s && s.ft.onProg then
    raiseFault (setTh s (fun t => { t with clampNow := false })) sensagg 0x31
  else s

/-- Entry of retention hold (R499, R500): row steps in progress and transfers already accepted finish, every bank is
precharged, and self-refresh is commanded. -/
def enterHold (s : State) (cause : Nat) (p : Power) : State :=
  let s := s.cols.foldl (fun s (c, k) => (k.steps.filter (fun r => r.code == 0)).foldl (fun s r => (finishStep s c r).1) s) s
  let s := s.cols.foldl (fun s x => columnFinish s x.1) s
  let s := { s with cols := s.cols.map (fun (c, k) =>
    (c, { k with steps := [], queue := [], window := none, fly := [], banks := k.banks.map (fun (q, b) => (q, { b with openRow := none })) })) }
  let s := setSup s (fun u => { u with holdCause := cause, holdAt := s.now, selfRefresh := false, retained := false })
  { (setFill s 0 0) with power := p }

/-- THERMAL_TRIP (R515): once TRIP has reached every node and the last clocks are gated, at cc 0 of a slot, every
stack enters retention hold. The package is Tripped once every column is in self-refresh and RAIL_REQ_0 is high. -/
def execThermalTrip (s : State) : Host.Outcome State Fault Refusal :=
  .next (if s.ft.tripGate && s.ft.tripAt.all (fun x => decide (x.2 ≤ s.now)) && (awake s || s.power == .aux) && decide (ccNow s = 0) then
    let s := setFt s (fun f => { f with tripGate := false, gated := true, tripAt := [] })
    let s := setChord s (fun c => { c with trip := none })
    enterHold (setTh s (fun t => { t with tripped := true })) 2 s.power
  else s)

/-- TRIP_CLEAR (R517): accepted once every governing value has been below warn for 1 s; the package leaves
Tripped by a bring-up, warm when DRAM was retained (R541). -/
def tripClearAct (s : State) : State :=
  if s.power == .tripped && decide (s.th.coolSince ≠ 0) && decide (s.th.coolSince - 1 + cc1s ≤ s.now) then
    let s := setTh s (fun t => { t with tripped := false })
    let s := setSup (setPins s (fun p => { p with thermLow := false })) (fun u => { u with coreOff := true })
    { (setShape s (fun h => { h with step := 1, warm := s.sup.retained })) with power := .aux }
  else s
def execTripClear (s : State) : Host.Outcome State Fault Refusal := .next (tripClearAct s)

/-! ## Telemetry -/

/-- A TELEM that waits to be served had arrived by cc `t` (R101, R102); `f` looks at its item and value. -/
def telemBy (s : State) (t : Nat) (f : Nat → Nat → Bool) : Bool :=
  (s.zl.held ++ s.zl.admitted).any (fun x =>
    x.ttype == 8 && decide (Assoc.getD 0 (256 * 8 + x.tag) s.zl.arrivals ≤ t) && f (x.addr % 65536) x.data32)

/-- TELEM_STALE (R514, R102). -/
def execTelemStale (s : State) : Host.Outcome State Fault Refusal :=
  .next (if decide (s.th.inletAt ≠ 0) && !s.th.inletStale && decide (s.th.inletAt - 1 + cc1s + 3 ≤ s.now)
      && !telemBy s (s.th.inletAt - 1 + cc1s + 2) (fun item _ => item == 1) then
    judgeRequests (setErr (setTh s (fun t => { t with inletStale := true })) sensagg Err.SENSAGG_TELEM_STALE)
  else s)

/-- RATED_FLOW in mL/s (R523, R528). -/
def ratedFlow (s : State) : Nat := if s.plate.badRecord then 80 else bytesAt s.plate.ident 0x30 2

/-- A flow below 80 % of RATED_FLOW (R514). -/
def flowLow (s : State) (v : Nat) : Bool := decide (v % 65536 * 10 < ratedFlow s * 8)

/-- LOW_FLOW (R514, R102): the low-flow request after 1 s below 80 % of RATED_FLOW, and its end after 1 s at or
above. -/
def execLowFlow (s : State) : Host.Outcome State Fault Refusal :=
  .next (
    let t := s.th
    if !t.lowFlow && decide (t.flowLowAt ≠ 0) && decide (t.flowLowAt - 1 + cc1s + 3 ≤ s.now)
        && !telemBy s (t.flowLowAt - 1 + cc1s + 2) (fun item v => item == 2 && !flowLow s v) then
      judgeRequests (setTh s (fun t => { t with lowFlow := true }))
    else if t.lowFlow && decide (t.flowGoodAt ≠ 0) && decide (t.flowGoodAt - 1 + cc1s + 3 ≤ s.now)
        && !telemBy s (t.flowGoodAt - 1 + cc1s + 2) (fun item v => item == 2 && flowLow s v) then
      judgeRequests (setTh s (fun t => { t with lowFlow := false }))
    else s)

/-- A rack telemetry item that arrived in cc `at_` (R101, R514). -/
def takeTelem (s : State) (item v at_ : Nat) : State :=
  let signed := signedOf 16 v
  match item with
  | 1 =>
    let s := setTh s (fun t => { t with inlet := signed, inletAt := at_ + 1, inletStale := false })
    judgeRequests (setErrIf (decide (720 < signed)) s sensagg Err.SENSAGG_WARN)
  | 2 =>
    let low := flowLow s v
    setTh s fun t =>
      { t with flow := v % 65536, flowSeen := true,
               flowLowAt := if low then (if t.flowLowAt = 0 then at_ + 1 else t.flowLowAt) else 0,
               flowGoodAt := if low then 0 else (if t.flowGoodAt = 0 then at_ + 1 else t.flowGoodAt) }
  | 3 => setTh s (fun t => { t with outlet := signed })
  | _ => s

/-! ## Power -/

/-- The expression of R144 for a window of one M-core, in mW. -/
def mcorePower (m : MCore) : Nat :=
  let array := if m.winProd = 0 then m.winWork * 100 / (4 * cc1ms)
    else m.winWork * 100 * (100 * m.winProd - 88 * m.winGated) / (4 * cc1ms * 100 * m.winProd)
  3000 + array + m.winFill * 100 / (4 * cc1ms) + 2400 * m.winLines / (16 * cc1ms)

/-- PMBus power of a rail in mW. -/
def railPower (s : State) (r : Nat) : Nat := let x := Assoc.getD Rail.init r s.sup.rails; x.mv * x.deciamps / 10

/-- The device fill over the window that ends now, in mW (R520). -/
def fillMean (s : State) : Nat := (s.th.fillSum + s.th.fill * (s.now - s.th.fillAt)) * 100 / cc1ms

/-- E of the window that ends now, in mW (R520, R521). -/
def estimate (s : State) : Nat :=
  let cores := ((List.range 128).map (fun g => if good s (blk Ty.MCORE g) then mcorePower (mc s g) else 0)).sum
  let allow := if s.sup.coreOff then 0 else 12 * 16000 + 20 * 24000
  cores + allow + ((List.range 9).map (fun k => railPower s (32 + k))).sum + fillMean s

/-- POWER_WINDOW (R519, R520). -/
def execPowerWindow (s : State) : Host.Outcome State Fault Refusal :=
  .next (if awake s && decide (s.th.windowAt + cc1ms ≤ s.now) then
    let e := estimate s
    let first := !s.th.eSeen
    let old := s.th.e
    let s := setTh s fun t =>
      { t with ePrev := t.e, e := e, eSeen := true, eFill := fillMean s, fillSum := 0, fillAt := s.now, windowAt := s.now,
               peak := decide (3200000 < e) }
    let s := { s with mcores := s.mcores.map (fun (g, m) =>
      (g, { m with winWork := 0, winFill := 0, winProd := 0, winGated := 0, winLines := 0 })) }
    let s := setErrIf (!first && decide (150000 < (e - old) + (old - e))) s sensagg Err.SENSAGG_RAMP_EXCEEDED
    judgeRequests (setErrIf (decide (3200000 < e)) s sensagg Err.SENSAGG_POWER_PEAK)
  else s)

/-- Handover fill H - E_idle in tenths of a watt, at most 1,100.8 W (R521). -/
def fillFor (s : State) (idle : Nat) : Nat := min 11008 (regField s sensagg Off.SENSAGG_RAMP_TARGET 15 0 * 10 - idle / 100)
def fillLevel (s : State) : Nat := fillFor s s.th.eIdle

/-- E of the idle package without its fill (R521): a pre-load that begins in a taper or an end ramp takes the fill as it
stands (R522). -/
def idleE (s : State) : Nat := s.th.e - s.th.eFill

/-- Change of fill allowed at one boundary slot: 150 W/ms times the frame's length (R521). -/
def fillRate (s : State) : Nat := 1500 * frameLen s / cc1ms

/-- FILL_ADJUST (R521) at cc 0 of a boundary slot; `left` is the number of frames to START_FRAME of an armed
program, none when no program is armed. An end ramp that starts at this tick falls from the next on. -/
def fillAdjust (s : State) (left : Option Nat) : State :=
  let h := regField s sensagg Off.SENSAGG_RAMP_TARGET 15 0
  let r := fillRate s
  match left with
  | some n =>
    if h = 0 then setFill s (s.th.fill - r) (if s.th.fill ≤ r then 0 else s.th.fillPhase)
    else
      let s := if s.sup.loadNotice then s else setTh (setSup s (fun u => { u with loadNotice := true })) (fun t => { t with noticeAt := s.now + 1 })
      let begun := decide (s.th.fillPhase = 1)
      let lvl := if begun then fillLevel s else fillFor s (idleE s)
      let due := decide (s.th.noticeAt - 1 + 8000 ≤ s.now) && decide (s.th.fill < lvl) && decide (r * n ≤ lvl - s.th.fill + r)
      let s := if begun || !(due || decide (2 ≤ s.th.fillPhase)) then s
        else setTh s (fun t => { t with fillPhase := 1, eIdle := idleE s })
      if due then setFill s (min lvl (s.th.fill + r)) s.th.fillPhase else s
  | none =>
    if s.th.fillPhase = 2 ∧ s.th.taperAt = s.now + 1 then s
    else if s.th.fillPhase = 2 then
      let f := s.th.fill - r
      let s := setFill s f (if f = 0 then 0 else 2)
      if f = 0 then setSup s (fun u => { u with loadNotice := false }) else s
    else if s.th.fillPhase = 0 ∧ s.th.fill = 0 then setSup s (fun u => if running s then u else { u with loadNotice := false })
    else s

/-- The tick of START_FRAME stops fill; a rise cut short, or not yet begun, sets RAMP_EXCEEDED (R521). -/
def fillStart (s : State) : State :=
  let short := decide (regField s sensagg Off.SENSAGG_RAMP_TARGET 15 0 ≠ 0)
    && decide (s.th.fill < (if s.th.fillPhase = 1 then fillLevel s else fillFor s (idleE s)))
  setErrIf short (setFill s 0 0) sensagg Err.SENSAGG_RAMP_EXCEEDED

/-- A program ends by STOP_FRAME or unload (R521, R522): end ramp, or job-end taper. -/
def fillEnd (s : State) : State :=
  if regField s sensagg Off.SENSAGG_RAMP_TARGET 15 0 = 0 then s
  else
    let taper := bitOf (getReg s sensagg Off.SENSAGG_TAPER) 31
    let h := (hottest s).getD 0
    setTh (setFill s (fillLevel s) (if taper then 3 else 2)) (fun t => { t with taperLine := h, taperAt := s.now + 1 })

/-! ## User calibration -/

/-- Least and greatest user offset of an index (R529). -/
def ucalLimits (i : Nat) : Int × Int :=
  if i < 524 then (-32, 32)
  else if i < 556 then
    let f : Int := Config.fusedMv (i - 524)
    (max (-6) (-((2 * (f - 600)) / 5)), min 6 ((2 * (850 - f)) / 5))
  else if i = 556 then (-4, 4) else (-2, 2)

/-- UCAL_VAL (R530): the offset at UCAL_SEL, stored clamped; kept in flash when the hub's temperature allows
it, else held. -/
def ucalAct (s : State) (value : Int) : State :=
  if hubUp s then
    let i := regField s sensagg Off.SENSAGG_UCAL_SEL 9 0
    if 577 < i then setErr s sensagg Err.SENSAGG_UCAL_CLAMPED
    else
      let v := signedOf 16 (unsignedOf 16 value)
      let (lo, hi) := ucalLimits i
      let c := if v < lo then lo else if hi < v then hi else v
      let s := setTh s (fun t => { t with ucal := Assoc.put i (if c = 0 then none else some c) t.ucal })
      let s := if flashWritable s then setFw s (fun f => { f with ucalFlash := s.th.ucal }) else setFw s (fun f => { f with heldUcal := true })
      setErrIf (decide (c ≠ v)) s sensagg Err.SENSAGG_UCAL_CLAMPED
  else s
def execUcalVal (value : Int) (s : State) : Host.Outcome State Fault Refusal := .next (ucalAct s value)

end Sys2Proof.Machine
end

