-- ==== Sys2Proof/Machine/Supplies.lean ====
section
/-! DEFINITION. Supplies: PMBus polls (R493, R494), main and backup paths (R496-R498), retention hold
(R499-R502) and the state in which a package stands in Off (R536, R624). The cold plate's wear
(R523-R528). -/

namespace Sys2Proof.Machine

/-! ## Off -/

/-- The image index as flash keeps it (R595): one byte for each unit 1-6, as SLOTS shows it, and a CRC-32 (DESIGN CHOICE of
its form, log entry 9). -/
def indexRecord (f : Firmware) : List Byte :=
  let b := (List.range 6).map (fun k =>
    let u := Assoc.getD FwUnit.init (k + 1) f.units
    (BitVec.ofNat 8 (8 * b2n u.activeB + u.other) : Byte))
  b ++ leBytes 4 (crc32 b)

/-- The copy of the index that holds: the first whose CRC-32 does; none before one is written. -/
def indexGood (r : List Byte) : Bool := r.length == 10 && crc32 (r.take 6) == bytesAt r 6 4
def indexRead (f : Firmware) : Option (List Byte) :=
  if indexGood f.indexA then some f.indexA else if indexGood f.indexB then some f.indexB else none

/-- A firmware unit as flash and fuses keep it: its slots, its floor and what the index says of it. -/
def fwKept (f : Firmware) (k : Nat) (u : FwUnit) : FwUnit :=
  let x := match indexRead f with
    | some r => nth (r.map BitVec.toNat) (k - 1)
    | none => 0
  { u with activeB := bitOf x 3, other := x % 8, heldFloor := none, version := 0, measure := [], missing := false }

/-- The package in Off (R536, R623, R624): flash, fuses, the outside levels and the model's own records stay. -/
def packageOff (s : State) : State :=
  { State.reset with
      now := s.now, pending := s.pending, freeCtr := s.freeCtr, outs := s.outs,
      ft := { FTimer.init with haltLow := s.ft.haltLow, tickAt := s.now },
      shape := { Shape.init with
        buildCount := s.shape.buildCount, fuseDefects := s.shape.fuseDefects, dies := s.shape.dies,
        serial := s.shape.serial, deltas := s.shape.deltas, offsets := s.shape.offsets, presets := s.shape.presets,
        dramTiming := s.shape.dramTiming,
        fieldDefects := s.shape.fieldDefects },
      fw := { Firmware.init with
        units := s.fw.units.map (fun (k, u) => (k, fwKept s.fw k u)), revoked := s.fw.revoked, ucalFlash := s.fw.ucalFlash,
        indexA := s.fw.indexA, indexB := s.fw.indexB },
      sup := { State.reset.sup with rails := s.sup.rails.map (fun (k, r) => (k, { Rail.init with mainGood := r.mainGood, backupGood := r.backupGood, onBackup := r.onBackup, switchedAt := r.switchedAt })) },
      pins := { Pins.init with perstHigh := s.pins.perstHigh } }

/-! ## PMBus -/

/-- The PMBUS block's entry. -/
def pmbus : Nat := blk Ty.PMBUS 0

def rail (s : State) (r : Nat) : Rail := Assoc.getD Rail.init r s.sup.rails
def setRail (s : State) (r : Nat) (f : Rail → Rail) : State :=
  setSup s (fun u => { u with rails := Assoc.put r (some (f (Assoc.getD Rail.init r u.rails))) u.rails })

/-- The fault bits of STATUS_WORD (PRESUMED, PMBus 1.3 Part II: VOUT_OV, IOUT_OC, VIN_UV; log entry 43). -/
def railFaultMask : Nat := 0x0038

/-- One rail's reads (R494): the third failure leaves the last values. -/
def takeRail (s : State) (r : RailRead) : State :=
  if 40 < r.rail then s
  else if 3 ≤ r.failedTries then setErr s pmbus Err.PMBUS_PMBUS_ERR
  else
    let s := setRail s r.rail (fun x => { x with mv := r.mv % 65536, deciamps := r.deciamps % 65536, status := r.status % 65536 })
    setErrIf (r.status &&& railFaultMask != 0) s pmbus Err.PMBUS_RAIL_FAULT

/-- PMBUS_POLL (R494): every 10 ms; P is the mean of the last ten sums (R509), and the sustained request
follows it (R518). -/
def execPmbusPoll (reads : List RailRead) (s : State) : Host.Outcome State Fault Refusal :=
  .next (if hubUp s && decide (s.sup.pollAt = 0 ∨ s.sup.pollAt - 1 + 8000000 ≤ s.now) then
    let s := reads.foldl takeRail s
    let s := setSup s (fun u => { u with pollAt := s.now + 1 })
    let total := ((List.range 41).map (railPower s)).sum
    let hist := (total :: s.th.pHist).take 10
    let p := hist.sum / hist.length
    judgeRequests (setTh s (fun t => { t with pHist := hist, p := p }))
  else s)

/-! ## Main and backup paths -/

/-- Rails with a backup path, in the order of SUPPLY.BACKUP (R496, R534). -/
def backupRails : List Nat := [40, 33, 34, 35, 36, 37]

/-- BACKUP_SWITCHOVER (R496): the main path is broken; the backup carries the rail. -/
def execBackupSwitchover (r : Nat) (s : State) : Host.Outcome State Fault Refusal :=
  onUnit 41 r s fun s =>
    if backupRails.contains r && s.power != .off && (rail s r).mainGood && (rail s r).backupGood then
      let s := setRail s r (fun x => { x with mainGood := false, onBackup := true, switchedAt := s.now })
      let s := countField s pmbus Off.PMBUS_SWITCHES 31 0 1
      gnomonBump (setErr s pmbus Err.PMBUS_SWITCHOVER)
    else s

/-- MAIN_RETURN (R497): no sooner than 100 ms after the switch-over, as the main path must have been good for that
long. The same command says that a core rail, or a rail that had lost both paths, stands within tolerance again (DESIGN
CHOICE, log entry 79: R537 and R541 ask for it, and no other command tells it). -/
def execMainReturn (r : Nat) (s : State) : Host.Outcome State Fault Refusal :=
  onUnit 41 r s fun s =>
    let x := rail s r
    if backupRails.contains r && x.onBackup then
      if s.power != .off && decide (x.switchedAt + 100 * cc1ms ≤ s.now) then
        gnomonBump (setRail s r (fun x => { x with mainGood := true, onBackup := false }))
      else s
    else if (decide (r ≤ 32) || backupRails.contains r) && !x.mainGood then
      gnomonBump (setRail s r (fun x => { x with mainGood := true, switchedAt := s.now }))
    else s

/-- RAIL_LOST (R498): both paths of a rail are lost. Without VAUX the package is Off (R536); without VPP its operation has
ended, whatever its power state, until PERST_N goes low. -/
def execRailLost (r : Nat) (s : State) : Host.Outcome State Fault Refusal :=
  onUnit 41 r s fun s =>
    if backupRails.contains r && s.power != .off then
      let s := setRail s r (fun x => { x with mainGood := false, backupGood := false, onBackup := false, switchedAt := s.now })
      if r = 40 then packageOff s
      else if r = 37 then setSup s (fun u => { u with ended := true, lost := 15, retained := false })
      else
        let s := setSup s (fun u => { u with lost := u.lost ||| 2 ^ (r - 33), retained := false })
        gnomonBump s
    else s

/-! ## Retention hold -/

/-- RETENTION_ENTRY (R499, R537): a core rail below 90 %; Hold is entered from Ready and Run, and from no other state. -/
def execRetentionEntry (r : Nat) (s : State) : Host.Outcome State Fault Refusal :=
  onUnit 41 r s fun s =>
    if r ≤ 32 && s.power != .off && s.power != .tripped then
      let s := setRail s r (fun x => { x with mainGood := false, switchedAt := s.now })
      if stacksUp s && (s.power == .ready || s.power == .run) then enterHold (setErr s pmbus Err.PMBUS_RAIL_LOST) 1 .hold else s
    else s

/-- SELF_REFRESH_REACHED (R502): every column is in self-refresh; RAIL_REQ_0 goes high at a trip or an
activation (R495, R499), and a package that has tripped is Tripped (R515). -/
def execSelfRefreshReached (s : State) : Host.Outcome State Fault Refusal :=
  .next (if decide (s.sup.holdCause ≠ 0) && s.power != .off && !s.sup.selfRefresh then
    let s := setSup s fun u =>
      { u with selfRefresh := true, retained := decide (u.lost = 0), coreOff := u.coreOff || decide (2 ≤ u.holdCause),
               holdAt := s.now }
    if s.sup.holdCause = 2 then { s with power := .tripped } else s
  else s)

/-! ## The cold plate -/

/-- The PLATE block's entry. -/
def plateBlk : Nat := blk Ty.PLATE 0

/-- RATED_HOURS and RATED_CYCLES (R523). -/
def ratedHours (s : State) : Nat := bytesAt s.plate.ident 0x2C 4
def ratedCycles (s : State) : Nat := bytesAt s.plate.ident 0x28 4

/-- Life in thousandths, at most 1,000 (R525, R535): 0 before a plate has been read; a plate whose ratings or wear are not
known has a free value. -/
def plateLife (s : State) : Nat :=
  if !s.plate.present && !s.plate.badRecord then 0
  else if s.plate.badRecord ∨ ratedHours s = 0 ∨ ratedCycles s = 0 then
    Config.unratedLife s.plate.minutes s.plate.swings % 1001
  else min 1000 (max (s.plate.minutes * 1000 / (60 * ratedHours s)) (s.plate.swings * 1000 / ratedCycles s))

/-- LIFE_WARN and the worn-plate limit (R527). -/
def lifeCheck (s : State) : State :=
  let l := plateLife s
  let warn := decide (900 ≤ l) && !s.plate.warned
  let fin := decide (1000 ≤ l) && !s.plate.ended
  let s := setPlate s fun p =>
    { p with warned := p.warned || warn, ended := p.ended || fin, worn := p.worn || fin,
             writeDue := p.writeDue || warn || fin }
  let s := setErrIf warn s plateBlk Err.PLATE_LIFE_WARN
  setErrIf fin s plateBlk Err.PLATE_LIFE_END

/-- The next wear record (R524). -/
def wearRecord (s : State) : List Byte :=
  let p := s.plate
  let ser := (s.shape.serial ++ List.replicate 16 0).take 16
  let body := leBytes 4 (p.seq + 1) ++ leBytes 4 p.minutes ++ leBytes 4 p.swings ++ ser
    ++ leBytes 4 (b2n p.warned + 2 * b2n p.ended) ++ List.replicate 28 0
  body ++ leBytes 4 (crc32 body)

/-- WEAR_RECORD_WRITE (R526): into the slot other than the governing one. -/
def wearWrite (s : State) (ok : Bool) : State :=
  if ok && s.plate.present then
    let r := wearRecord s
    setPlate s fun p =>
      { p with recA := if p.slotB then r else p.recA, recB := if p.slotB then p.recB else r,
               slotB := !p.slotB, seq := (p.seq + 1) % 2 ^ 32, sinceWrite := p.sinceWrite % 60, writeDue := false }
  else setErr (setPlate s (fun p => { p with sinceWrite := p.sinceWrite % 60, writeDue := false })) plateBlk Err.PLATE_WRITE_FAIL

/-- PLATE_MINUTE (R525, R526): a minute in Ready or Run. -/
def execPlateMinute (writeOk : Bool) (s : State) : Host.Outcome State Fault Refusal :=
  .next (if (s.power == .ready || s.power == .run) && decide (s.plate.minuteAt + 60 * cc1s ≤ s.now) then
    let s := setPlate s (fun p => { p with minutes := (p.minutes + 1) % 2 ^ 32, minuteAt := s.now, sinceWrite := p.sinceWrite + 1 })
    let s := lifeCheck s
    gnomonBump (if s.plate.writeDue || decide (60 ≤ s.plate.sinceWrite) then wearWrite s writeOk else s)
  else s)

/-- A wear record whose command does not say whether the write succeeds: that is a free value (R526, log entry 73). -/
def wearWriteFree (s : State) : State :=
  let (x, s) := draw s 1
  wearWrite s (x == 1)

/-- A swing counted: life may first reach a threshold, and then the record is written (R525-R527). -/
def swingCount (s : State) (h : Int) : State :=
  let s := lifeCheck (setPlate s (fun p => { p with swings := (p.swings + 1) % 2 ^ 32, dirUp := false, extreme := h }))
  gnomonBump (if s.plate.writeDue then wearWriteFree s else s)

/-- SWING_JUDGEMENT (R525) on h, the 1 s mean, wherever the hub works. -/
def execSwingJudgement (s : State) : Host.Outcome State Fault Refusal :=
  .next (if hubUp s && decide (s.th.swingAt + cc1s ≤ s.now) then
    let h : Int := if s.th.hotCount = 0 then (hottest s).getD 0 else s.th.hotSum / s.th.hotCount
    let s := setTh s (fun t => { t with hotSum := 0, hotCount := 0, swingAt := s.now })
    let p := s.plate
    if p.dirUp then
      if p.extreme < h then setPlate s (fun p => { p with extreme := h })
      else if 320 < p.extreme - h then swingCount s h
      else s
    else if h < p.extreme then setPlate s (fun p => { p with extreme := h })
    else if 320 < h - p.extreme then setPlate s (fun p => { p with dirUp := true, extreme := h })
    else s
  else s)

end Sys2Proof.Machine
end

