-- ==== Sys2Proof/Machine/Gnomon.lean ====
section
/-! DEFINITION. The Gnomon as its readers see it: the header, the directory and the ten sections,
computed from what bring-up decided and from the fields that change in service (R30-R45, R458, R531,
R532, R551, R555). -/

namespace Sys2Proof.Machine

/-! ## Capacity vector, core map, features -/

/-- Lanes set in a mask, ascending. -/
def maskLanes (n mask : Nat) : List Nat := (List.range n).filter (fun i => mask.testBit i)

/-- Connection mask of a Garlet port (R451). -/
def gpMask (p : GPort) : Nat := p.ownMask &&& p.peerMask

/-- Lanes in use, width and connection mask that the vector shows: those of a lane change from the boundary slot on in
which the end decides it (R457). -/
def portShown (s : State) (g : GPort) : Nat × Nat × Nat := match g.swapTo with
  | some (lanes, w, t) => if t + 128 ≤ s.ft.tickAt then (lanes, w, gpMask g) else (g.lanes, g.width, g.connMask)
  | none => (g.lanes, g.width, gpMask g)

/-- Entry of the port capacity vector (R458). -/
def portEntry (s : State) (p : Nat) : List Byte :=
  let g := gp s p
  let (lanes, width, mask) := portShown s g
  let w := if good s (blk Ty.GPORT p) then width else 3
  let flits := if w = 2 then 5 else if w = 1 then 2 else 0
  let up := w = 1 ∨ w = 2
  let flags := b2n (decide up && bitOf lanes 8) + 2 * b2n (g.peerPort != 0x1F) + 4 * b2n (w == 1)
  leBytes 1 p ++ leBytes 1 w ++ leBytes 1 flits ++ leBytes 1 flags ++ leBytes 2 (mask % 512)
    ++ leBytes 2 (g.peerPort % 32) ++ leBytes 4 g.peerTag ++ leBytes 4 0

/-- The port capacity vector section. -/
def portVector (s : State) : List Byte := ((List.range 20).map (portEntry s)).flatten

/-- A port stands narrow (R557). -/
def narrowPort (s : State) : Bool := (List.range 20).any (fun p => good s (blk Ty.GPORT p) && (portShown s (gp s p)).2.1 == 1)

/-- Port state has changed from `s` to `t`: when the capacity vector or FLAGS [2] shows another value, GEN moves on by
two, unless the change has moved it already (R33). -/
def portWatch (s t : State) : State :=
  if t.shape.gen = s.shape.gen ∧ (portVector t ≠ portVector s ∨ narrowPort t ≠ narrowPort s) then gnomonBump t else t

/-- A list of mapped cores padded to `n` entries (R44). -/
def mapEntries (l : List Nat) (n : Nat) : List Byte := ((List.range n).map (fun i => leBytes 2 (l.getD i 0xFFFF))).flatten

/-- The core map section. -/
def coreMap (s : State) : List Byte := mapEntries s.shape.mcoreMap 128 ++ mapEntries s.shape.vcoreMap 32

/-- SHAPE_DIGEST of the package (R90, R94). -/
def shapeDigest (s : State) : List Byte := shake256 (coreMap s ++ portVector s) 16

/-- Good cores (R36). -/
def goodMcores (s : State) : Nat := ((List.range 128).filter (fun g => good s (blk Ty.MCORE g))).length
def goodVcores (s : State) : Nat := ((List.range 32).filter (fun v => good s (blk Ty.VCORE v))).length

/-- A die's identity record; a die with no entry is all zero (log entry 8). -/
def dieOf (s : State) (k : Nat) : Die := Assoc.getD ⟨[], 0, 0, 0, 0, 0, 0, 0, 0x7FF⟩ k s.shape.dies
/-- Do all dies carry one COMPAT_CLASS (R552)? -/
def diesAgree (s : State) : Bool := (List.range 289).all (fun k => (dieOf s k).compat == (dieOf s 0).compat)

/-- The package feature set (R553): the AND of the sets of all 289 dies. -/
def packageFeatures (s : State) : Nat := (List.range 289).foldl (fun f k => f &&& (dieOf s k).features) (2 ^ 256 - 1)

/-- Stack of a block for its position and parent (R40, R639); 255 for the hub. -/
def stackOf (b : Nat) : Nat :=
  let i := instOf b
  match typeOf b with
  | 2 => i
  | 3 => i / 4
  | 4 => i
  | 5 => if i < 32 then i else 255
  | 6 => i / 4
  | 7 => i / 16
  | 8 => let (r, _) := d2dEnd i; if r < 32 then r else 255
  | 9 => i + 12
  | 15 => if i < 32 then i else 255
  | _ => 255

/-- Sub-index of a block (R639). -/
def subOf (b : Nat) : Nat :=
  let i := instOf b
  match typeOf b with
  | 3 => i % 4
  | 6 => i % 4
  | 7 => i % 16
  | 8 => (d2dEnd i).2
  | 9 => i
  | 12 => i
  | 13 => i
  | _ => 0

/-- FACET_CAPS (R48, R639): the package feature set in the type's own bits (R553). -/
def facetCaps (s : State) (b : Nat) : Nat :=
  let f := packageFeatures s
  let own := match typeOf b with
    | 3 => f % 32
    | 4 => b2n (bitOf f 7) + 2 * b2n (bitOf f 6) + 4 * b2n (bitOf f 5)
    | 5 => b2n (instOf b == 32)
    | 9 => b2n (bitOf f 8) + 2 * b2n (bitOf f 9)
    | 10 => b2n (bitOf f 10)
    | _ => 0
  let t := typeOf b
  own * 65536 + 4 * b2n (canFence t) + 2 * b2n (canReset t) + b2n (canEnable t)

/-- Die that holds a block: 0 the hub, 1 + s a logic die. -/
def dieIndex (b : Nat) : Nat := if stackOf b = 255 then 0 else 1 + stackOf b

/-! ## Sections -/

/-- A section: ID, entry size, bytes, and bytes reserved for it (R38, R39). -/
structure GSection where
  id : Nat
  entry : Nat
  body : List Byte
  room : Nat
deriving DecidableEq, Repr

/-- Block entry (R40); `ident` is the offset of the identity section. -/
def blockEntry (s : State) (ident b : Nat) : List Byte :=
  let st := blockState s b
  let sk := stackOf b
  let (x, y) := siteOf sk
  let par := if typeOf b ≤ 2 then 0xFFFF else if sk = 255 then 0 else blk Ty.STACK sk
  let there := st ≠ 3
  leBytes 2 (typeOf b) ++ leBytes 2 (instOf b) ++ leBytes 1 st ++ leBytes 1 (Config.blockRev (typeOf b))
    ++ leBytes 2 (blockDetail s b) ++ leBytes 8 (if there then 4096 * facetPage s b else 0)
    ++ leBytes 4 (if there then 4096 else 0) ++ leBytes 1 y ++ leBytes 1 x ++ leBytes 1 (subOf b) ++ leBytes 1 sk
    ++ leBytes 8 (if there then facetCaps s b else 0) ++ leBytes 4 (ident + 32 * (1 + dieIndex b)) ++ leBytes 2 par
    ++ List.replicate 26 0

/-- Address region (R43). -/
def regionEntry (base size kind owner : Nat) : List Byte :=
  let fn := kind = 7
  leBytes 8 base ++ leBytes 8 size ++ leBytes 2 kind ++ leBytes 2 owner ++ leBytes 2 (if fn then 1 else 0)
    ++ leBytes 1 (if fn then 12 else 0) ++ leBytes 1 (if fn then 5 else 0) ++ leBytes 8 (if fn then dramBase else 0)

/-- The regions of a core's 16 MiB block (R22, R23): the populated part, and the rest. -/
def coreRegions (isGood : Bool) (base part kind owner : Nat) : List Byte :=
  if isGood then regionEntry base part kind owner ++ regionEntry (base + part) (0x1000000 - part) 8 owner
  else regionEntry base 0x1000000 8 owner

/-- The address region section, as bring-up found the shape (R33, R43). -/
def regionSection (s : State) : List Byte :=
  let h := s.shape
  regionEntry 0 0x100000 1 0xFFFF ++ regionEntry 0x100000 0xFFF00000 2 0xFFFF
    ++ regionEntry slmBase 0x10000000 3 (blk Ty.SLM 0)
    ++ ((List.range 128).map (fun g => coreRegions (h.mcoreMap.contains g) (mstoreAddr g 0) 0x840000 4 (blk Ty.MCORE g))).flatten
    ++ ((List.range 32).map (fun v => coreRegions (h.vcoreMap.contains v) (vmemAddr v 0) 0x400000 5 (blk Ty.VCORE v))).flatten
    ++ ((List.range 512).map (fun c => regionEntry (dramAddr c 0) 0x40000000 (if h.colsOut.contains c then 8 else 6) (blk Ty.COLCTL c))).flatten
    ++ regionEntry aliasBase dramSize 7 0xFFFF

/-- Defect map entry (R551). -/
def defectEntry (d : DefectEntry) : List Byte :=
  leBytes 2 d.block ++ leBytes 1 d.unit ++ leBytes 1 d.source ++ leBytes 4 d.pos ++ leBytes 2 d.spare ++ leBytes 1 d.outcome
    ++ List.replicate 5 0

/-- Sensor map entry (R531). -/
def sensorEntry (s : State) (i : Nat) : List Byte :=
  let (kind, st, sub) := if i < 256 then (1 + i % 2, i / 8, i / 2 % 4) else if i < 512 then (3, (i - 256) / 8, (i - 256) % 8)
    else (4, 0xFF, i - 512)
  let x := sensor s i
  let state := if x.state = 2 then 2 else if i < 256 then (if (sensor s (i / 2 * 2)).state = 1 then 1 else 0) else 0
  let delta : Int := if i < 256 ∧ i % 2 = 1 then Assoc.getD 0 (i / 2) s.shape.deltas else 0
  leBytes 2 i ++ leBytes 1 kind ++ leBytes 1 st ++ leBytes 1 sub ++ leBytes 1 state ++ leBytes 2 (unsignedOf 16 delta)
    ++ leBytes 2 (unsignedOf 16 (Assoc.getD 0 i s.th.ucalNow)) ++ List.replicate 6 0

/-- Set point in mV, current limit and tolerance in parts of 100 of a rail (R489). -/
def railSpec (s : State) (r : Nat) : Nat × Nat × Nat :=
  let set := Assoc.get? r s.sup.setMv
  if r < 32 then (set.getD (Config.fusedMv r), 100, 3)
  else if r = 32 then (set.getD 750, 400, 3)
  else if r < 37 then (1050, 120, 3)
  else if r = 37 then (1800, 8, 5)
  else if r = 38 then (900, 120, 2)
  else if r = 39 then (1800, 2, 5)
  else (3300, 4, 5)

/-- Rail map entry (R532). -/
def railEntry (s : State) (r : Nat) : List Byte :=
  let (mv, imax, tol) := railSpec s r
  let x := rail s r
  let dual := backupRails.contains r
  let paths := b2n x.mainGood + 2 * b2n (dual && x.backupGood) + 4 * b2n x.onBackup
  leBytes 1 r ++ leBytes 1 (Config.railAddr r % 128) ++ leBytes 1 paths ++ leBytes 1 0 ++ leBytes 2 mv ++ leBytes 2 imax
    ++ leBytes 2 (ceilDiv (mv * (100 - tol)) 100) ++ leBytes 2 (mv * (100 + tol) / 100) ++ leBytes 4 0

/-- The feature level section (R555). -/
def featureSection (s : State) : List Byte :=
  let rev := (List.range 289).foldl (fun m k => min m (dieOf s k).dieRev) 255
  leBytes 2 s.shape.level ++ leBytes 1 (if diesAgree s then (dieOf s 0).compat else 0xFF) ++ leBytes 1 rev ++ leBytes 4 0
    ++ leBytes 32 (packageFeatures s) ++ List.replicate 24 0

/-- PL_STATUS (R535). -/
def plStatus (s : State) : Nat := b2n s.plate.present * 2 ^ 31 + b2n s.plate.worn * 2 ^ 30 + plateLife s

/-- A list cut or padded with zeros to `n` bytes. -/
def fit (l : List Byte) (n : Nat) : List Byte := (l ++ List.replicate n 0).take n

/-- The cold plate record (after R528): the governing wear record shows the counts held in the hub. -/
def plateSection (s : State) : List Byte :=
  let p := s.plate
  let r := fit (if p.slotB then p.recB else p.recA) 60
  let r := splice (splice r 4 (leBytes 4 p.minutes ++ leBytes 4 p.swings)) 0x1C (leBytes 4 (b2n p.warned + 2 * b2n p.ended))
  fit p.ident 64 ++ r ++ leBytes 4 (crc32 r) ++ leBytes 4 (plStatus s)

/-- A die record (R45). -/
def dieRecord (s : State) (k : Nat) : List Byte :=
  let d := dieOf s k
  let (kind, st, ly) := if k = 0 then (1, 0xFF, 0xFF) else if k < 33 then (2, k - 1, 0xFF) else (3, (k - 33) / 8, (k - 33) % 8)
  fit d.lot 8 ++ leBytes 1 d.wafer ++ leBytes 1 d.x ++ leBytes 1 d.y ++ leBytes 1 d.fab ++ leBytes 2 d.testRev
    ++ leBytes 1 d.dieRev ++ leBytes 1 d.compat ++ leBytes 1 kind ++ leBytes 1 st ++ leBytes 1 ly ++ List.replicate 13 0

/-- "C0". -/
def siliconSet : List Byte := [0x43, 0x30]

/-- The identity section (R45). -/
def identitySection (s : State) : List Byte :=
  fit s.shape.serial 16 ++ siliconSet ++ leBytes 2 289 ++ List.replicate 12 0 ++ ((List.range 289).map (dieRecord s)).flatten

/-- Bytes of the identity section. -/
def identitySize : Nat := 32 * 290

/-- Offset of the sections: each at the next multiple of 64 after the header and directory, in order of ID,
the identity section first among them and the defect map last (log entry 20). -/
def layFrom : Nat → List GSection → List (Nat × GSection)
  | _, [] => []
  | o, g :: r => (o, g) :: layFrom (ceilDiv (o + g.room) 64 * 64) r

/-- Offset of the identity section. -/
def identityAt : Nat := 256

/-- The sections in the order in which they lie. -/
def gnomonSections (s : State) : List (Nat × GSection) :=
  let blocks := ((List.range blockCount).map (blockEntry s identityAt)).flatten
  let regions := regionSection s
  let defects := (s.shape.defects.map defectEntry).flatten
  let sensors := ((List.range 524).map (sensorEntry s)).flatten
  let rails := ((List.range 41).map (railEntry s)).flatten
  let mk (id entry : Nat) (b : List Byte) : GSection := ⟨id, entry, b, b.length⟩
  layFrom identityAt
    [mk 10 32 (identitySection s), mk 1 64 blocks, mk 2 32 regions, mk 4 2 (coreMap s), mk 5 16 (portVector s),
     mk 6 16 sensors, mk 7 16 rails, mk 8 0 (featureSection s), mk 9 0 (plateSection s), ⟨3, 16, defects, 262144⟩]

/-- Directory entry (R38). -/
def dirEntry (o : Nat) (g : GSection) : List Byte :=
  leBytes 2 g.id ++ leBytes 2 1 ++ leBytes 4 o ++ leBytes 4 g.body.length ++ leBytes 2 g.entry ++ leBytes 2 0

/-- The header (R36) with the given GEN and CHECK. -/
def gnomonHeader (s : State) (total gen check : Nat) : List Byte :=
  let flags := b2n s.shape.published + 2 * b2n s.shape.unfit + 4 * b2n (narrowPort s)
  [0x47, 0x4E, 0x4D, 0x4E] ++ leBytes 4 0x00010000 ++ leBytes 4 total ++ leBytes 2 0x40 ++ leBytes 2 10 ++ leBytes 4 gen
    ++ leBytes 4 s.shape.buildCount ++ siliconSet ++ leBytes 2 0 ++ leBytes 2 (goodMcores s) ++ leBytes 2 (goodVcores s)
    ++ leBytes 4 flags ++ leBytes 4 check ++ List.replicate 24 0

/-- The bytes after the header, sections at their offsets. -/
def gnomonBody (l : List (Nat × GSection)) : List Byte :=
  let dir := (List.range 16).flatMap (fun k => (l.filter (fun x => x.2.id == k)).flatMap (fun x => dirEntry x.1 x.2))
  l.foldl (fun acc x => fit acc (x.1 - 64) ++ fit x.2.body x.2.room) dir

/-- The whole Gnomon (R30-R36): all zero before the first publication. -/
def gnomonBytes (s : State) : List Byte :=
  if s.shape.published then
    let body := gnomonBody (gnomonSections s)
    let total := 64 + body.length
    let check := crc32 (gnomonHeader s total 0 0 ++ body)
    gnomonHeader s total s.shape.gen check ++ body
  else []

/-- A read inside the Gnomon range (R30, R32). -/
def gnomonRead (s : State) (off n : Nat) : List Byte := fit ((gnomonBytes s).drop off) n

end Sys2Proof.Machine
end

