-- ==== Sys2Proof/Machine/Mailboxes.lean ====
section
/-! DEFINITION. Mailbox queues (R417-R427): the synchronised pointers, the queue SRAM, packets, the operations of hub
router port 10, notices. Both clocks of a queue have one cycle to a cc (log entry 21). -/

namespace Sys2Proof.Machine

/-- Facet of a queue. -/
def mbBlk (q : Nat) : Nat := blk Ty.MBOX q
/-- Queues 0-63 are inbound. -/
def inbound (q : Nat) : Bool := decide (q < 64)

/-- Gray code of a pointer, and the pointer again (R419). -/
def toGray (p : Nat) : Nat := p ^^^ (p >>> 1)
def fromGray (g : Nat) : Nat := (List.range 11).foldl (fun a i => a ^^^ (g >>> i)) 0

/-- COMMIT and RD as the other side sees them: behind two stages (R419). -/
def commitSeen (x : MBox) : Nat := fromGray x.cSync.2
def rdSeen (x : MBox) : Nat := fromGray x.rSync.2

/-- Entries that the reader sees committed, and entries that the writer sees free (R418, R419). -/
def mbHeld (x : MBox) : Nat := (commitSeen x + 2048 - x.rd) % 2048
def mbFree (x : MBox) : Nat := 1024 - (x.resv + 2048 - rdSeen x) % 2048

/-- The hub-side view: the hub reads an inbound queue and writes an outbound one (R417, R429). -/
def hubCommit (q : Nat) (x : MBox) : Nat := if inbound q then commitSeen x else x.commit
def hubRd (q : Nat) (x : MBox) : Nat := if inbound q then x.rd else rdSeen x
def hubHeld (q : Nat) (x : MBox) : Nat := (hubCommit q x + 2048 - hubRd q x) % 2048
/-- RESV as the hub sees it: its own of an outbound queue, the synchronised copy of an inbound one (R429). -/
def hubResv (q : Nat) (x : MBox) : Nat := if inbound q then fromGray x.vSync.2 else x.resv
/-- The hub-side full flag (R418). -/
def hubFull (q : Nat) (x : MBox) : Bool := hubResv q x % 2048 ^^^ hubRd q x == 1024

/-! ## The queue SRAM (R417) -/

/-- One entry read through the checker, and whether it was uncorrectable. -/
def mbGet (s : State) (q p : Nat) : State × List Byte × Bool :=
  let (s, d, u) := sramRead s (mboxGran q (p % 1024 / 2))
  (s, (d.drop (16 * (p % 2))).take 16, u)

/-- A granule of a queue written. -/
def mbStore (s : State) (q g : Nat) (d : List Byte) : State := setMbx (granulePut (freshCheck s g) g d) q (fun x => { x with wroteAt := s.now + 1 })

/-- One entry written, merged with its neighbour; nothing is written to an uncorrectable granule (R638). -/
def mbPut (s : State) (q p : Nat) (e : List Byte) : State × Bool :=
  let g := mboxGran q (p % 1024 / 2)
  let (s, d, u) := sramRead s g
  if u then (s, true) else (mbStore s q g (splice d (16 * (p % 2)) (fit e 16)), false)

/-- The header at the read pointer looked at, when the reader sees an entry (R421): the queue, the LENGTH of a packet that
is whole to it, and the header itself where it was uncorrectable (R262). -/
def mbWhole (s : State) (q : Nat) : State × Option Nat × Option (List Byte) :=
  let x := mbx s q
  if mbHeld x = 0 then (s, none, none)
  else
    let (s, h, u) := mbGet s q x.rd
    let n := bytesAt h 0 4 % 2048
    (s, if n ≤ mbHeld x then some n else none, if u then some h else none)

/-! ## Notices (R423-R426) -/

/-- Normal service (R423). -/
def mbNormal (s : State) : Bool := s.power == .ready || s.power == .run

/-- A queue's notice on its route; an outbound queue's goes to the Zeleri link. -/
def mbNotice (s : State) (q : Nat) : State :=
  let r := getReg s (mbBlk q) Off.MBOX_NOTICE_ROUTE
  if bitOf r 31 then
    let t := if inbound q then fieldOf r 15 0 else blk Ty.ZLINK 0
    setErr (sendNotice s (mbBlk q) t (fieldOf r 20 16) 1) (mbBlk q) Err.MBOX_NOTICE
  else s

/-- A queue moves on in a cc: COMMIT by one entry, each synchroniser by one stage (R419). -/
def MBox.advance (x : MBox) : MBox :=
  { x with commit := if x.commit = x.commitTo then x.commit else (x.commit + 1) % 2048,
           cSync := (toGray x.commit, x.cSync.1), rSync := (toGray x.rd, x.rSync.1), vSync := (toGray x.resv, x.vSync.1) }

/-- A queue at the end of a cc. A queue that becomes non-empty in the hub-side view starts its stale timer with the next
cc, an empty one stops it (R424); outside normal service the level notice fires (R425). -/
def mboxCc (s : State) (q : Nat) : State :=
  let x := mbx s q
  let y := x.advance
  if y = x then s
  else
    let before := hubHeld q x
    let after := hubHeld q y
    let s := setMbx s q (fun _ => { y with timer := if after = 0 then 0 else if before = 0 then s.now + 2 else y.timer })
    let n := getReg s (mbBlk q) Off.MBOX_NOTICE
    let level := max 1 (regField s (mbBlk q) Off.MBOX_LEVEL 10 0)
    if !mbNormal s && bitOf n 30 && decide (before < level) && decide (level ≤ after) then mbNotice s q else s

/-- The stale timer after a read (R424). -/
def mbAfterRead (q : Nat) (x : MBox) (now : Nat) : MBox :=
  { x with timer := if hubHeld q x = 0 then 0 else now + 1, noticed := false }

/-- STALE_CC in force (R584). -/
def staleCc (s : State) (q : Nat) : Nat := max 6400 (regField s (mbBlk q) Off.MBOX_NOTICE 23 0)

/-- The stale timer of a queue has a deadline before `t` that a read in cc `t` comes too late for (R102, R424). -/
def staleOver (s : State) (q t : Nat) : Bool :=
  let x := mbx s q
  mbNormal s && bitOf (getReg s (mbBlk q) Off.MBOX_NOTICE) 31 && decide (x.timer ≠ 0) && !x.noticed
    && decide (x.timer - 1 + staleCc s q + 3 ≤ t)

/-- The one stale notice of the queue (R424). -/
def staleFire (s : State) (q : Nat) : State := mbNotice (setMbx s q (fun x => { x with noticed := true })) q

/-- A read that arrived in cc `t` is about to be served: a timer that expired before it sends its notice first
(R102). -/
def staleFirst (s : State) (q t : Nat) : State := if staleOver s q t then staleFire s q else s

/-- A Zeleri read of the queue that arrived in time, and so wins, still waits for its slot (R102, R474). -/
def readWaits (s : State) (q : Nat) : Bool :=
  (s.zl.held ++ s.zl.admitted).any (fun t => t.ttype == 6 && t.addr == q && !staleOver s q (Assoc.getD 0 (256 * 6 + t.tag) s.zl.arrivals))

/-- STALE_TIMEOUT (R424, R102): decided three cc after the deadline. -/
def execStaleTimeout (q : Nat) (s : State) : Host.Outcome State Fault Refusal :=
  onUnit 128 q s fun s => if staleOver s q s.now && !readWaits s q then staleFire s q else s

/-- A change of power state (R426): every stale timer that runs starts again from zero. -/
def setPower (s : State) (p : Power) : State :=
  if s.power = p then s
  else { s with power := p, mboxes := s.mboxes.map (fun (q, x) => (q, { x with timer := if x.timer = 0 then 0 else s.now + 1 })) }

/-! ## Writer (R421) -/

/-- Open a packet: its header entry reserved, or the whole packet to be dropped. -/
def mbOpen (s : State) (q : Nat) : State :=
  let x := mbx s q
  if mbFree x = 0 then setErr (setMbx s q (fun x => { x with dropping := true })) (mbBlk q) Err.MBOX_OVERFLOW
  else setMbx s q (fun x => { x with isOpen := true, openAt := x.resv, resv := (x.resv + 1) % 2048, trunc := false })

/-- Append one entry to the open packet; the flag says that its granule was uncorrectable. -/
def mbAdd (s : State) (q : Nat) (e : List Byte) : State × Bool :=
  let x := mbx s q
  if x.dropping then (s, false)
  else if mbFree x = 0 then (setErr (setMbx s q (fun x => { x with trunc := true })) (mbBlk q) Err.MBOX_OVERFLOW, false)
  else
    let (s, u) := mbPut s q x.resv e
    (setMbx s q (fun x => { x with resv := (x.resv + 1) % 2048 }), u)

/-- Append two entries: one write where they fill a granule, which reads nothing (R417, R638). -/
def mbAddTwo (s : State) (q : Nat) (a b : List Byte) : State × Bool :=
  let x := mbx s q
  let g := mboxGran q (x.resv % 1024 / 2)
  if x.resv % 2 = 0 ∧ 2 ≤ mbFree x ∧ !x.dropping then
    (setMbx (mbStore s q g (fit a 16 ++ fit b 16)) q (fun x => { x with resv := (x.resv + 2) % 2048 }), false)
  else
    let (s, u) := mbAdd s q a
    let (s, w) := mbAdd s q b
    (s, u || w)

/-- Append a list of entries, two at a time. -/
def mbAddAll (s : State) (q : Nat) : List (List Byte) → State × Bool
  | [] => (s, false)
  | [e] => mbAdd s q e
  | a :: b :: l =>
    let (s, u) := mbAddTwo s q a b
    let (s, w) := mbAddAll s q l
    (s, u || w)

/-- Close the open packet: LENGTH and TRUNC, WRITER, and the commit through to RESV. -/
def mbClose (s : State) (q : Nat) (writer : List Byte) : State × Bool :=
  let x := mbx s q
  if x.dropping then (setMbx s q (fun x => { x with dropping := false }), false)
  else
    let n := (x.resv + 2048 - x.openAt) % 2048
    let (s, u) := mbPut s q x.openAt (leBytes 4 (b2n x.trunc * 2 ^ 31 + n) ++ fit writer 12)
    (setMbx s q (fun x => { x with isOpen := false, commitTo := x.resv }), u)

/-! ## Operations of port 10 (R422) -/

/-- A bad operation (R422): BAD_OP; a scheduled flit is dropped and faults. -/
def mbBad (s : State) (q : Nat) (scheduled : Bool) : State × Status :=
  let s := setErr s (mbBlk q) Err.MBOX_BAD_OP
  (if scheduled then raiseFault s (mbBlk q) 0x20 else s, 1)

/-- APPEND of one flit. -/
def mbAppend (s : State) (q : Nat) (data : List Byte) (scheduled : Bool) : State × Status :=
  if (mbx s q).fenced then (s, 4)
  else if inbound q then mbBad s q scheduled
  else
    let s := if (mbx s q).isOpen || (mbx s q).dropping then s else mbOpen s q
    let (s, u) := mbAddTwo s q (data.take 16) ((data.drop 16).take 16)
    (s, if u then 2 else 0)

/-- CLOSE. -/
def mbCloseOp (s : State) (q : Nat) (scheduled : Bool) : State × Status :=
  if (mbx s q).fenced then (s, 4)
  else if inbound q || !((mbx s q).isOpen || (mbx s q).dropping) then mbBad s q scheduled
  else
    let (s, u) := mbClose s q []
    (s, if u then 2 else 0)

/-- `n` entries read from a pointer on, each with whether it was uncorrectable. -/
def mbGets (s : State) (q p : Nat) : Nat → State × List (List Byte × Bool)
  | 0 => (s, [])
  | n + 1 =>
    let (s, e, u) := mbGet s q p
    let (s, l) := mbGets s q (p + 1) n
    (s, (e, u) :: l)

/-- Read `n` entries of the next whole packet, or the value last read for each (R420, R422); entries past the packet are
zero and stay. A header that is uncorrectable, and so tells of no whole packet, comes as it was read (R262). -/
def mbTake (s : State) (q n : Nat) : State × List (List Byte × Bool) :=
  let x := mbx s q
  match mbWhole s q with
  | (s, some len, _) =>
    let k := min n len
    let (s, got) := mbGets s q x.rd k
    let s := setMbx s q fun x =>
      mbAfterRead q { x with rd := (x.rd + k) % 2048, lastRead := (got.getLast?.map Prod.fst).getD x.lastRead } s.now
    (s, got ++ List.replicate (n - k) (List.replicate 16 0, false))
  | (s, none, some h) => (s, ((h, true) :: List.replicate n (fit x.lastRead 16, false)).take n)
  | (s, none, none) => (setErr s (mbBlk q) Err.MBOX_UNDERRUN, List.replicate n (fit x.lastRead 16, false))

/-- Entries as units of 32 bytes, each with whether either was uncorrectable. -/
def mbUnits : List (List Byte × Bool) → List (List Byte × Bool)
  | [] => []
  | [a] => [(a.1 ++ List.replicate 16 0, a.2)]
  | a :: b :: l => (a.1 ++ b.1, a.2 || b.2) :: mbUnits l

/-- READ of LEN + 1 flits: its units and its status. -/
def mbReadOp (s : State) (q len : Nat) : State × List (List Byte × Bool) × Status :=
  if (mbx s q).fenced then (s, [], 4)
  else if !inbound q then
    let (s, st) := mbBad s q false
    (s, [], st)
  else
    let (s, l) := mbTake (staleFirst s q s.now) q (2 * (len + 1))
    let u := mbUnits l
    (s, u, if u.any Prod.snd then 2 else 0)

/-- An APPEND of each unit of a request in turn; a unit found uncorrectable on the mesh is not appended (R311). -/
def mbAppends (s : State) (q : Nat) : List (List Byte × Bool) → State × Status
  | [] => (s, 0)
  | (d, bad) :: l =>
    let (s, st) := if bad then (s, 2) else mbAppend s q d false
    let (s, st') := mbAppends s q l
    (s, max st st')

/-- An unscheduled request at port 10 (R422): queue in ADDR [11:5], operation in [13:12], the rest zero. -/
def mbRequest (s : State) (p : Packet) : State × List (List Byte × Bool) × Status :=
  let q := fieldOf p.addr 11 5
  let op := fieldOf p.addr 13 12
  let plain (x : State × Status) : State × List (List Byte × Bool) × Status := (x.1, [], x.2)
  if p.addr % 32 ≠ 0 ∨ 2 ^ 14 ≤ p.addr then plain (mbBad s q false)
  else if op = 0 ∧ p.write then
    plain (mbAppends s q ((List.range (p.len + 1)).map (fun i => ((p.data.drop (32 * i)).take 32, p.badUnits.contains i))))
  else if op = 1 ∧ p.write then plain (mbCloseOp s q false)
  else if op = 2 ∧ !p.write then mbReadOp s q p.len
  else if (mbx s q).fenced then plain (s, 4)
  else plain (mbBad s q false)

/-- A scheduled flit at port 10 (R422): queue in KEY [6:0], operation in KEY [8:7]. -/
def mbFlit (s : State) (key : Nat) (data : List Byte) : State :=
  let q := fieldOf key 6 0
  let op := fieldOf key 8 7
  if op = 0 then (mbAppend s q data true).1
  else if op = 1 then (mbCloseOp s q true).1
  else if (mbx s q).fenced then s
  else (mbBad s q true).1

/-- APPEND (R422). -/
def execAppend (q : Nat) (data : BitVec 256) (scheduled : Bool) (s : State) : Host.Outcome State Fault Refusal :=
  onUnit 128 q s fun s => if hubUp s then (mbAppend s q (leBytes 32 data.toNat) scheduled).1 else s

/-- CLOSE (R422). -/
def execClose (q : Nat) (scheduled : Bool) (s : State) : Host.Outcome State Fault Refusal :=
  onUnit 128 q s fun s => if hubUp s then (mbCloseOp s q scheduled).1 else s

/-- READ (R422): what it returns is recorded as leaving towards its reader. -/
def execRead (q len : Nat) (s : State) : Host.Outcome State Fault Refusal :=
  onUnit 128 q s fun s =>
    if hubUp s then
      let (s, u, _) := mbReadOp s q (len % 256)
      if u = [] then s else addOut s (.mailRead q (u.map (fun x => BitVec.ofNat 256 (leNat x.1))))
    else s

end Sys2Proof.Machine
end

