-- ==== Sys2Proof/Machine/Slh.lean ====
section
/-! DEFINITION. SLH-DSA over SHAKE256 (FIPS 205), which R593, R594, R607 and R608 name: the parameter sets
SLH-DSA-SHAKE-256s and SLH-DSA-SHAKE-256f, key generation, signing in the deterministic variant and verification, with an
empty context. The algorithm stands in FIPS 205, not in the spec (PRESUMED, log entry 83). -/

namespace Sys2Proof.Machine

/-- A parameter set: layers d, height of a layer's tree h', height a and number k of the FORS trees, bytes m of the
digest. The security parameter n is 32 bytes and the Winternitz parameter w is 16. -/
structure SlhParams where
  d : Nat
  hp : Nat
  a : Nat
  k : Nat
  m : Nat

/-- SLH-DSA-SHAKE-256s and SLH-DSA-SHAKE-256f. -/
def slh256s : SlhParams := ⟨8, 8, 14, 22, 47⟩
def slh256f : SlhParams := ⟨17, 4, 9, 35, 49⟩

/-- Big-endian bytes of a number, and the number of big-endian bytes. -/
def beBytes (n x : Nat) : List Byte := (leBytes n x).reverse
def beNat (l : List Byte) : Nat := l.foldl (fun x b => 256 * x + b.toNat) 0

/-- An address: layer, tree, type and three words. -/
structure SlhAdrs where
  layer : Nat
  tree : Nat
  ty : Nat
  key : Nat
  w2 : Nat
  w3 : Nat

/-- Its 32 bytes. -/
def SlhAdrs.bytes (x : SlhAdrs) : List Byte :=
  beBytes 4 x.layer ++ beBytes 12 x.tree ++ beBytes 4 x.ty ++ beBytes 4 x.key ++ beBytes 4 x.w2 ++ beBytes 4 x.w3

/-- The hash functions F, H, T and PRF over 32 bytes of result. -/
def slhHash (seed : List Byte) (x : SlhAdrs) (m : List Byte) : List Byte := shake256 (seed ++ x.bytes ++ m) 32

/-- The first `n` digits of `b` bits of a byte string, most significant first. -/
def slhDigits (l : List Byte) (b n : Nat) : List Nat :=
  let x := beNat l
  let total := 8 * l.length
  (List.range n).map (fun i => x / 2 ^ (total - b * (i + 1)) % 2 ^ b)

/-- The 32-byte piece at a place of a signature. -/
def slhPiece (l : List Byte) (i : Nat) : List Byte := (l.drop (32 * i)).take 32

/-! ## WOTS+ -/

/-- `n` steps of a hash chain from step `i`. -/
def wotsChain (seed : List Byte) (x : SlhAdrs) : Nat → Nat → List Byte → List Byte
  | 0, _, v => v
  | n + 1, i, v => wotsChain seed x n (i + 1) (slhHash seed { x with w3 := i } v)

/-- The 67 digits of a message of 32 bytes: 64 of its own and three of its checksum. -/
def wotsDigits (m : List Byte) : List Nat :=
  let own := slhDigits m 4 64
  let sum := (own.map (fun v => 15 - v)).sum
  own ++ slhDigits (beBytes 2 (sum * 16)) 4 3

/-- Secret start of chain `i` of a key pair. -/
def wotsSecret (sk seed : List Byte) (x : SlhAdrs) (i : Nat) : List Byte :=
  slhHash seed { x with ty := 5, w2 := i, w3 := 0 } sk

/-- The public key that the ends of the chains make. -/
def wotsPack (seed : List Byte) (x : SlhAdrs) (ends : List (List Byte)) : List Byte :=
  slhHash seed { x with ty := 1, w2 := 0, w3 := 0 } ends.flatten

/-- The chain address of chain `i`. -/
def wotsAt (x : SlhAdrs) (i : Nat) : SlhAdrs := { x with ty := 0, w2 := i, w3 := 0 }

/-- A public key from its secret, a signature, and the public key a signature stands for. -/
def wotsPublic (sk seed : List Byte) (x : SlhAdrs) : List Byte :=
  wotsPack seed x ((List.range 67).map (fun i => wotsChain seed (wotsAt x i) 15 0 (wotsSecret sk seed x i)))
def wotsSign (m sk seed : List Byte) (x : SlhAdrs) : List Byte :=
  ((wotsDigits m).zipIdx.map (fun (v, i) => wotsChain seed (wotsAt x i) v 0 (wotsSecret sk seed x i))).flatten
def wotsOpen (sig m seed : List Byte) (x : SlhAdrs) : List Byte :=
  wotsPack seed x ((wotsDigits m).zipIdx.map (fun (v, i) => wotsChain seed (wotsAt x i) (15 - v) v (slhPiece sig i)))

/-! ## Merkle trees -/

/-- The node at height `z` and index `i` of a tree of WOTS+ keys. -/
def xmssNode (sk seed : List Byte) (x : SlhAdrs) : Nat → Nat → List Byte
  | 0, i => wotsPublic sk seed { x with key := i }
  | z + 1, i =>
    slhHash seed { x with ty := 2, key := 0, w2 := z + 1, w3 := i } (xmssNode sk seed x z (2 * i) ++ xmssNode sk seed x z (2 * i + 1))

/-- The root that a leaf and its authentication path stand for: `n` levels above height `z`; `at_` gives the address of
the node of a height and index. -/
def climb (seed : List Byte) (at_ : Nat → Nat → SlhAdrs) (auth : List Byte) : Nat → Nat → Nat → List Byte → List Byte
  | 0, _, _, v => v
  | n + 1, z, i, v =>
    let s := slhPiece auth z
    climb seed at_ auth n (z + 1) (i / 2) (slhHash seed (at_ (z + 1) (i / 2)) (if i % 2 = 0 then v ++ s else s ++ v))

/-- A message signed with leaf `i` of a tree, and the root that a signature stands for. -/
def xmssSign (p : SlhParams) (m sk seed : List Byte) (x : SlhAdrs) (i : Nat) : List Byte :=
  wotsSign m sk seed { x with key := i } ++ ((List.range p.hp).map (fun j => xmssNode sk seed x j ((i / 2 ^ j) ^^^ 1))).flatten
def xmssOpen (p : SlhParams) (sig m seed : List Byte) (x : SlhAdrs) (i : Nat) : List Byte :=
  climb seed (fun z k => { x with ty := 2, key := 0, w2 := z, w3 := k }) (sig.drop (32 * 67)) p.hp 0 i
    (wotsOpen sig m seed { x with key := i })

/-! ## The hypertree -/

/-- Layers `j` on, `n` of them: the signature of a message by the tree and leaf of the lowest. -/
def treeSign (p : SlhParams) (sk seed : List Byte) : Nat → Nat → List Byte → Nat → Nat → List Byte
  | 0, _, _, _, _ => []
  | n + 1, j, m, tree, leaf =>
    let x : SlhAdrs := ⟨j, tree, 0, 0, 0, 0⟩
    let sig := xmssSign p m sk seed x leaf
    sig ++ treeSign p sk seed n (j + 1) (xmssOpen p sig m seed x leaf) (tree / 2 ^ p.hp) (tree % 2 ^ p.hp)
/-- The root that such a signature stands for. -/
def treeOpen (p : SlhParams) (seed : List Byte) : Nat → Nat → List Byte → List Byte → Nat → Nat → List Byte
  | 0, _, m, _, _, _ => m
  | n + 1, j, m, sig, tree, leaf =>
    treeOpen p seed n (j + 1) (xmssOpen p sig m seed ⟨j, tree, 0, 0, 0, 0⟩ leaf) (sig.drop (32 * (67 + p.hp)))
      (tree / 2 ^ p.hp) (tree % 2 ^ p.hp)

/-! ## FORS -/

/-- A secret of the FORS trees of a key pair, and the node at height `z` and index `i`. -/
def forsSecret (sk seed : List Byte) (x : SlhAdrs) (i : Nat) : List Byte := slhHash seed { x with ty := 6, w2 := 0, w3 := i } sk
def forsNode (sk seed : List Byte) (x : SlhAdrs) : Nat → Nat → List Byte
  | 0, i => slhHash seed { x with ty := 3, w2 := 0, w3 := i } (forsSecret sk seed x i)
  | z + 1, i => slhHash seed { x with ty := 3, w2 := z + 1, w3 := i } (forsNode sk seed x z (2 * i) ++ forsNode sk seed x z (2 * i + 1))

/-- The signature of a digest, and the public key that one stands for. -/
def forsSign (p : SlhParams) (md sk seed : List Byte) (x : SlhAdrs) : List Byte :=
  ((slhDigits md p.a p.k).zipIdx.map (fun (v, i) =>
    forsSecret sk seed x (i * 2 ^ p.a + v)
      ++ ((List.range p.a).map (fun j => forsNode sk seed x j (i * 2 ^ (p.a - j) + ((v / 2 ^ j) ^^^ 1)))).flatten)).flatten
def forsOpen (p : SlhParams) (sig md seed : List Byte) (x : SlhAdrs) : List Byte :=
  let roots := (slhDigits md p.a p.k).zipIdx.map fun (v, i) =>
    let part := sig.drop (32 * (p.a + 1) * i)
    let leaf := i * 2 ^ p.a + v
    climb seed (fun z n => { x with ty := 3, w2 := z, w3 := n }) (part.drop 32) p.a 0 leaf
      (slhHash seed { x with ty := 3, w2 := 0, w3 := leaf } (part.take 32))
  slhHash seed { x with ty := 4, w2 := 0, w3 := 0 } roots.flatten

/-! ## SLH-DSA -/

/-- The root of the highest tree, which a public key names after its seed. -/
def slhRoot (p : SlhParams) (sk seed : List Byte) : List Byte := xmssNode sk seed ⟨p.d - 1, 0, 0, 0, 0, 0⟩ p.hp 0

/-- The parts of a message digest: the FORS digest, the tree and the leaf. -/
def slhParts (p : SlhParams) (dg : List Byte) : List Byte × Nat × Nat :=
  let h := p.d * p.hp
  let n1 := ceilDiv (p.k * p.a) 8
  let n2 := ceilDiv (h - p.hp) 8
  (dg.take n1, beNat ((dg.drop n1).take n2) % 2 ^ (h - p.hp), beNat ((dg.drop (n1 + n2)).take (ceilDiv p.hp 8)) % 2 ^ p.hp)

/-- The message with its empty context. -/
def slhMessage (m : List Byte) : List Byte := [0, 0] ++ m

/-- Bytes of a signature. -/
def slhSigBytes (p : SlhParams) : Nat := 32 * (1 + p.k * (p.a + 1) + p.d * (67 + p.hp))

/-- slh_verify: does the signature stand for the message under the 64-byte key? -/
def slhVerify (p : SlhParams) (key m sig : List Byte) : Bool :=
  let seed := key.take 32
  let root := (key.drop 32).take 32
  let r := sig.take 32
  let (md, tree, leaf) := slhParts p (shake256 (r ++ seed ++ root ++ slhMessage m) p.m)
  let pk := forsOpen p (sig.drop 32) md seed ⟨0, tree, 0, leaf, 0, 0⟩
  sig.length == slhSigBytes p && treeOpen p seed p.d 0 pk (sig.drop (32 * (1 + p.k * (p.a + 1)))) tree leaf == root

/-- slh_sign in the deterministic variant, from SK.seed, SK.prf and PK.seed. -/
def slhSign (p : SlhParams) (sk prf seed m : List Byte) : List Byte :=
  let root := slhRoot p sk seed
  let r := shake256 (prf ++ seed ++ slhMessage m) 32
  let (md, tree, leaf) := slhParts p (shake256 (r ++ seed ++ root ++ slhMessage m) p.m)
  let x : SlhAdrs := ⟨0, tree, 0, leaf, 0, 0⟩
  let fs := forsSign p md sk seed x
  r ++ fs ++ treeSign p sk seed p.d 0 (forsOpen p fs md seed x) tree leaf

end Sys2Proof.Machine
end

