-- ==== Sys2Proof/Machine/Firmware.lean ====
section
/-! DEFINITION. Firmware units and images (R592-R594), staging and activation (R597-R599), boot and trial
(R600-R603), recovery (R604), the control processors (R605) and attestation (R607-R609). -/

namespace Sys2Proof.Machine

/-! ## Images -/

/-- A firmware unit by its code 1-6. -/
def fwUnit (s : State) (u : Nat) : FwUnit := Assoc.getD FwUnit.init u s.fw.units
def setFwUnit (s : State) (u : Nat) (f : FwUnit → FwUnit) : State :=
  setFw s (fun x => { x with units := Assoc.put u (some (f (Assoc.getD FwUnit.init u x.units))) x.units })

/-- The slots of the units 1-6 in flash (R592, R595): offset of the first of the two, and bytes of each. -/
def flashSlots : List (Nat × Nat) :=
  [(0x00200000, 0x0400000), (0x00A00000, 0x1000000), (0x02A00000, 0x0800000), (0x03A00000, 0x0800000),
   (0x04A00000, 0x0800000), (0x05A00000, 0x0400000)]
/-- Bytes of a unit's slot. -/
def slotSize (u : Nat) : Nat := (flashSlots.getD (u - 1) (0, 0)).2

/-- The 256-byte header of an image. -/
def imageHeader (u : Nat) (i : Image) : List Byte := fit (if i.factory then Config.factoryHeader u else i.bytes) 256
/-- Header fields (R593). -/
def imageRollback (u : Nat) (i : Image) : Nat := bytesAt (imageHeader u i) 0x0A 2
def imageVersion (u : Nat) (i : Image) : Nat := bytesAt (imageHeader u i) 0x0C 4

/-- R594 check 1: MAGIC, HDR_VERSION and the reserved fields. -/
def headerOk (h : List Byte) : Bool :=
  bytesAt h 0 4 == 0x57465A4B && bytesAt h 4 2 == 1 && bytesAt h 0x14 12 == 0 && bytesAt h 0x60 160 == 0

/-- Bytes of an image by its header. -/
def imageSize (h : List Byte) : Nat := 256 + bytesAt h 0x10 4 + 29792

/-- The checks of R594 on the bytes of an image, as codes of R604: 0 valid, 1 signature or digest (or its
key), 2 header, 3 rollback floor. -/
def imageCheck (s : State) (u : Nat) (b : List Byte) : Nat :=
  let h := b.take 256
  let n := bytesAt h 0x10 4
  let key := bytesAt h 7 1
  if !headerOk h || bytesAt h 6 1 != u || (h.drop 8).take 2 != siliconSet then 2
  else if slotSize u < imageSize h || n % 64 != 0 || decide (b.length < imageSize h) then 2
  else if 2 ≤ key || s.fw.revoked.testBit key then 1
  else if bytesAt h 0x0A 2 < (fwUnit s u).floor then 3
  else if shake256 ((b.drop 256).take n) 64 != (h.drop 0x20).take 64 then 1
  else if slhVerify slh256s ((Config.firmwareKey key ++ List.replicate 64 0).take 64) h ((b.drop (256 + n)).take 29792) then 0
  else 1

/-- Is there a valid image in a slot (R594)? The factory's own is as it was shipped, with good header, digest and signature
(log entry 9): a revoked key and a raised floor reject it too. -/
def imageValid (s : State) (u : Nat) (i : Option Image) : Bool :=
  match i with
  | some x =>
    if x.factory then
      (s.fw.revoked == 0 || !s.fw.revoked.testBit (bytesAt (imageHeader u x) 7 1)) && decide ((fwUnit s u).floor ≤ imageRollback u x)
    else imageCheck s u x.bytes == 0
  | none => false

/-- The image index as it stands goes to flash, one copy after the other (R595), or is held while the hub's temperature
forbids flash writes (R596). -/
def indexPut (s : State) : State :=
  if flashWritable s then
    let s := setFw s (fun f => { f with indexA := indexRecord f })
    setFw s (fun f => { f with indexB := indexRecord f, heldIndex := false })
  else setFw s (fun f => { f with heldIndex := true })

/-- The active and the other slot of a unit. -/
def activeSlot (x : FwUnit) : Option Image := if x.activeB then x.slotB else x.slotA
def otherSlot (x : FwUnit) : Option Image := if x.activeB then x.slotA else x.slotB
def putOther (x : FwUnit) (i : Image) : FwUnit := if x.activeB then { x with slotA := some i } else { x with slotB := some i }

/-! ## Rollback floors (R602) -/

/-- Raise a unit's floor to the thermometer code of `r0`, at most 63: fuses are blown in the write range, else the raise
is held. -/
def raiseFloor (s : State) (u r0 : Nat) : State :=
  let r := min 63 r0
  if r ≤ (fwUnit s u).floor then s
  else if flashWritable s then setFwUnit s u (fun x => { x with floor := r, heldFloor := none })
  else setFwUnit s u (fun x => { x with heldFloor := some (max r (x.heldFloor.getD 0)) })

/-- HELD_WRITE (R596): what is held is written once the hub is in the write range. -/
def writeHeld (s : State) : State :=
  let s := setShape s (fun h => { h with fieldDefects := h.fieldDefects ++ h.heldDefects, heldDefects := [] })
  let s := setFw s (fun f => { f with ucalFlash := if f.heldUcal then s.th.ucal else f.ucalFlash, heldUcal := false })
  let s := setFw s (fun f => { f with units := f.units.map (fun (k, u) => (k, { u with floor := max u.floor (u.heldFloor.getD 0), heldFloor := none })) })
  if s.fw.heldIndex then setFw s (fun f => { f with indexA := indexRecord f, indexB := indexRecord f, heldIndex := false }) else s

def execHeldWrite (s : State) : Host.Outcome State Fault Refusal :=
  .next (if hubUp s && flashWritable s then writeHeld s else s)

/-! ## Boot (R600, R603) -/

/-- The image that a unit runs after a boot, and the unit afterwards; no image means recovery. -/
def bootUnit (s : State) (u : Nat) (x : FwUnit) : FwUnit × Option Image × Bool :=
  if u ≤ 2 then
    let pick (x : FwUnit) : FwUnit × Option Image × Bool :=
      if imageValid s u (activeSlot x) then (x, activeSlot x, false)
      else if imageValid s u (otherSlot x) then ({ x with activeB := !x.activeB, other := 3 }, otherSlot x, false)
      else (x, none, false)
    if x.other = 2 then
      if imageValid s u (otherSlot x) then (x, otherSlot x, true) else pick { x with other := 3 }
    else pick x
  else if x.other = 4 then
    if imageValid s u x.slotB then ({ x with slotA := x.slotB, other := 0 }, x.slotB, false)
    else ({ x with other := 3 }, none, false)
  else if imageValid s u x.slotA then (x, x.slotA, false) else (x, none, false)

/-- One unit booted: its measurement and version, and the processor that runs it. -/
def bootOne (s : State) (u : Nat) : State :=
  let (x, i, trial) := bootUnit s u (fwUnit s u)
  let x := match i with
    | some m => { x with version := imageVersion u m, measure := shake256 (imageHeader u m) 64, missing := false }
    | none => { x with version := 0, measure := [], missing := true }
  let p : Proc := ⟨trial, false, false, x.activeB != trial, s.now + 1, s.now + 1⟩
  let s := setFwUnit s u (fun _ => x)
  if u = 1 then setFw s (fun f => { f with boot := p }) else if u = 2 then setFw s (fun f => { f with mgmt := p }) else s

/-- Step 2 of a bring-up (R600, R603): every unit in code order, then the chain C; recovery when one has no
valid image. -/
def bootFirmware (s0 : State) : State :=
  let s := (List.range 6).foldl (fun s k => bootOne s (k + 1)) s0
  let chain := (List.range 6).foldl (fun c k => shake256 (c ++ fit (fwUnit s (k + 1)).measure 64) 64) (List.replicate 64 0)
  let old := indexRecord s0.fw
  let s := if indexRecord s.fw = old then s else indexPut s
  setFw s (fun f =>
    { f with chain := chain, busy := false, armed := false, code := 0, attBusy := false, attCode := 0, attLen := 0,
             recovery := (List.range 6).any (fun k => (fwUnit s (k + 1)).missing) })

/-! ## Staging and activation -/

/-- The FLASH block's entry. -/
def flash : Nat := blk Ty.FLASH 0

/-- The two words of a 48-bit address or frame register. -/
def pairReg (s : State) (b lo hi : Nat) : Nat := getReg s b lo + 2 ^ 32 * getReg s b hi

/-- A span inside populated SLM scratchpad or direct DRAM (R597). -/
def storeSpan (s : State) (a n : Nat) (dram : Bool) : Bool :=
  (granulesOf a (max n 1)).all fun i => populated s (32 * i) && (match placeOf (32 * i) with
    | .slm _ => true
    | .dram _ _ => dram
    | _ => false)

def flCode (s : State) (c : Nat) : State := setFw s (fun f => { f with code := c })

/-- STAGE (R597): refusals that need no data come at once. -/
def stageAct (s : State) (unit : Nat) : State :=
  if !hubUp s then s
    else if s.fw.busy then flCode s 6
    else if !flashWritable s then flCode s 1
    else if unit = 0 ∨ 6 < unit then setErr (flCode s 3) flash Err.FLASH_STAGE_FAIL
    else if (fwUnit s unit).other = 2 then flCode s 4
    else if s.fw.armed then flCode s 5
    else setFw s (fun f => { f with busy := true, stageUnit := unit })
def execStage (unit : Nat) (s : State) : Host.Outcome State Fault Refusal := .next (stageAct s unit)

/-- STAGE_COMPLETE (R597). -/
def execStageComplete (verifyError : Bool) (s : State) : Host.Outcome State Fault Refusal :=
  .next (if hubUp s && s.fw.busy then
    let s := setFw s (fun f => { f with busy := false })
    let u := s.fw.stageUnit
    let a := pairReg s flash Off.FLASH_FL_SRC_LO Off.FLASH_FL_SRC_HI
    let n := getReg s flash Off.FLASH_FL_LEN
    if !storeSpan s a n true then setErr (flCode s 2) flash Err.FLASH_STAGE_FAIL
    else
      let (s, b, _) := memRead s a n
      let h := b.take 256
      if !headerOk h || bytesAt h 6 1 != u || decide (slotSize u < max n (imageSize h)) then setErr (flCode s 3) flash Err.FLASH_STAGE_FAIL
      else if verifyError then setErr (flCode s 8) flash Err.FLASH_STAGE_FAIL
      else indexPut (setFwUnit (flCode s 0) u (fun x => { (putOther x ⟨b, false⟩) with other := 1 }))
  else s)

/-- ARM (R598). -/
def armAct (s : State) : State :=
  if !hubUp s then s
    else if s.fw.busy then flCode s 6
    else if s.fw.armed then flCode s 5
    else if frameLater s.ft.frame (pairReg s flash Off.FLASH_ACT_FRAME_LO Off.FLASH_ACT_FRAME_HI) then
      setFw s (fun f => { f with armed := true, code := 0 })
    else flCode s 7
def execArm (s : State) : Host.Outcome State Fault Refusal := .next (armAct s)

/-- DISARM (R598). -/
def disarmAct (s : State) : State :=
  if !hubUp s then s else if s.fw.busy then flCode s 6 else setFw s (fun f => { f with armed := false, code := 0 })
def execDisarm (s : State) : Host.Outcome State Fault Refusal := .next (disarmAct s)

/-- ACTIVATION (R599) at cc 0 of the boundary slot of ACT_FRAME. -/
def execActivation (s : State) : Host.Outcome State Fault Refusal :=
  .next (if stacksUp s && (s.power == .ready || s.power == .run) && s.fw.armed && decide (pos s = 0)
      && decide (s.ft.frame = pairReg s flash Off.FLASH_ACT_FRAME_LO Off.FLASH_ACT_FRAME_HI) then
    let cancel (c : Nat) : State :=
      setErr (setFw s (fun f => { f with armed := false, code := c })) flash Err.FLASH_ACT_CANCELLED
    if s.ft.pstate ≠ 0 then cancel 9
    else if !flashWritable s then cancel 10
    else
      let s := wearWriteFree (writeHeld s)
      let s := setFw s (fun f =>
        { f with armed := false, units := f.units.map (fun (k, u) => (k, if u.other = 1 then { u with other := if k ≤ 2 then 2 else 4 } else u)) })
      enterHold (indexPut s) 3 .hold
  else s)

/-! ## Control processors -/

/-- Facet and firmware unit of processor 0 (boot) or 1 (management). -/
def procBlk (p : Nat) : Nat := if p = 0 then blk Ty.BOOTP 0 else blk Ty.MGMTP 0
def procOf (s : State) (p : Nat) : Proc := if p = 0 then s.fw.boot else s.fw.mgmt
def setProc (s : State) (p : Nat) (f : Proc → Proc) : State :=
  setFw s (fun x => if p = 0 then { x with boot := f x.boot } else { x with mgmt := f x.mgmt })

/-- Does the processor run its firmware? -/
def procUp (s : State) (p : Nat) : Bool := hubUp s && decide ((procOf s p).wdogAt ≠ 0) && !(fwUnit s (p + 1)).missing

/-- A restart of a processor (R601, R605): one that runs an unconfirmed trial image falls back to the
previous active slot; another starts its active image again. -/
def restartProc (s : State) (p : Nat) : State :=
  let u := p + 1
  let x := procOf s p
  if x.trial && !x.healthy then
    let s := indexPut (setFwUnit s u (fun f => { f with other := 3, version := (activeSlot f).elim 0 (imageVersion u) }))
    let s := setProc s p (fun _ => ⟨false, false, true, (fwUnit s u).activeB, s.now + 1, s.now + 1⟩)
    setErr s (procBlk p) Err.BOOTP_FALLBACK
  else setProc s p (fun x => { x with healthy := false, fellBack := false, wdogAt := s.now + 1 })

/-- HEALTH (R601): only the processor's own write of 0x0000A5C3 within 30 s counts. -/
def healthAct (s : State) (who : Requester) (p word : Nat) : State :=
  let own := if p = 0 then who == .boot else who == .mgmt
  let x := procOf s p
  let u := p + 1
  if procUp s p && own && word == 0xA5C3 then
    if x.trial then
      if s.now < x.healthAt - 1 + 30 * cc1s + 3 then
        let s := setProc s p (fun x => { x with trial := false, healthy := true })
        let img := otherSlot (fwUnit s u)
        let s := indexPut (setFwUnit s u (fun f => { f with activeB := !f.activeB, other := 0 }))
        raiseFloor s u (img.elim 0 (imageRollback u))
      else s
    else setProc s p (fun x => { x with healthy := true })
  else s
def execHealth (who : Requester) (p : Nat) (word : Word) (s : State) : Host.Outcome State Fault Refusal :=
  onUnit 2 p s fun s => healthAct s who p word.toNat

/-- HEALTH_TIMEOUT (R601, R102). -/
def execHealthTimeout (p : Nat) (s : State) : Host.Outcome State Fault Refusal :=
  onUnit 2 p s fun s =>
    let x := procOf s p
    if procUp s p && x.trial && !x.healthy && decide (x.healthAt - 1 + 30 * cc1s + 3 ≤ s.now) then restartProc s p else s

/-- Watchdog period in cc (R611). -/
def wdogPeriod (s : State) (p : Nat) : Nat := cc1ms * max 10 (min 10000 (regField s (procBlk p) Off.BOOTP_WDOG 15 0))

/-- WATCHDOG_EXPIRY (R605): the processor restarts; cause 0x33 while a program runs, else a notice. -/
def execWatchdogExpiry (p : Nat) (s : State) : Host.Outcome State Fault Refusal :=
  onUnit 2 p s fun s =>
    if procUp s p && decide ((procOf s p).wdogAt - 1 + wdogPeriod s p + 3 ≤ s.now) then
      errFault (restartProc s p) (procBlk p) Err.BOOTP_WDOG_EXPIRED 0x33
    else s

/-- WDOG_KICK (R605): one that comes after the deadline and its two cc has lost to the watchdog (R102). -/
def kickAct (s : State) (p : Nat) : State :=
  if procUp s p && decide (s.now < (procOf s p).wdogAt - 1 + wdogPeriod s p + 3) then setProc s p (fun x => { x with wdogAt := s.now + 1 }) else s
def execWdogKick (p : Nat) (s : State) : Host.Outcome State Fault Refusal := onUnit 2 p s fun s => kickAct s p

/-- PROCESSOR_MEMORY_UNCORR (R605, R277). -/
def execProcessorMemoryUncorr (p : Nat) (s : State) : Host.Outcome State Fault Refusal :=
  onUnit 2 p s fun s => if procUp s p then errFault (restartProc s p) (procBlk p) Err.CTRL_UNCORR 0x33 else s

/-! ## Recovery (R604) -/

/-- The body entry of the request that waits whole in MBOX 0. -/
def recoveryRequest (s : State) : Option (List Byte) :=
  if s.fw.recovery then (mbWhole s 0).2.1.map (fun _ => (mbGet s 0 ((mbx s 0).rd + 1)).2.1) else none

/-- MISSING. -/
def missingUnits (s : State) : Nat := ((List.range 6).map (fun k => if (fwUnit s (k + 1)).missing then 2 ^ (k + 1) else 0)).sum

/-- The request is taken and answered through MBOX 64. -/
def recoveryReply (s : State) (op code : Nat) : State :=
  let s := (mbTake s 0 ((mbWhole s 0).2.1.getD 0)).1
  let e := leBytes 1 op ++ leBytes 1 code ++ leBytes 2 0 ++ leBytes 4 (missingUnits s) ++ List.replicate 8 0
  (mbClose (mbAdd (mbOpen s 64) 64 e).1 64 []).1

/-- RECOVERY_STATUS; a reserved opcode is answered with code 6. -/
def execRecoveryStatus (s : State) : Host.Outcome State Fault Refusal :=
  .next (match recoveryRequest s with
    | some e =>
      let op := bytesAt e 0 1
      if op = 2 ∨ op = 3 then s else recoveryReply s op (if op = 1 then 0 else 6)
    | none => s)

/-- RECOVERY_LOAD. -/
def execRecoveryLoad (flashError : Bool) (s : State) : Host.Outcome State Fault Refusal :=
  .next (match recoveryRequest s with
    | some e =>
      let u := bytesAt e 1 1
      let a := bytesAt e 8 8
      if bytesAt e 0 1 ≠ 2 then s
      else if u = 0 ∨ 6 < u ∨ !storeSpan s a 256 false then recoveryReply s 2 2
      else
        let (s, h, _) := memRead s a 256
        let n := imageSize h
        if !storeSpan s a n false then recoveryReply s 2 2
        else
          let (s, b, _) := memRead s a n
          let c := imageCheck s u b
          if c ≠ 0 then recoveryReply s 2 c
          else if !flashWritable s then recoveryReply s 2 4
          else if flashError then recoveryReply s 2 5
          else
            let img : Image := ⟨b, false⟩
            let x := fwUnit s u
            let y := if 2 < u then { x with slotA := some img }
              else if imageValid s u x.slotA || imageValid s u x.slotB then
                { (putOther x img) with activeB := !x.activeB, other := 0 }
              else { x with slotA := some img, activeB := false, other := 0 }
            recoveryReply (indexPut (setFwUnit s u (fun _ => { y with missing := false }))) 2 0
    | none => s)

/-- RECOVERY_RESTART: a bring-up begins at step 1, warm when DRAM is retained. -/
def execRecoveryRestart (s : State) : Host.Outcome State Fault Refusal :=
  .next (match recoveryRequest s with
    | some e =>
      if bytesAt e 0 1 = 3 then
        let s := recoveryReply s 3 0
        setFw (setShape (setSup s (fun u => { u with coreOff := true })) (fun h => { h with step := 1, warm := s.sup.retained })) (fun f => { f with recovery := false })
      else s
    | none => s)

/-! ## Attestation -/

/-- The SECENG block's entry. -/
def seceng : Nat := blk Ty.SECENG 0

/-- A command of ATT_CMD (R609): accepted, or ignored with CODE 2 while one runs. -/
def attStart (s : State) (cmd : Nat) : State :=
  if !hubUp s then s
  else if s.fw.attBusy then setFw s (fun f => { f with attCode := 2 })
  else setFw s (fun f =>
    { f with attBusy := true, attCmd := cmd, attFrame := s.ft.frame, attShape := shake256 (coreMap s ++ portVector s) 64 })

def execAttEvidence (s : State) : Host.Outcome State Fault Refusal := .next (attStart s 1)
def execAttCertificates (s : State) : Host.Outcome State Fault Refusal := .next (attStart s 2)
def execAttPublicKey (s : State) : Host.Outcome State Fault Refusal := .next (attStart s 3)

/-- The key material of R607. -/
def attSeed : List Byte := shake256 (leBytes 32 Config.identitySeed.toNat ++ leBytes 4 1) 96

/-- SK.seed, SK.prf and PK.seed, and the public key: PK.seed and the root (R607). -/
def attPart (k : Nat) : List Byte := (attSeed.drop (32 * k)).take 32
def attPublic : List Byte := attPart 2 ++ slhRoot slh256f (attPart 0) (attPart 2)

/-- The evidence record over a nonce (R608). -/
def evidence (s : State) (nonce : List Byte) : List Byte :=
  let u (k : Nat) : FwUnit := fwUnit s (k + 1)
  let body := leBytes 4 0x56455A4B ++ leBytes 2 1 ++ leBytes 2 1 ++ fit nonce 32 ++ leBytes 8 s.fw.attFrame
    ++ leBytes 4 s.shape.buildCount ++ leBytes 2 s.shape.level ++ leBytes 2 0 ++ fit s.fw.attShape 64
    ++ ((List.range 6).map (fun k => fit (u k).measure 64)).flatten ++ fit s.fw.chain 64
    ++ ((List.range 6).map (fun k => leBytes 4 (u k).version)).flatten
    ++ ((List.range 6).map (fun k => leBytes 2 (u k).floor)).flatten ++ leBytes 4 0 ++ identitySection s
  body ++ fit (slhSign slh256f (attPart 0) (attPart 1) (attPart 2) body) 49856

/-- ATTESTATION_COMPLETE (R609): the result is written to SLM scratchpad, or CODE 1. -/
def execAttestationComplete (s : State) : Host.Outcome State Fault Refusal :=
  .next (if hubUp s && s.fw.attBusy then
    let a := pairReg s seceng Off.SECENG_ATT_ADDR_LO Off.SECENG_ATT_ADDR_HI
    let (s, nonce) := if s.fw.attCmd = 1 ∧ storeSpan s a 32 false then
        let (s1, d, _) := memRead s a 32
        (s1, d)
      else (s, [])
    let r := if s.fw.attCmd = 1 then evidence s nonce else if s.fw.attCmd = 2 then Config.certChain else fit attPublic 64
    let s := setFw s (fun f => { f with attBusy := false })
    if storeSpan s a r.length false then
      setFw (memWrite s a r true).1 (fun f => { f with attCode := 0, attLen := r.length })
    else setErr (setFw s (fun f => { f with attCode := 1, attLen := 0 })) seceng Err.SECENG_ATT_FAIL
  else s)

end Sys2Proof.Machine
end

