-- ==== Sys2Proof/Machine/Tables.lean ====
section
/-! DEFINITION. Function tables of the finishers (R178, R179, R189-R191, R193), the device
exponential (R175), the online-softmax row (R180) and the softmax merge (R186). The coefficients of
the built-in tables are the FP32 roundings of exact real values (R190): here the real values are
computed to 256 fractional bits, far below any rounding boundary of an FP32 result. -/

namespace Sys2Proof.Machine

/-! ## Real functions to 256 fractional bits -/

/-- Fractional bits of the fixed-point numbers below. -/
def fxP : Nat := 256
/-- One, in fixed point. -/
def fxOne : Nat := 2 ^ fxP

/-- Sum of the series term, term × x / n, … until `fuel` terms: with term = 1 and n = 1, e^x. -/
def fxExpGo : Nat → Nat → Nat → Nat → Nat → Nat
  | 0, _, _, _, acc => acc
  | k + 1, x, n, term, acc =>
    let t := term * x / fxOne / n
    fxExpGo k x (n + 1) t (acc + t)

/-- e^x for x ≥ 0. -/
def fxExp (x : Nat) : Nat := fxExpGo 260 x 1 fxOne fxOne

/-- e^x for any sign. -/
def fxExpS (x : Int) : Nat := if 0 ≤ x then fxExp x.toNat else fxOne * fxOne / fxExp (-x).toNat

/-- The series of atanh(1/n), or with `alt` of atan(1/n): 1/n ± 1/(3n³) + 1/(5n⁵) ± … . -/
def fxAtanGo (alt : Bool) (n : Nat) : Nat → Nat → Nat → Int → Int
  | 0, _, _, acc => acc
  | k + 1, d, p, acc =>
    let t : Int := (p / d : Nat)
    fxAtanGo alt n k (d + 2) (p / (n * n)) (if alt && d % 4 == 3 then acc - t else acc + t)

/-- ln 2 = 2 atanh(1/3). -/
def fxLn2 : Nat := (2 * fxAtanGo false 3 90 1 (fxOne / 3) 0).toNat
/-- π by Machin's formula. -/
def fxPi : Nat := (4 * (4 * fxAtanGo true 5 60 1 (fxOne / 5) 0 - fxAtanGo true 239 30 1 (fxOne / 239) 0)).toNat

/-- Signed product and quotient. -/
def fxMul (a b : Int) : Int := a * b / (fxOne : Int)
def fxDiv (a b : Int) : Int := a * (fxOne : Int) / b

/-- The normal density φ(x). -/
def fxPhi (x : Int) : Int :=
  let e : Int := fxExpS (-(fxMul x x) / 2)
  fxDiv e (isqrtBits (fxP + 2) (2 * fxPi * fxOne) 0 : Nat)

/-- The sum x + x³/3 + x⁵/(3·5) + … . -/
def fxCdfGo : Nat → Int → Nat → Int → Int → Int
  | 0, _, _, _, acc => acc
  | k + 1, x2, n, term, acc =>
    let t := fxMul term x2 / (n : Int)
    fxCdfGo k x2 (n + 2) t (acc + t)

/-- The normal distribution function Φ(x). -/
def fxCdf (x : Int) : Int := (fxOne : Int) / 2 + fxMul (fxPhi x) (fxCdfGo 320 (fxMul x x) 3 x x)

/-- A fixed-point number rounded to FP32 (RN of R190). -/
def fxRN (v : Int) : Nat := toF32 (.fin (decide (v < 0)) v.natAbs (-(fxP : Int)))

/-! ## Tables -/

/-- A function table (R178): FP32 codes, w = 2^wlog. -/
structure FTable where
  lo : Nat
  wlog : Int
  aL : Nat
  bL : Nat
  aH : Nat
  bH : Nat
  /-- Coefficients (c0, c1, c2) of a segment. -/
  seg : List (Nat × Nat × Nat)
deriving DecidableEq, Repr

/-- f, f′, f″ of the three functions, at x. -/
def fnDerivs (fn : Nat) (x : Int) : Int × Int × Int :=
  let one : Int := fxOne
  match fn with
  | 2 =>
    let p := fxPhi x
    let c := fxCdf x
    (fxMul x c, c + fxMul x p, fxMul p (2 * one - fxMul x x))
  | 3 =>
    let s := fxDiv one (one + fxExpS (-x))
    let s1 := fxMul s (one - s)
    let s2 := fxMul s1 (one - 2 * s)
    (fxMul x s, s + fxMul x s1, 2 * s1 + fxMul x s2)
  | _ =>
    let e : Int := fxExpS (2 * x)
    let t := fxDiv (e - one) (e + one)
    let d := one - fxMul t t
    (t, d, -2 * fxMul t d)

/-- Coefficients of a segment of a built-in table (R190): 1 ReLU, 2 GELU, 3 SiLU, 4 tanh, 5 EXP2. -/
def builtinSeg (fn j : Nat) : Nat × Nat × Nat :=
  match fn with
  | 1 => if j < 128 then (0, 0, 0) else (toF32 (.fin false (j - 128) (-4)), 0x3F800000, 0)
  | 5 =>
    let e : Int := fxExp (fxLn2 * j / 256)
    let l : Int := fxLn2
    (fxRN e, fxRN (fxMul l e), fxRN (fxMul (fxMul l l) e / 2))
  | _ =>
    let wl : Nat := if fn = 3 then 3 else 4
    let lo : Int := if fn = 3 then -16 else -8
    -- midpoint and half width, in units of 2^-(wl + 1)
    let x : Int := (lo * 2 ^ (wl + 1) + 2 * j + 1) * ((fxOne : Int) / 2 ^ (wl + 1))
    let h : Int := (fxOne : Int) / 2 ^ (wl + 1)
    let (f, f1, f2) := fnDerivs fn x
    (fxRN (f - fxMul f1 h + fxMul f2 (fxMul h h) / 2), fxRN (f1 - fxMul f2 h), fxRN (f2 / 2))

/-- lo, wlog and the edge rules of a built-in table (R179). -/
def builtinEdge (fn : Nat) : Nat × Int × Nat × Nat × Nat × Nat :=
  match fn with
  | 1 => (0xC1000000, -4, 0, 0, 0x3F800000, 0)
  | 2 => (0xC1000000, -4, 0, 0, 0x3F800000, 0)
  | 3 => (0xC1800000, -3, 0, 0, 0x3F800000, 0)
  | 4 => (0xC1000000, -4, 0, 0xBF800000, 0, 0x3F800000)
  | _ => (0, -8, 0, 0, 0, 0)

/-- The rule edge(a, b, y) of R178. With a slope that is no number a × y has no sign: an infinity then keeps y's (DESIGN
CHOICE, log entry 76). -/
def tableEdge (a b : Nat) (y : FVal) : Nat :=
  match y with
  | .inf n => if (f32 a).isZero then toF32 (f32 b) else toF32 (.inf (n != (f32 a).neg?))
  | _ => toF32 (fsum [(f32 a).mul y, f32 b])

/-- Evaluation of R178 for the table with these edges; `seg` gives a segment's coefficients. Which branch a finite y takes
in a user table whose LO is a NaN is left open: the high edge's rule (DESIGN CHOICE, log entry 59). -/
def tableEval (lo : Nat) (wlog : Int) (aL bL aH bH : Nat) (seg : Nat → Nat × Nat × Nat) (y : FVal) : Nat :=
  let l := f32 lo
  let w : FVal := .fin false 1 wlog
  let hi := fsum [l, .fin false 256 wlog]
  if y.isNan then 0x7FC00000
  else if y.lt l then tableEdge aL bL y
  else if !y.lt hi then tableEdge aH bH y
  else
    let j := ((fsum [y, l.negate]).mul (.fin false 1 (-wlog))).floor.toNat
    let r0 := fsum [y, (fsum [l, w.mul (.fin false j 0)]).negate]
    let r : FVal := if r0.isZero then .fin false 0 0 else r0
    let (c0, c1, c2) := seg j
    let t1 := toF32 ((f32 c2).mul r)
    let t2 := toF32 (fsum [f32 c1, f32 t1])
    let t3 := toF32 ((f32 t2).mul r)
    toF32 (fsum [f32 c0, f32 t3])

/-- A built-in table at y (R179, R190). -/
def builtinEval (fn : Nat) (y : FVal) : Nat :=
  let (lo, wl, aL, bL, aH, bH) := builtinEdge fn
  tableEval lo wl aL bL aH bH (builtinSeg fn) y

/-- Is a user table record one that the finisher treats as the all-zero record (R193): WLOG outside
-24 to 8, or a reserved byte that is not zero? -/
def recordBad (r : List Byte) : Bool :=
  let wl := signedOf 8 (r.getD 4 0).toNat
  decide (wl < -24) || decide (8 < wl) || ((r.drop 5).take 3).any (· != 0) || ((r.drop 24).take 8).any (· != 0)

/-- 32-bit little-endian word of a record at a byte offset. -/
def recWord (r : List Byte) (o : Nat) : Nat := leNat ((r.drop o).take 4)

/-- A user table record at y (R191, R193). -/
def userEval (r : List Byte) (y : FVal) : Nat :=
  let r := if recordBad r then [] else r
  tableEval (recWord r 0) (signedOf 8 (r.getD 4 0).toNat) (recWord r 8) (recWord r 12) (recWord r 16) (recWord r 20)
    (fun j => (recWord r (32 + 12 * j), recWord r (36 + 12 * j), recWord r (40 + 12 * j))) y

/-! ## The device exponential, softmax rows and merges -/

/-- E(t) of R175 on FP32 values already read. -/
def devExp (t : FVal) : Nat :=
  match t with
  | .nan => 0x7FC00000
  | .inf true => 0
  | .inf false => 0x7F800000
  | .fin _ m _ =>
    if m = 0 then 0x3F800000
    else
      let u := f32 (toF32 (t.mul (f32 0x3FB8AA3B)))
      if u.lt (FVal.ofInt (-126)) then 0
      else if !u.lt (FVal.ofInt 128) then 0x7F800000
      else
        let n := u.floor
        let f := fsum [u, (FVal.ofInt n).negate]
        match f32 (builtinEval 5 f) with
        | .fin s k e => toF32 (.fin s k (e + n))
        | v => toF32 v

/-- An SMX row (R180): m, l and the 128 outputs from the 128 values y. -/
def softmaxRow (ys : List Nat) : Nat × Nat × List Nat :=
  let m := ys.foldl (fun a y => FVal.max a (f32 y)) (.inf true)
  match m with
  | .nan => (0x7FC00000, 0x7FC00000, ys.map (fun _ => 0x7FC00000))
  | .inf false => (0x7FC00000, 0x7FC00000, ys.map (fun _ => 0x7FC00000))
  | .inf true => (0xFF800000, 0, ys.map (fun _ => 0))
  | v =>
    let ps := ys.map (fun y => devExp (f32 (toF32 (fsum [f32 y, v.negate]))))
    (toF32 v, ps.foldl devAdd32 0, ps)

/-- The factor of one side of a merge (R186). -/
def mergeFactor (m mm : FVal) : Nat :=
  if decide (m = .inf true) then 0 else devExp (f32 (toF32 (fsum [m, mm.negate])))

/-- The softmax merge (R186) of two triples (m, l, o). -/
def softmaxMerge (a b : Nat × Nat × List Nat) : Nat × Nat × List Nat :=
  let ma := f32 a.1
  let mb := f32 b.1
  let bad (v : FVal) := v.isNan || decide (v = .inf false)
  if bad ma || bad mb then (0x7FC00000, 0x7FC00000, a.2.2.map (fun _ => 0x7FC00000))
  else if decide (ma = .inf true) && decide (mb = .inf true) then (0xFF800000, 0, a.2.2.map (fun _ => 0))
  else
    let mm := ma.max mb
    let fa := mergeFactor ma mm
    let fb := mergeFactor mb mm
    (toF32 mm, devAdd32 (devMul32 fa a.2.1) (devMul32 fb b.2.1),
      (a.2.2.zip b.2.2).map (fun (x, y) => devAdd32 (devMul32 fa x) (devMul32 fb y)))

end Sys2Proof.Machine
end

