-- ==== Sys2Proof/Machine/TileCore.lean ====
section
/-! DEFINITION. What the tile operations share: the sequencer's issue (R127-R131, R138), operand lines
and lane steps (R108-R125, R142, R162-R164), accumulator rows (R114, R140, R141) and the finisher's
stages and outputs (R176-R185, R324). -/

namespace Sys2Proof.Machine

/-! ## Sequencer -/

/-- The tile program of an M-core. -/
def tileBody (s : State) (g : Nat) : List Byte := (sectionOf s 4 g).getD []

/-- Next program counter: a loop body's end returns to its start or leaves the loop (R138). `fuel` bounds
the loops left at once. -/
def loopTo : Nat → List LoopFrame → Nat → Nat × List LoopFrame
  | 0, ls, pc => (pc, ls)
  | n + 1, ls, pc =>
    match ls with
    | [] => (pc, [])
    | l :: r =>
      if pc = l.stop then
        if 2 ≤ l.left then (l.start, { l with left := l.left - 1 } :: r) else loopTo n r pc
      else (pc, ls)

/-- Move an M-core's sequencer to an operation. -/
def MCore.goto (m : MCore) (pc : Nat) : MCore :=
  let (p, ls) := loopTo 5 m.loops pc
  { m with pc := p, loops := ls }

/-- No WAIT or SYNC holds the sequencer (R129, R138). -/
def holdFree (h : Hold) (now : Nat) : Bool :=
  match h with
  | .none => true
  | .releasedAt c => decide (c < now)
  | _ => false

/-- The sequencer may issue this operation now (R129): it is the one at the program counter, nothing has
issued in this cc, no hold stands; the unit's own condition is the operation's. -/
def tileReady (s : State) (g : Nat) (op : TileOp) : Bool :=
  let m := mc s g
  workOpen s (blk Ty.MCORE g) && m.running && !m.ended && decide (m.issued ≠ s.now + 1)
    && holdFree m.hold s.now && decide (tileOpAt (tileBody s g) m.pc = some op)

/-- The sequencer issues the operation at its program counter and goes to the next. -/
def tileIssue (s : State) (g : Nat) : State :=
  setMc s g (fun m => { (m.goto (m.pc + 1)) with issued := s.now + 1, hold := .none })

/-! ## Operand lines (R110, R116-R119) -/

/-- Depth of a format pair (R110). -/
def macDepth (wf af : Nat) : Option Nat :=
  if wf ≤ 6 ∧ af ≤ 5 then some 32
  else if wf ≤ 5 ∧ af = 6 then some 32
  else if wf = 6 ∧ af = 6 then some 64
  else if (wf = 7 ∨ wf = 8) ∧ af = 7 then some 32
  else if wf = 7 ∧ af = 8 then some 32
  else if wf = 8 ∧ af = 8 then some 64
  else if wf = 9 ∧ (af ≤ 5 ∨ af = 7) then some 32
  else if wf = 9 ∧ (af = 6 ∨ af = 8) then some 64
  else if wf = 10 ∧ af = 10 then some 8
  else none

/-- Bytes of a format's block scale: 1 E8M0, 2 BF16, 0 none (R109). -/
def scaleBytes (f : Nat) : Nat := if 2 ≤ f ∧ f ≤ 6 then 1 else if 7 ≤ f ∧ f ≤ 9 then 2 else 0

/-- Element lines of a step's block and scale lines of a group, for one stream (R117). -/
def eLines (wf d : Nat) : Nat := d * elemBits wf / 64
def sLines (wf d : Nat) : Nat := d / 32 * scaleBytes wf

/-- Active logical row units of a mask, ascending. -/
def ruList (mask : Nat) : List Nat := (List.range 4).filter (fun i => mask.testBit i)

/-- Steps of an operation (R133). -/
def macSteps (o : MacOp) : Nat := if o.steps = 0 then 2048 else o.steps

/-- Streams: one in normal mode, one for each active row unit in wide mode (R118). -/
def macStreams (o : MacOp) : Nat := if o.mode = 1 then (ruList o.rumask).length else 1

/-- Depth of an operation the loader accepted. -/
def macD (o : MacOp) : Nat := (macDepth o.wfmt o.afmt).getD 32

/-- Lines of a step's element blocks and of a group's scales, all streams. -/
def stepLines (o : MacOp) : Nat := macStreams o * eLines o.wfmt (macD o)
def groupLines (o : MacOp) : Nat := macStreams o * sLines o.wfmt (macD o)

/-- First element line of step j, and one past its last line (R124). -/
def startLine (o : MacOp) (j : Nat) : Nat :=
  j / 8 * (groupLines o + 8 * stepLines o) + groupLines o + j % 8 * stepLines o
def endLine (o : MacOp) (j : Nat) : Nat := startLine o j + stepLines o
def totalLines (o : MacOp) : Nat := endLine o (macSteps o - 1)

/-- Lines that step j takes: its group's scale lines too when it is the first of a group. -/
def linesOfStep (o : MacOp) (j : Nat) : Nat := (if j % 8 = 0 then groupLines o else 0) + stepLines o

/-- A line of the operand store through its checker (R112); addresses wrap at 8 MiB (R128). -/
def readLine (s : State) (g line : Nat) : State × List Byte :=
  let (s1, d, _) := memRead s (mstoreAddr g (line % 8192 * 1024)) 1024
  (s1, d)

/-- Consecutive lines. -/
def readLines : Nat → State → Nat → Nat → State × List (List Byte)
  | 0, s, _, _ => (s, [])
  | n + 1, s, g, line =>
    let (s1, d) := readLine s g line
    let (s2, ds) := readLines n s1 g (line + 1)
    (s2, d :: ds)

/-- Lines that the MAC reader takes in a cc when step `j` is the next to issue (R124). -/
def readerTakes (r : MacRun) (j : Nat) : Nat :=
  if j < macSteps r.op then min 16 (min (totalLines r.op - r.read) (startLine r.op j + 64 - r.read)) else 0

/-- The MAC reader takes its lines of one cc. -/
def macReader (s : State) (g : Nat) (j : Nat) : State :=
  match (mc s g).mac with
  | none => s
  | some r =>
    if r.op.wsrc = 1 then s
    else
      let k := readerTakes r j
      let (s1, ls) := readLines k s g (r.wline + r.read)
      setMc s1 g fun m =>
        let r' := { r with read := r.read + k, buf := r.buf ++ ls }
        { m with mac := some r', linesRead := m.linesRead + k, winLines := m.winLines + k, took := (s.now, r.wline + r.read, k) }

/-- Is the bank of a line taken by the MAC reader in this cc (R112)? -/
def bankTaken (m : MCore) (now line : Nat) : Bool :=
  let (c, first, k) := m.took
  decide (c = now) && (List.range k).any (fun i => (first + i) % 16 == line % 16)

/-- The other users of an operand store's ports in this cc (R112). -/
def portsNow (m : MCore) (now : Nat) : PortUse := if m.ports.cc = now + 1 then m.ports else ⟨now + 1, [], [], []⟩

/-- Lines of one bank. -/
def sameBank (a b : Nat) : Bool := a % 16 == b % 16

/-- May a router read this line in this cc (R112)? The MAC reader and the load unit come first; reads of one line of
the bank share it. -/
def readPortFree (m : MCore) (now line : Nat) : Bool :=
  let p := portsNow m now
  !bankTaken m now line && p.lda.all (fun l => !sameBank l line) && p.rd.all (fun l => !sameBank l line || l == line)
/-- Granules that the finisher writes in this cc. -/
def finUnits (m : MCore) (now : Nat) : List Nat := if m.finLines.1 = now + 1 then m.finLines.2 else []
/-- May a router write this granule of the store in this cc (R112)? The finisher comes first, and a cc has 128 granules. The
granules of a line that one requester writes in a cc are one write of the bank (DEDUCED, log entry 74). -/
def writePortFree (m : MCore) (now who unit : Nat) : Bool :=
  let fin := finUnits m now
  let wr := (portsNow m now).wr
  fin.all (fun u => !sameBank (u / 32) (unit / 32))
    && wr.all (fun x => !sameBank (x.2 / 32) (unit / 32) || (x.1 == who && x.2 / 32 == unit / 32 && x.2 != unit))
    && decide (fin.length + wr.length < 128)
/-- Is a write of the bank of a line taken in this cc? -/
def writtenNow (m : MCore) (now line : Nat) : Bool :=
  (finUnits m now).any (fun u => sameBank (u / 32) line) || (portsNow m now).wr.any (fun x => sameBank (x.2 / 32) line)

/-- The router has read or written a line in this cc. -/
def takeRead (now line : Nat) (m : MCore) : MCore :=
  let p := portsNow m now
  { m with ports := { p with rd := line :: p.rd } }
def takeWrite (now who unit : Nat) (m : MCore) : MCore :=
  let p := portsNow m now
  { m with ports := { p with wr := (who, unit) :: p.wr } }

/-- The clocks of an M-core run: a halt gates them 2 cc after its last issue group, a TRIP at cc 0 of a slot (R131,
R359); a fence acts as the halt does. -/
def mcoreClocked (s : State) (g : Nat) : Bool :=
  untripped s (blk Ty.MCORE g) && (match Assoc.get? (haltNode (blk Ty.MCORE g)) s.ft.stops with
    | some t => decide (s.now < t + 2)
    | none => true)
  && decide ((mc s g).fenceAt = 0 ∨ s.now < (mc s g).fenceAt + 2)

/-- The load unit reads, at the end of a cc, the lines whose banks the MAC reader left free in it, as they stood before
the cc's writes; it is free again in the cc after its last line (R112, R113, R129). -/
def ldaReads (s : State) (g : Nat) : State :=
  let m := mc s g
  if m.lda = [] ∨ !mcoreClocked s g then s
  else
    let go := m.lda.filter (fun x => !bankTaken m s.now x.1)
    let rest := m.lda.filter (fun x => bankTaken m s.now x.1)
    let s1 := setMc s g (fun m => { m with lda := rest, loadFree := s.now + 1, linesRead := m.linesRead + go.length,
                                           winLines := m.winLines + go.length, ports := { (portsNow m s.now) with lda := go.map Prod.fst } })
    go.foldl (fun s x =>
      let (s2, d) := readLine s g x.1
      setMc s2 g (fun m => { m with aregCc := m.aregCc ++ d.zipIdx.map (fun (b, i) => (x.2 + i, b)) })) s1

/-- Base register in whole lines (R128). -/
def baseLine (m : MCore) (b : Nat) : Nat := nth m.bases b / 8

/-! ## Lane steps -/

/-- Elements of a lane's weights, or of an activation chunk, from its bytes (R158). -/
def elements (fmt n : Nat) (l : List Byte) : List Nat :=
  let b := elemBits fmt
  let x := leNat l
  (List.range n).map (fun i => (x >>> (b * i)) % 2 ^ b)

/-- A block scale from its bytes; 1 for a format without scales (R159-R161). -/
def scaleVal (fmt : Nat) (l : List Byte) : FVal :=
  match scaleBytes fmt with
  | 1 => e8m0 (leNat l)
  | 2 => bf16 (leNat l)
  | _ => .fin false 1 0

/-- A byte of an activation register: side 0 data, 1 scale. The scale bytes of INT4 blocks 512 to 1,023 lie past the
1 KiB scale side of R134, which the spec leaves open; they are addressed all the same (DESIGN CHOICE, log entry 58). -/
def aregByte (m : MCore) (r side i : Nat) : Byte := Assoc.getD 0 (32768 * r + 16384 * side + i % 16384) m.areg
def aregBytes (m : MCore) (r side i n : Nat) : List Byte := (List.range n).map (fun k => aregByte m r side (i + k))

/-- One element with its scale. -/
structure Elem where
  zero : Bool
  val : FVal
deriving DecidableEq, Repr

/-- First data byte of the activation chunk of step j (R119). -/
def chunkAt (o : MacOp) (j : Nat) : Nat := (32 * o.aoff + j * (macD o * elemBits o.afmt / 8)) % 16384

/-- The block of element i of a chunk at data byte `at_` (R119). 16 KiB hold no whole number of 6-bit blocks, and which
scale governs past the wrap is left open: the elements are counted modulo 21,845 (DESIGN CHOICE, log entry 58). -/
def chunkBlock (o : MacOp) (at_ i : Nat) : Nat := (at_ * 8 / elemBits o.afmt + i) % (16384 * 8 / elemBits o.afmt) / 32

/-- Granules of an activation register that a chunk reads: its bytes and its scales (R115). -/
def chunkGranules (o : MacOp) (g r j : Nat) : List Nat :=
  let at_ := chunkAt o j
  let z := scaleBytes o.afmt
  let data := (List.range (macD o * elemBits o.afmt / 8)).map (fun k => 32768 * r + (at_ + k) % 16384)
  let scale := ((List.range (macD o)).map (fun i => (List.range z).map (fun k => 32768 * r + 16384 + (chunkBlock o at_ i * z + k) % 16384))).flatten
  ((data ++ scale).map (fun k => aregGran g (k / 32))).eraseDups

/-- The activation chunk of step j from a register (R119): element values after their scales (`chunkBlock` marks what the
spec leaves open of them). -/
def chunkOf (m : MCore) (o : MacOp) (r j : Nat) : List Elem :=
  let d := macD o
  let b := elemBits o.afmt
  let at_ := chunkAt o j
  let els := elements o.afmt d (aregBytes m r 0 at_ (d * b / 8))
  let z := scaleBytes o.afmt
  els.zipIdx.map fun (x, i) =>
    ⟨elemZero o.afmt x, scaled (elemVal o.afmt x) (scaleVal o.afmt (aregBytes m r 1 (chunkBlock o at_ i * z) z))⟩

/-- Weights of lane ℓ in step w of its group, from the element block and the scale lines of its stream
(R116, R117). -/
def laneWeights (o : MacOp) (block scales : List Byte) (w lane : Nat) : List Elem :=
  let d := macD o
  let n := d * elemBits o.wfmt / 8
  let els := elements o.wfmt d ((block.drop (lane * n)).take n)
  let z := scaleBytes o.wfmt
  let sc (h : Nat) : FVal := scaleVal o.wfmt ((scales.drop (((128 * w + lane) * (d / 32) + h) * z)).take z)
  let s0 := sc 0
  let s1 := if d = 64 then sc 1 else s0
  els.zipIdx.map fun (x, i) => ⟨elemZero o.wfmt x, scaled (elemVal o.wfmt x) (if i < 32 then s0 else s1)⟩

/-- Is a value finite? -/
def FVal.finite : FVal → Bool
  | .fin .. => true
  | _ => false

/-- A product is gated when one element encodes zero and the other is finite (R142). -/
def gatedPair (w a : Elem) : Bool := (w.zero && a.val.finite) || (a.zero && w.val.finite)

/-- One lane's step (R162-R164): the accumulator, and how many of its products were gated. -/
def laneStep (acc : Word) (ws as : List Elem) : Word × Nat :=
  let ps := ws.zip as
  let c := fsum (ps.map (fun (w, a) => w.val.mul a.val))
  (BitVec.ofNat 32 (toF32 (fsum [f32 acc.toNat, c])), (ps.filter (fun (w, a) => gatedPair w a)).length)

/-- All 128 lanes of a row unit. -/
def rowUnitStep (o : MacOp) (accs : List Word) (block scales : List Byte) (w : Nat) (chunk : List Elem) :
    List Word × Nat :=
  let rs := accs.zipIdx.map (fun (a, lane) => laneStep a (laneWeights o block scales w lane) chunk)
  (rs.map Prod.fst, (rs.map Prod.snd).sum)

/-- Step j of an operation over its row units (R121, R122): lines are the step's element lines, `scales`
the group's scale lines. -/
def macStepAll (m : MCore) (o : MacOp) (j : Nat) (acc : List (List Word)) (lines scales : List (List Byte)) :
    List (List Word) × Nat :=
  let e := eLines o.wfmt (macD o)
  let sl := sLines o.wfmt (macD o)
  let rs := ((ruList o.rumask).zip acc).zipIdx.map fun ((i, a), q) =>
    let rank := if o.mode = 1 then q else 0
    let block := ((lines.drop (rank * e)).take e).flatten
    let sc := ((scales.drop (rank * sl)).take sl).flatten
    rowUnitStep o a block sc (j % 8) (chunkOf m o (if o.mode = 1 then o.areg else i) j)
  (rs.map Prod.fst, (rs.map Prod.snd).sum)

/-! ## Errors of flits -/

/-- A router's block entry. -/
def rblk (r : Nat) : Nat := blk Ty.ROUTER r

/-- Latch LAST_ERR and raise the fault of an error that a flit brings (R310, R314, R335). -/
def flitError (s : State) (r port : Nat) (f : Flit) (bit cause : Nat) : State :=
  let s := setReg s (rblk r) Off.ROUTER_LAST_ERR (port % 32 * 2 ^ 27 + f.key)
  let s := setReg s (rblk r) Off.ROUTER_LAST_ERR_SEQ f.seq
  errFault s (rblk r) bit cause

/-! ## Accumulator rows -/

/-- Device address of an accumulator row (R114). -/
def accRow (g row : Nat) : Nat := mstoreAddr g (accOff + 512 * row)

/-- The 128 words of a row, through the checker. -/
def readRow (s : State) (g row : Nat) : State × List Nat :=
  let (s1, d, _) := memRead s (accRow g row) 512
  (s1, (List.range 128).map (fun l => leNat ((d.drop (4 * l)).take 4)))

/-- Write a row, with its signature records (R588). -/
def writeRow (s : State) (g row : Nat) (v : List Word) : State :=
  let (s1, _) := memWrite s (accRow g row) ((v.map (fun w => leBytes 4 w.toNat)).flatten) false
  (granulesOf (accRow g row) 512).foldl (fun s i => mcSig s g i) s1

/-- Rows of a CLR that are cleared in cc `t` (R137). -/
def clrRows (c : Nat × Nat × Nat) (t : Nat) : List Nat :=
  let (row, rows, issue) := c
  (List.range 4).filterMap fun k => let i := 4 * (t - issue) + k; if i < rows then some (row + i) else none

/-- Is the row cleared in this cc? A MAC writeback of the same cc comes before the clear (R114). -/
def clearedNow (s : State) (g row : Nat) : Bool :=
  match (mc s g).clr with
  | some c => (clrRows c s.now).contains row
  | none => false

/-- Does a MAC target the row inside its hazard window in this cc (R141)? -/
def hazardRow (s : State) (g row : Nat) : Bool :=
  let m := mc s g
  let hits (arow mask : Nat) : Bool := row / 4 == arow && mask.testBit (row % 4)
  (match m.mac with
    | some r => hits r.op.arow r.op.rumask && r.firstStep.isSome
    | none => false)
  || m.wbs.any (fun w => hits w.arow w.rumask && decide (s.now < w.due))

/-- Record a hazard read (R141, R150): `pc` 0xFFF for a router read. -/
def noteHazard (s : State) (g row pc : Nat) : State :=
  let b := blk Ty.MCORE g
  let s := countField s b Off.MCORE_HAZARD 31 16 1
  let s := setRegField s b Off.MCORE_HAZARD 8 0 row
  let s := setRegField s b Off.MCORE_HAZARD_PC 11 0 pc
  setErr s b Err.MCORE_HAZARD

/-! ## Finisher -/

/-- Element bits of an output format. -/
def ofmtBits (o : Nat) : Nat := elemBits o

/-- e_max of an MX output (R183). -/
def mxEmax (o : Nat) : Int := if o = 2 then 8 else if o = 3 then 15 else if o = 4 then 4 else 2
/-- Element format of an MX output, and its encoding of +1.0. -/
def mxFmt (o : Nat) : FFmt := if o = 2 then fE4M3 else if o = 3 then fE5M2 else if o = 4 then fE3M2 else if o = 5 then fE2M3 else fE2M1
def mxOne (o : Nat) : Nat := (mxFmt o).enc true true (.fin false 1 0)

/-- The largest magnitude of a block of finite values. -/
def blockMax (l : List FVal) : FVal :=
  l.foldl (fun a v => let b := match v with
    | .fin _ m e => FVal.fin false m e
    | x => x
    if a.lt b then b else a) (.fin false 0 0)

/-- Elements and scale of a block of 32 values in a format with scales (R183, R184). -/
def blockOut (ofmt : Nat) (l : List FVal) : List Nat × Nat :=
  let bad := l.any (fun v => !v.finite)
  if ofmt ≤ 6 then
    if bad then (l.map (fun _ => mxOne ofmt), 0xFF)
    else match blockMax l with
      | .fin _ 0 _ => (l.map (fun _ => 0), 0)
      | .fin _ m e =>
        let x := e + (Nat.log2 m : Int) - mxEmax ofmt + 127
        let sc : Nat := if x < 0 then 0 else if x > 254 then 254 else x.toNat
        (l.map (fun v => (mxFmt ofmt).enc true true (v.mul (.fin false 1 (127 - (sc : Int))))), sc)
      | _ => (l.map (fun _ => mxOne ofmt), 0xFF)
  else
    let top : Int := if ofmt = 7 then 127 else 7
    let w := if ofmt = 7 then 8 else 4
    if bad then (l.map (fun _ => 1), 0x7FC0)
    else if l.all FVal.isZero then (l.map (fun _ => 0), 0x3F80)
    else
      let s0 := toBF16 ((blockMax l).div (FVal.ofInt top))
      let sc := if s0 < 0x0080 then 0x0080 else s0
      (l.map (fun v => let i := (v.div (bf16 sc)).toInt
        unsignedOf w (if i > top then top else if i < -top then -top else i)), sc)

/-- Elements of a row without scales (R182). -/
def plainOut (ofmt : Nat) (sat : Bool) (v : FVal) : Nat :=
  match ofmt with
  | 12 => fFP32.enc false sat v
  | 10 => fBF16.enc false sat v
  | 0 => fE4M3.enc true sat v
  | _ => fE5M2.enc true sat v

/-- Element bytes of a row and its block scales (R182-R185). -/
def rowOut (ofmt : Nat) (sat : Bool) (zs : List Nat) : List Byte × List Byte :=
  let b := ofmtBits ofmt
  let vs := zs.map f32
  if scaleBytes ofmt = 0 then (leBytes (16 * b) (joinNat b (vs.map (plainOut ofmt sat))), [])
  else
    let bs := (List.range 4).map (fun k => blockOut ofmt ((vs.drop (32 * k)).take 32))
    (leBytes (16 * b) (joinNat b (bs.map Prod.fst).flatten), (bs.map (fun x => leBytes (scaleBytes ofmt) x.2)).flatten)

/-- Stage 3 table of a FUNC code (R178, R189). -/
def funcEval (m : MCore) (func : Nat) (y : Nat) : Nat :=
  if func = 0 then y
  else if func ≤ 4 then builtinEval func (f32 y)
  else userEval (Assoc.getD (List.replicate 3104 (0 : Byte)) (func - 8) m.tabActive) (f32 y)

/-- Stages 1 and 2 (R176): scale and bias of each lane as one fused operation. -/
def scaleBias (o : FinOp) (sb : List Word) (xs : List Nat) : List Nat :=
  xs.zipIdx.map fun (x, l) =>
    if o.scaleEn = 1 then toF32 (fsum [(f32 x).mul (f32 (sb.getD l 0).toNat), f32 (sb.getD (128 + l) 0).toNat])
    else toF32 (f32 x)

/-! ## The cc of an M-core -/

/-- The row that each finisher pass reads in this cc, after all writes of the cc (R114, R136), with its
hazard (R141). -/
def finReads (s : State) (g : Nat) : State :=
  (mc s g).fins.foldl (fun s f =>
    let i := s.now - f.issue
    if f.nextRow = i ∧ i ≤ f.op.rows then
      let row := f.op.arow + i
      let s := if hazardRow s g row then noteHazard s g row f.pc else s
      let (s1, xs) := readRow s g row
      let f' := { f with rowsRead := f.rowsRead ++ [(i, xs.map (BitVec.ofNat 32))], nextRow := i + 1 }
      setMc s1 g (fun m => { m with fins := m.fins.map (fun x => if x.issue = f.issue then f' else x) })
    else s) s

/-- Operand-store bytes that the finisher writes, at the end of their cc, with their signature records (R112, R136,
R588). -/
def finStores (s : State) (g : Nat) : State :=
  let s := (mc s g).finOut.foldl (fun s x => mcSigSpan (memWrite s (mstoreAddr g x.1) x.2 false).1 g (mstoreAddr g x.1) x.2.length) s
  setMc s g (fun m => { m with finOut := [] })

/-- The register bytes written in the cc (R113). -/
def aregPut (m : MCore) (x : Nat × Byte) : MCore := { m with areg := Assoc.put x.1 (if x.2 = 0 then none else some x.2) m.areg }

/-- The bytes written in the cc of one register granule that holds an error (R115, R638): written whole it has fresh
check bits; a part is merged into the corrected granule, and an uncorrectable one is left. -/
def aregMerge (s : State) (g k : Nat) : State :=
  let i := aregGran g k
  let l := (mc s g).aregCc.filter (fun x => x.1 / 32 == k)
  if (l.map Prod.fst).eraseDups.length = 32 then freshCheck s i
  else
    let (s1, d, u) := sramRead s i
    if u then setMc s1 g (fun m => { m with aregCc := m.aregCc.filter (fun x => x.1 / 32 != k) })
    else granulePut (freshCheck s1 i) i d

/-- The register bytes written in the cc enter their registers (R113, R115). -/
def aregFlush (s : State) (g : Nat) : State :=
  let s := if sramClean s then s
    else (((mc s g).aregCc.map (fun x => x.1 / 32)).eraseDups.filter (fun k => granuleClass s (aregGran g k) != .clean)).foldl
      (fun s k => aregMerge s g k) s
  setMc s g (fun m => { (m.aregCc.foldl aregPut m) with aregCc := [] })

/-- A cc of a FILL (R137, R144, R150): it counts in the frame and in the power window. -/
def fillCount (s : State) (g : Nat) : State :=
  if s.now < (mc s g).fillUntil then
    setMc s g (fun m => { m with fillCc := m.fillCc + b2n (decide (1 ≤ slotNow s)), winFill := m.winFill + 86 * m.fillRus })
  else s

/-- The end of a cc at an M-core: finisher reads, the cc of a FILL, register bytes, signature records. -/
def mcoreEnd (s : State) (g : Nat) : State :=
  let s := aregFlush (if mcoreClocked s g then fillCount (finReads s g) g else s) g
  setMc s g mcSigFlush

/-- The start of a cc at an M-core whose clocks run: the MAC reader, with the step that issues in this cc counted (R124),
and the clear unit's next rows (R137). -/
def mcoreStart (s : State) (g : Nat) : State :=
  if !mcoreClocked s g then s else
  let m := mc s g
  let s := match m.mac with
    | some r =>
      let j := if endLine r.op r.step ≤ r.read ∧ r.lastStep < s.now then r.step + 1 else r.step
      macReader s g j
    | none => s
  match m.clr with
  | some c => (clrRows c s.now).foldl (fun s row => writeRow s g row (List.replicate 128 0)) s
  | none => s

end Sys2Proof.Machine
end

