-- ==== Sys2Proof/Machine/VecArith.lean ====
section
/-! DEFINITION. The arithmetic of the V-core (R194, R195, R199-R203): elements of the eight types,
scalar, integer and floating functions, conversion, reduction, sorting and the generator. -/

namespace Sys2Proof.Machine

/-- A vector register. -/
abbrev VReg := BitVec 2048

/-- Element width of a type code (R194). -/
def vWidth (t : Nat) : Nat :=
  match t with
  | 0 => 8 | 1 => 16 | 2 => 32 | 3 => 16 | 4 => 32 | 5 => 8 | 6 => 8 | _ => 64
/-- Elements per register. -/
def vCount (t : Nat) : Nat := 2048 / vWidth t
/-- Integer types. -/
def vIsInt (t : Nat) : Bool := t ≤ 2 || t == 7
/-- Format of a floating type. -/
def vFmt (t : Nat) : FFmt := if t = 3 then fBF16 else if t = 5 then fE4M3 else if t = 6 then fE5M2 else fFP32

/-- Elements of a register, and the register they make. -/
def vElems (t : Nat) (v : VReg) : List Nat :=
  (List.range (vCount t)).map (fun i => (v.toNat >>> (vWidth t * i)) % 2 ^ vWidth t)
def vMake (t : Nat) (l : List Nat) : VReg :=
  BitVec.ofNat 2048 (l.foldr (fun x acc => x % 2 ^ vWidth t + 2 ^ vWidth t * acc) 0)

/-- All ones or zero of a width: the results of comparisons (R199). -/
def maskOf (w : Nat) (b : Bool) : Nat := if b then 2 ^ w - 1 else 0

/-! ## Scalar functions (R199) -/

/-- FP32 in bits [31:0] with subnormals (R195). -/
def sF (x : Nat) : FVal := fFP32.dec false (x % 2 ^ 32)
def sR (v : FVal) : Nat := fFP32.enc true false v

/-- A float rounded to a signed integer of `w` bits, ties to even, saturating; `free` stands for the
integer of a NaN, which the manual does not state (log entry 5). -/
def toIntSat (w : Nat) (v : FVal) (free : Nat) : Nat :=
  let top : Int := 2 ^ (w - 1) - 1
  let bot : Int := -(2 ^ (w - 1))
  match v with
  | .nan => free % 2 ^ w
  | .inf n => unsignedOf w (if n then bot else top)
  | x => let i := x.toInt; unsignedOf w (if i > top then top else if i < bot then bot else i)

/-- SOP's functions on 64-bit operands. -/
def sopFn (fn a b free : Nat) : Nat :=
  let sa := signedOf 64 a
  let sb := signedOf 64 b
  let k := b % 64
  match fn with
  | 0 => (a + b) % 2 ^ 64
  | 1 => (a + 2 ^ 64 - b) % 2 ^ 64
  | 2 => a * b % 2 ^ 64
  | 3 => a &&& b
  | 4 => a ||| b
  | 5 => a ^^^ b
  | 6 => (a <<< k) % 2 ^ 64
  | 7 => a >>> k
  | 8 => unsignedOf 64 (sa / (2 ^ k : Nat))
  | 9 => maskOf 64 (decide (sa < sb))
  | 10 => maskOf 64 (decide (a < b))
  | 11 => if sb < sa then b else a
  | 12 => if sa < sb then b else a
  | 13 => sR (fsum [sF a, sF b])
  | 14 => sR (fsum [sF a, (sF b).negate])
  | 15 => sR ((sF a).mul (sF b))
  | 16 => sR ((sF a).div (sF b))
  | 17 => sR (sF a).sqrt
  | 18 => unsignedOf 64 (signedOf 32 (toIntSat 32 (sF a) free))
  | _ => sR (FVal.ofInt sa)

/-! ## Vector functions -/

/-- VINT's functions on elements of width w; `free` stands for the result of a shift by the width or more,
which the manual does not state (log entry 5). -/
def vintFn (w fn a b free : Nat) : Nat :=
  let sa := signedOf w a
  let sb := signedOf w b
  match fn with
  | 0 => (a + b) % 2 ^ w
  | 1 => (a + 2 ^ w - b) % 2 ^ w
  | 2 => a * b % 2 ^ w
  | 3 => a &&& b
  | 4 => a ||| b
  | 5 => a ^^^ b
  | 6 => if b < w then (a <<< b) % 2 ^ w else free % 2 ^ w
  | 7 => if b < w then a >>> b else free % 2 ^ w
  | 8 => if b < w then unsignedOf w (sa / (2 ^ b : Nat)) else free % 2 ^ w
  | 9 => if sb < sa then b else a
  | 10 => if sa < sb then b else a
  | 11 => maskOf w (decide (a = b))
  | _ => maskOf w (decide (sa < sb))

/-- A result of a floating type: FP8 saturates by CSR 6 (R195). -/
def vRound (t : Nat) (sat : Bool) (v : FVal) : Nat := (vFmt t).enc true (sat && (t == 5 || t == 6)) v

/-- VFLT's functions; `d` is the old element of vd, which fma adds. -/
def vfltFn (t fn : Nat) (sat : Bool) (a b d : Nat) : Nat :=
  let w := vWidth t
  let x := (vFmt t).dec false a
  let y := (vFmt t).dec false b
  let z := (vFmt t).dec false d
  match fn with
  | 0 => vRound t sat (fsum [x, y])
  | 1 => vRound t sat (fsum [x, y.negate])
  | 2 => vRound t sat (x.mul y)
  | 3 => vRound t sat (fsum [x.mul y, z])
  | 4 => vRound t sat (x.min y)
  | 5 => vRound t sat (x.max y)
  | 6 => maskOf w (x.eqv y)
  | 7 => maskOf w (x.lt y)
  | 8 => vRound t sat (x.div y)
  | 9 => vRound t sat x.sqrt
  | 10 => devExp (f32 a)
  | _ => sR (.fin false (a / 256) (-24))

/-- One element converted (R200): `free` stands for a NaN as an integer. -/
def vcvtFn (src t : Nat) (sat : Bool) (x free : Nat) : Nat :=
  let v := if vIsInt src then FVal.ofInt (signedOf (vWidth src) x) else (vFmt src).dec false x
  if vIsInt t then toIntSat (vWidth t) v free
  else (vFmt t).enc true (sat && t != 4) v

/-- VCVT (R200) on whole registers; `old` is vd. -/
def vcvtReg (src t mod : Nat) (old a : VReg) (free : Nat) : VReg :=
  let ns := vCount src
  let nd := vCount t
  let p := mod % 4
  let sat := bitOf mod 4
  let xs := vElems src a
  let fr (i : Nat) := free >>> (vWidth t * i)
  if ns ≤ nd then
    let o := vElems t old
    vMake t ((List.range nd).map (fun j =>
      if p * ns ≤ j ∧ j < p * ns + ns then vcvtFn src t sat (nth xs (j - p * ns)) (fr j) else nth o j))
  else vMake t ((List.range nd).map (fun i => vcvtFn src t sat (nth xs (p * nd + i)) (fr i)))

/-- One level of VRED's balanced tree (R201). -/
def pairUp (f : Nat → Nat → Nat) : List Nat → List Nat
  | a :: b :: r => f a b :: pairUp f r
  | l => l

/-- A balanced tree over 2^k elements. -/
def treeFold (f : Nat → Nat → Nat) : Nat → List Nat → Nat
  | 0, l => nth l 0
  | k + 1, l => treeFold f k (pairUp f l)

/-- VRED (R201): 0 sum, 1 max, 2 min. -/
def vredFn (t fn : Nat) (v : VReg) : Nat :=
  let w := vWidth t
  let f (a b : Nat) : Nat :=
    if vIsInt t then (if fn = 0 then (a + b) % 2 ^ w else vintFn w (if fn = 1 then 10 else 9) a b 0)
    else vfltFn t (if fn = 0 then 0 else if fn = 1 then 5 else 4) false a b 0
  treeFold f 8 (vElems t v)

/-- The order of R202: does pair (k, i) come strictly before pair (k', i')? Keys are INT32 or FP32. -/
def keyGt (t a b : Nat) : Bool :=
  if t = 2 then decide (signedOf 32 b < signedOf 32 a)
  else
    let x := sF a
    let y := sF b
    if x.isNan then false else if y.isNan then true else y.lt x
def pairBefore (t : Nat) (p q : Nat × Nat) : Bool :=
  keyGt t p.1 q.1 || (!keyGt t q.1 p.1 && decide (p.2 < q.2))

/-- Stable insertion by R202. -/
def pairInsert (t : Nat) (x : Nat × Nat) : List (Nat × Nat) → List (Nat × Nat)
  | [] => [x]
  | y :: r => if pairBefore t x y then x :: y :: r else y :: pairInsert t x r

/-- VSORT's order of 64 pairs: equal pairs keep the source order. -/
def pairSort (t : Nat) (l : List (Nat × Nat)) : List (Nat × Nat) := l.foldl (fun acc x => pairInsert t x acc) []

/-- Is a list in the order of R202? -/
def pairSorted (t : Nat) : List (Nat × Nat) → Bool
  | a :: b :: r => !pairBefore t b a && pairSorted t (b :: r)
  | _ => true

/-- Pairs of two registers. -/
def pairsOf (k i : VReg) : List (Nat × Nat) := (vElems 2 k).zip (vElems 2 i)

/-- VTOPK (R202): the first 64 of the merge, the pair of (vd, vd + 1) first among equals; inputs that are
not in order give a merge that the manual leaves unspecified. -/
def vtopkRegs (t : Nat) (d d1 a b : VReg) : VReg × VReg :=
  let l := pairsOf d d1
  let r := pairsOf a b
  if pairSorted t l && pairSorted t r then
    let m := (pairSort t (l ++ r)).take 64
    (vMake 2 (m.map Prod.fst), vMake 2 (m.map Prod.snd))
  else Config.vtopkUnordered d d1 a b

/-- Ten rounds of Philox4x32 (R203). -/
def philoxGo : Nat → Nat → Nat → Nat × Nat × Nat × Nat → Nat × Nat × Nat × Nat
  | 0, _, _, c => c
  | n + 1, k0, k1, (c0, c1, c2, c3) =>
    let p0 := 0xD2511F53 * c0
    let p1 := 0xCD9E8D57 * c2
    philoxGo n ((k0 + 0x9E3779B9) % 2 ^ 32) ((k1 + 0xBB67AE85) % 2 ^ 32)
      ((p1 / 2 ^ 32) ^^^ c1 ^^^ k0, p1 % 2 ^ 32, (p0 / 2 ^ 32) ^^^ c3 ^^^ k1, p0 % 2 ^ 32)

/-- The 64 words of VRNG. -/
def vrngWords (key ctr : Nat) : List Nat :=
  ((List.range 16).map (fun j =>
    let c := (ctr + j) % 2 ^ 128
    let w (i : Nat) := (c >>> (32 * i)) % 2 ^ 32
    let (a, b, d, e) := philoxGo 10 (key % 2 ^ 32) (key / 2 ^ 32 % 2 ^ 32) (w 0, w 1, w 2, w 3)
    [a, b, d, e])).flatten

end Sys2Proof.Machine
end

