-- ==== Sys2Proof/Machine/VCoreOps.lean ====
section
/-! DEFINITION. What the V-core instructions share: issue (R209), registers, local memory (R204-R207)
and access faults (R205). -/

namespace Sys2Proof.Machine

/-- V-cores of the package. -/
def vcoreCount : Nat := 32
/-- Bytes of a V-core's local memory (R23). -/
def lmemSize : Nat := 0x400000

def vecBody (s : State) (v : Nat) : List Byte := (sectionOf s 5 v).getD []

/-- No WAITS or SYNC holds the V-core. -/
def vHoldFree (h : Hold) (now : Nat) : Bool :=
  match h with
  | .none => true
  | .releasedAt c => decide (c < now)
  | _ => false

/-- The V-core's issue stands open for the instruction (R209). -/
def vecReady (s : State) (v : Nat) (op : VInstr) : Bool :=
  let m := vc s v
  workOpen s (blk Ty.VCORE v) && m.running && !m.stopped && !m.done && !m.fenced && decide (m.issued ≠ s.now + 1)
    && decide (m.nextIssue ≤ s.now) && vHoldFree m.hold s.now && decide (vecAt (vecBody s v) m.pc = some op)

/-- Registers of a V-core; s0 reads zero. -/
def sreg (m : VCore) (i : Nat) : Nat := if i = 0 then 0 else (Assoc.getD (0 : DWord) i m.sregs).toNat
def vreg (m : VCore) (i : Nat) : VReg := Assoc.getD (0 : VReg) i m.vregs

/-- The named registers hold final values (R209). -/
def regsFinal (m : VCore) (ss vs : List Nat) (now : Nat) : Bool :=
  ss.all (fun i => i == 0 || decide (Assoc.getD 0 i m.sReady ≤ now)) && vs.all (fun i => decide (Assoc.getD 0 i m.vReady ≤ now))

/-- Units of R209's busy column: gather and scatter share one, and SLD, VLD, VGATHER and TBLW the local read port, which
RST does not wait for (DESIGN CHOICE, log entry 76). -/
def uSdiv : Nat := 0
def uVdiv : Nat := 1
def uSort : Nat := 2
def uGather : Nat := 3
def uRng : Nat := 4
def uPort : Nat := 5
def unitsFree (m : VCore) (us : List Nat) (now : Nat) : Bool := us.all (fun u => decide (Assoc.getD 0 u m.busy ≤ now))

/-- Issue an instruction when it may: sources final, units free. -/
def vecGo (s : State) (v : Nat) (op : VInstr) (ss vs us : List Nat) (f : State → State) : State :=
  if vecReady s v op && regsFinal (vc s v) ss vs s.now && unitsFree (vc s v) us s.now then
    f (setVc s v (fun m => { m with pc := m.pc + 1, issued := s.now + 1, hold := .none }))
  else s

/-- Write a scalar register, final for readers from `lat` cc on; writes to s0 are discarded. -/
def putS (s : State) (v sd x lat : Nat) : State :=
  if sd = 0 then s
  else setVc s v (fun m => { m with sregs := Assoc.put sd (some (BitVec.ofNat 64 x)) m.sregs, sReady := Assoc.put sd (some (s.now + lat)) m.sReady })

/-- Write a vector register. -/
def putV (s : State) (v vd : Nat) (x : VReg) (lat : Nat) : State :=
  setVc s v (fun m => { m with vregs := Assoc.put vd (some x) m.vregs, vReady := Assoc.put vd (some (s.now + lat)) m.vReady })

/-- A unit is busy for `n` cc. -/
def holdUnit (s : State) (v u n : Nat) : State := setVc s v (fun m => { m with busy := Assoc.put u (some (s.now + n)) m.busy })

/-- An access of `n` bytes with this alignment lies in local memory (R204). -/
def localOk (a n align : Nat) : Bool := decide (a % align = 0) && decide (a + n ≤ lmemSize)

/-- Access fault (R205): issue stops, the facet keeps PC and address, and the frame faults. -/
def accessFault (s : State) (v pc addr : Nat) : State :=
  let b := blk Ty.VCORE v
  let s := setVc s v (fun m => { m with stopped := true })
  let s := setReg s b Off.VCORE_FAULT_PC (pc % 2 ^ 14)
  let s := setReg s b Off.VCORE_FAULT_ADDR_LO (addr % 2 ^ 32)
  let s := setReg s b Off.VCORE_FAULT_ADDR_HI (addr / 2 ^ 32 % 2 ^ 16)
  errFault s b Err.VCORE_ACCESS_FAULT 0x21

/-- A pending RLD does not write these local bytes (R208). -/
def remoteClear (m : VCore) (a n : Nat) : Bool :=
  match m.remote with
  | some r => r.write || decide (a + n ≤ r.loc) || decide (r.loc + 32 ≤ a)
  | none => true

/-- Read and write local memory through the checker. -/
def lmRead (s : State) (v a n : Nat) : State × List Byte :=
  let (s1, d, _) := memRead s (vmemAddr v a) n
  (s1, d)
def lmWrite (s : State) (v a : Nat) (l : List Byte) : State := (memWrite s (vmemAddr v a) l false).1

/-- Effective address sa + offset, 64 bits. -/
def ea (base : Nat) (off : Int) : Nat := unsignedOf 64 ((base : Int) + off)

/-- PC after a branch: the branch's own PC plus its offset. -/
def branchTo (s : State) (v : Nat) (off : Int) : State :=
  setVc s v (fun m => { m with pc := ((m.pc : Int) - 1 + off).toNat, nextIssue := s.now + 3 })

/-- CSRs (R213). -/
def csrVal (s : State) (v idx : Nat) : Nat :=
  match idx with
  | 0 => s.ft.frame
  | 1 => slotNow s
  | 2 => frameCc s
  | 3 => v
  | 4 => domainId s
  | 5 => s.ft.frame % 4
  | _ => b2n (vc s v).csrSat

end Sys2Proof.Machine
end

