-- ==== Sys2Proof/Machine/Mesh.lean ====
section
/-! DEFINITION. Routers as their commands share them: flit checks (R310, R311), scheduled matching and copies
(R313-R315), ejection (R321), the reduction unit (R327-R329), local deliveries (R315, R330) and the default
route (R318). -/

namespace Sys2Proof.Machine

/-- Routers: 32 stacks and the hub. -/
def routerCount : Nat := 33
/-- Its slot table and its reduction descriptors. -/
def rtBody (s : State) (r : Nat) : List Byte := (sectionOf s 2 r).getD []
def redBody (s : State) (r : Nat) : List Byte := (sectionOf s 3 r).getD []

/-- A payload found correctable or not at a router's input port (R311): counters and flags. -/
def payCorr (s : State) (r port : Nat) : State :=
  let s := countField s (rblk r) Off.ROUTER_PAY_CORR 31 0 1
  let s := match d2dAt r port with
    | some e => countField s (blk Ty.D2D e) Off.D2D_CORR 31 0 1
    | none => s
  setErr s (rblk r) Err.ROUTER_PAY_CORR
def payUncorr (s : State) (r port : Nat) (f : Flit) : State := flitError s r port f Err.ROUTER_PAY_UNCORR 0x10

/-- The payload check of an arriving flit: corrected, or forwarded as read. -/
def checkPayload (s : State) (r port : Nat) (f : Flit) : State × Flit :=
  match f.cls with
  | .clean => (s, f)
  | .dataBit k => (payCorr s r port, { f with pay := f.pay ^^^ BitVec.ofNat 256 (2 ^ k) })
  | .checkBit _ => (payCorr s r port, { f with chk := BitVec.ofNat 32 (latticeCheck f.pay.toNat) })
  | .uncorr => (payUncorr s r port f, f)

/-! ## The reduction unit -/

/-- Input OP, flits of an item and delay C of a KIND (R327, R328). -/
def redOp (kind : Nat) : Nat := kind - 1
def redSize (kind : Nat) : Nat := if kind = 3 then 17 else 1
def redDelay (kind : Nat) : Nat := if kind = 3 then 20 else 4

/-- Flits of an item still open at the reduction unit. -/
def redItem (l : List RedFlit) (rdi q size : Nat) : List RedFlit :=
  l.filter (fun x => x.closed == 0 && x.flit.rdi == rdi && x.flit.seq / size == q)

/-- A copy joins its item (R327, R329); the last one closes it. -/
def redTake (s : State) (r port : Nat) (f : Flit) (t : Nat) : State :=
  let b := redBody s r
  let d := redDesc b f.rdi
  let size := redSize d.kind
  let red := (rtr s r).red
  let item := redItem red f.rdi (f.seq / size) size
  if redCount b ≤ f.rdi ∨ !d.order.contains port ∨ f.op ≠ redOp d.kind
      ∨ item.any (fun x => x.port == port && x.flit.seq == f.seq) then
    flitError s r port f Err.ROUTER_RED_ERR 0x20
  else if 1024 ≤ red.length then flitError s r port f Err.ROUTER_OVERFLOW 0x20
  else
    let close := decide (item.length + 1 = d.n * size)
    setRtr s r fun x =>
      let l := x.red ++ [⟨port, t, 0, f⟩]
      let mine (y : RedFlit) : Bool := y.closed == 0 && y.flit.rdi == f.rdi && y.flit.seq / size == f.seq / size
      { x with red := if close then l.map (fun y => if mine y then { y with closed := t + 1 } else y) else l }

/-- The flits of one input port of an item, by SEQ. -/
def redPart (l : List RedFlit) (port first size : Nat) : List Flit :=
  (List.range size).filterMap (fun k => (l.find? (fun x => x.port == port && x.flit.seq == first + k)).map RedFlit.flit)

/-- Fold of a KIND over the payloads of two items (R327). -/
def redFold (kind : Nat) (a b : List Nat) : List Nat :=
  match kind with
  | 1 => [joinNat 32 (((splitNat 32 8 (a.headD 0)).zip (splitNat 32 8 (b.headD 0))).map (fun (x, y) => devAdd32 x y))]
  | 2 => [joinNat 128 (((splitNat 128 2 (a.headD 0)).zip (splitNat 128 2 (b.headD 0))).map (fun (x, y) => lsAdd x y))]
  | _ =>
    let triple (l : List Nat) : Nat × Nat × List Nat :=
      ((l.headD 0) % 2 ^ 32, (l.headD 0) / 2 ^ 32 % 2 ^ 32, ((l.drop 1).map (splitNat 32 8)).flatten)
    let (m, d, o) := softmaxMerge (triple a) (triple b)
    (m + 2 ^ 32 * d) :: (List.range 16).map (fun k => joinNat 32 ((o.drop (8 * k)).take 8))

/-- The result flits of a closed item (R328). -/
def redResult (d : RedDesc) (l : List RedFlit) (first : Nat) : List Flit :=
  let size := redSize d.kind
  let part (p : Nat) : List Flit := redPart l p first size
  let pays (p : Nat) : List Nat := (part p).map (fun f => f.pay.toNat)
  let r := (d.order.drop 1).foldl (fun acc p => redFold d.kind acc (pays p)) (pays (d.order.headD 0))
  (r.zip (part (d.order.headD 0))).map (fun (x, f) => mkFlit x d.next f.seq f.slot (redOp d.kind) f.key)

/-! ## Scheduled copies -/

/-- The flow that takes a flit arriving on a port at a place of the frame (R313). -/
def matchFlow (s : State) (r port key slot cc : Nat) : Option Flow :=
  if slot < fSlots s then
    (rtFlowsOf (rtBody s r) slot).find? (fun f => f.inp == port && f.key == key && decide (f.cc ≤ cc) && decide (cc < f.cc + f.len))
  else none

/-- Order of flights: by cc, then flow record, then SEQ (R315). -/
def flightLe (a b : Flight) : Bool :=
  decide (a.due < b.due) || (a.due == b.due && (decide (a.flow < b.flow) || (a.flow == b.flow && decide (a.flit.seq ≤ b.flit.seq))))
def flightInsert (x : Flight) : List Flight → List Flight
  | [] => [x]
  | y :: r => if flightLe y x then y :: flightInsert x r else x :: y :: r

/-- Order of local copies likewise. -/
def copyLe (a b : OutCopy) : Bool :=
  decide (a.due < b.due) || (a.due == b.due && (decide (a.flow < b.flow) || (a.flow == b.flow && decide (a.flit.seq ≤ b.flit.seq))))
def copyInsert (x : OutCopy) : List OutCopy → List OutCopy
  | [] => [x]
  | y :: r => if copyLe y x then y :: copyInsert x r else x :: y :: r

/-- Is the port one whose writes EJECT gives: a store, the local memory, the columns, the SLM (R321)? -/
def ejectPort (r port : Nat) : Bool :=
  if r = 32 then port == 8 else (decide (4 ≤ port) && decide (port ≤ 7)) || port == 12 || port == 17

/-- Address of BASE plus an offset behind a local port (R321). -/
def ejectAddr (r port base off : Nat) : Nat :=
  if r < 32 ∧ 4 ≤ port ∧ port ≤ 7 then (if base + off < 0x840000 then mstoreAddr (4 * r + port - 4) (base + off) else 2 ^ 47)
  else if r < 32 ∧ port = 12 then (if base + off < lmemSize then vmemAddr r (base + off) else 2 ^ 47)
  else base + off

/-- What EJECT makes of a flit (R321, R173): its offset, the bytes, the adder operation and whether a
conversion set the range flag. -/
def ejectData (w : Flow) (f : Flit) : Nat × List Byte × Nat × Bool :=
  let conv (m : FFmt) : List Byte × Bool :=
    let c (k : Nat) : Nat × Bool := lsOut m w.b (signedOf 128 (f.pay.toNat / 2 ^ (128 * k)))
    let n := m.bits / 8
    (leBytes n (c 0).1 ++ leBytes n (c 1).1, (c 0).2 || (c 1).2)
  match w.eject with
  | 1 => (32 * f.seq, f.bytes, 0, false)
  | 2 => let (l, x) := conv fFP32; (8 * f.seq, l, 0, x)
  | 3 => let (l, x) := conv fBF16; (4 * f.seq, l, 0, x)
  | 4 => (32 * f.seq, f.bytes, w.aop, false)
  | _ => (0, [], 0, false)

/-- The local copy of a flit at a port (R306, R321). -/
def localCopy (s : State) (r inp port : Nat) (w : Flow) (f : Flit) (t : Nat) : State :=
  let (off, l, aop, range) := if ejectPort r port then ejectData w f else (0, [], 0, false)
  let x : OutCopy := ⟨port, inp, t + 3, ejectAddr r port w.base off, aop, l, w.idx, false, f⟩
  setErrIf range (setRtr s r (fun y => { y with outq := copyInsert x y.outq, sent := y.sent + 1 })) (rblk r) Err.ROUTER_LS_RANGE

/-- A copy of a flit to one output (R306, R313, R333, R455): `t` is the cc of its arrival. -/
def sendCopy (s : State) (r inp : Nat) (w : Flow) (f : Flit) (t port : Nat) : State :=
  let sent (s : State) : State := setRtr s r (fun y => { y with sent := y.sent + 1 })
  if port = 31 then redTake (sent s) r inp f t
  else match d2dAt r port with
    | some e =>
      if (dd s e).ready && decide ((dd s e).width ≠ 0) then
        let (fr, fp) := d2dEnd (d2dPeer e)
        { (sent s) with flights := flightInsert ⟨fr, fp, t + 8, w.idx, f⟩ s.flights }
      else flitError s r inp f Err.ROUTER_LINK_NOT_READY 0x20
    | none =>
      if r < 32 ∧ port = 18 then
        if (gp s (r - 12)).tstate = 7 then setGp (sent s) (r - 12) (fun g => { g with tx := flightInsert ⟨r, port, t + 3, w.idx, f⟩ g.tx })
        else flitError s r inp f Err.ROUTER_LINK_NOT_READY 0x20
      else localCopy s r inp port w f t

/-- A scheduled flit that has passed its checks, at a port in cc `t` (R313, R314). -/
def routeScheduled (s : State) (r port : Nat) (f : Flit) (t : Nat) : State :=
  if workLive s (rblk r) && enabled s (rblk r) then
    let slot := slotAt s t
    match matchFlow s r port f.key slot (ccAt s t) with
    | some w =>
      let n := Assoc.getD 0 (slot * 65536 + w.idx) (rtr s r).passed
      if w.count ≤ n then flitError s r port f Err.ROUTER_MISROUTE 0x20
      else
        let s := setRtr s r (fun x => { x with passed := Assoc.put (slot * 65536 + w.idx) (some (n + 1)) x.passed })
        (maskLanes 32 w.outs).foldl (fun s p => sendCopy s r port w f t p) s
    | none => flitError s r port f Err.ROUTER_MISROUTE 0x20
  else s

/-- A flit arrives at a router's input port in cc `t` (R310, R311, R313). -/
def arriveFlit (s : State) (r port : Nat) (f : Flit) (t : Nat) : State :=
  if good s (rblk r) then
    if !f.tagOk || decide (6 < f.op) then flitError s r port f Err.ROUTER_TAG_ERR 0x13
    else
      let (s, f) := checkPayload s r port f
      if f.op ≤ 2 then routeScheduled s r port f t else s
  else s

/-! ## Local deliveries -/

/-- A flit for a stack mover's receive queue (R405). -/
def moverRx (s : State) (m : Nat) (f : Flit) : State :=
  if 64 ≤ (smv s m).rx.length then errFault s (blk Ty.SMOVER m) Err.SMOVER_RX_OVERFLOW 0x20
  else setSmv s m (fun x => { x with rx := x.rx ++ [f] })

/-- Block entry of the core behind a local port, if one is. -/
def coreBehind (r port : Nat) : Option Nat :=
  if r < 32 ∧ 4 ≤ port ∧ port ≤ 11 then some (blk Ty.MCORE (4 * r + port % 4))
  else if r < 32 ∧ port = 12 then some (blk Ty.VCORE r) else none

/-- The signature record of a delivered copy (R588). -/
def routerSig (s : State) (r : Nat) (f : Flit) : State :=
  setRtr s r (fun x => { x with sig := sigStep x.sig f.bytes f.tag.toNat })

/-- A copy reaches the unit behind its output (R321, R330, R405, R422). A plain EJECT write to an address that is not
there is dropped and reported nowhere (R19; DESIGN CHOICE, log entry 56). -/
def deliverCopy (s : State) (r : Nat) (x : OutCopy) : State :=
  match (coreBehind r x.port).filter (fun b => blockState s b == 1) with
  | some _ =>
    let n := getReg s (rblk r) Off.ROUTER_FENCED_DROPS
    setErrIf (n == 0) (countField s (rblk r) Off.ROUTER_FENCED_DROPS 31 0 1) (rblk r) Err.ROUTER_FENCED_DEST
  | none =>
    let s := routerSig s r x.flit
    if x.taken then s
    else if r < 32 ∧ 13 ≤ x.port ∧ x.port ≤ 16 then moverRx s (4 * r + x.port - 13) x.flit
    else if r = 32 ∧ x.port = 10 then mbFlit s x.flit.key x.flit.bytes
    else if x.data ≠ [] ∧ populated s x.addr ∧ x.aop = 0 then (memWrite s x.addr x.data false).1
    else if x.aop ≠ 0 then raiseFault s (rblk r) 0x20
    else s

/-- Granule of the operand store that a copy writes (R112). -/
def copyUnit (r : Nat) (x : OutCopy) : Option Nat :=
  if r < 32 ∧ 4 ≤ x.port ∧ x.port ≤ 7 ∧ x.data ≠ [] then
    match placeOf x.addr with
    | .mstore _ off => if off < accOff then some (off / 32) else none
    | _ => none
  else none

/-- A write narrower than a granule is a read and a write (R148, R638). -/
def narrowCopy (x : OutCopy) : Bool := decide (x.data.length < 32)

/-- Can the copy be delivered in this cc (R112): is the write port of its bank free for it, and, for a narrow one, the
read port too (R148)? -/
def lineFree (s : State) (r : Nat) (x : OutCopy) : Bool :=
  match copyUnit r x with
  | some u =>
    let m := mc s (4 * r + x.port - 4)
    writePortFree m s.now 0 u && (!narrowCopy x || readPortFree m s.now (u / 32))
  | none => true

/-- The ports that a delivered copy takes. -/
def takeLine (s : State) (r : Nat) (x : OutCopy) : State :=
  match copyUnit r x with
  | some u => setMc s (4 * r + x.port - 4) (fun m => takeWrite s.now 0 u (if narrowCopy x then takeRead s.now (u / 32) m else m))
  | none => s

/-- Is the copy for a unit that takes it by a command of its own: a good column of the stack, the SLM, the
prefix engine? -/
def heldForRow (s : State) (r : Nat) (x : OutCopy) : Bool :=
  if r = 32 then x.port == 8 || x.port == 12
  else x.port == 17 && x.data != [] && (match placeOf x.addr with
    | .dram c _ => decide (c / 16 = r) && good s (blk Ty.COLCTL c)
    | _ => false)

/-- The copies of one output at the end of a cc, oldest first: what is there is delivered until one must
wait, and the order is kept (R315). -/
def serveOut : List OutCopy → State → Nat → State × List OutCopy
  | [], s, _ => (s, [])
  | x :: rest, s, r =>
    if s.now < x.due then (s, x :: rest)
    else if x.taken || (!heldForRow s r x && lineFree s r x) then
      serveOut rest (takeLine (deliverCopy s r x) r x) r
    else if heldForRow s r x && x.port != 8 then
      let (s, l) := serveOut rest s r
      (s, x :: l)
    else (s, x :: rest)

/-- The local outputs of a router at the end of a cc, ascending (R315, R588): a copy that finds 64 waiting is
dropped, and the last such one is the latest error (R335). -/
def routerEnd (s : State) (r : Nat) : State :=
  if (rtr s r).outq = [] then s
  else (List.range 19).foldl (fun s p =>
    let mine := (rtr s r).outq.filter (fun x => x.port == p)
    if mine = [] then s
    else
      let (s, rest) := serveOut mine s r
      let there := rest.filter (fun x => decide (x.due ≤ s.now))
      let full := decide (64 < there.length) && p != 17
      let kept := if full then there.take 64 ++ rest.filter (fun x => decide (s.now < x.due)) else rest
      let s := setRtr s r (fun y => { y with outq := y.outq.filter (fun x => x.port != p) ++ kept })
      match (there.drop 64).getLast? with
      | some x => if full then flitError s r x.inp x.flit Err.ROUTER_OVERFLOW 0x20 else s
      | none => s) s

/-- Mark the copy at place `i` of a router's output list as taken by its unit. -/
def takeCopy (s : State) (r i : Nat) : State :=
  setRtr s r (fun x => { x with outq := x.outq.zipIdx.map (fun (y, k) => if k = i then { y with taken := true } else y) })

/-! ## The default route (R318) -/

/-- Is a mesh port, and the flits per cc that a port takes: 0 when its connection or port is DOWN. -/
def meshPort (r p : Nat) : Bool := (d2dAt r p).isSome
def portRate (s : State) (r p : Nat) : Nat :=
  match d2dAt r p with
  | some e => if (dd s e).ready then 20 * (dd s e).width else 0
  | none =>
    if r < 32 ∧ p = 18 then
      (if good s (blk Ty.GPORT (r - 12)) then (if (gp s (r - 12)).width = 2 then 5 else if (gp s (r - 12)).width = 1 then 2 else 0) else 0)
    else 40

/-- Scheduled flits take the whole of an output in this cc (R316). -/
def outputFull (s : State) (r port : Nat) : Bool :=
  match d2dAt r port with
  | some e =>
    let (nr, np) := d2dEnd (d2dPeer e)
    decide (portRate s r port ≤ (s.flights.filter (fun x => x.router == nr && x.port == np && x.due == s.now + 8)).length)
  | none => decide (portRate s r port ≤ ((rtr s r).outq.filter (fun x => x.port == port && x.due == s.now)).length)

/-- Output port towards a router. -/
def routePort (r dest : Nat) : Nat :=
  if r = 32 then
    let (x, y) := siteOf dest
    if x < 2 then (if y ≤ 2 then 7 else 6)
    else if 3 < x then (if y ≤ 2 then 2 else 3)
    else if y < 2 then (if x = 2 then 0 else 1)
    else if x = 2 then 5 else 4
  else
    let (x, y) := siteOf r
    let clamp (v : Nat) : Nat := max 2 (min 3 v)
    let (tx, ty) := if dest = 32 then (clamp x, clamp y) else siteOf dest
    if x < tx then 1 else if tx < x then 3 else if y < ty then 2 else 0

end Sys2Proof.Machine
end

