-- ==== Sys2Proof/Machine/Tile.lean ====
section
/-! DEFINITION. The tile operations of the M-cores and the events of their pipes (04). -/

namespace Sys2Proof.Machine

/-- M-cores of the package. -/
def mcoreCount : Nat := 128

/-! ## MAC -/

/-- The MAC pipe is free (R129). -/
def macFree (s : State) (g : Nat) : Bool := (mc s g).mac.isNone && decide ((mc s g).fillUntil ≤ s.now)

/-- Issue of a MAC: the pipe takes it, and the reader its first lines (R124, R133). -/
def macIssue (s : State) (g : Nat) (o : MacOp) : State :=
  let s := tileIssue s g
  let m := mc s g
  let n := (ruList o.rumask).length
  let r : MacRun := { op := o, issue := s.now, wline := if o.wsrc = 0 then baseLine m o.wbase + o.woff else 0,
                      step := 0, firstStep := none, lastStep := s.now, read := 0, buf := [], scaleLines := [],
                      acc := List.replicate n (List.replicate 128 0) }
  macReader (setMc s g (fun m => { m with mac := some r })) g 0

/-- MAC (R133, R129). -/
def execMac (g : Nat) (o : MacOp) (s : State) : Host.Outcome State Fault Refusal :=
  onUnit mcoreCount g s fun s => if tileReady s g (.mac o) && macFree s g then macIssue s g o else s

/-- Lines of the operation that the MAC reader had read before this cc (R124). -/
def readBefore (m : MCore) (r : MacRun) (now : Nat) : Nat := r.read - (if m.took.1 = now then m.took.2.2 else 0)

/-- The next step may issue in this cc (R124, R125): its lines were read, or arrived, before it. -/
def stepDue (m : MCore) (r : MacRun) (now : Nat) : Bool :=
  decide (r.lastStep < now) &&
    (if r.op.wsrc = 0 then decide (endLine r.op r.step ≤ readBefore m r now)
     else
      let k := linesOfStep r.op r.step
      decide (k ≤ m.stream.length) && ((m.stream.take k).all (fun x => decide (x.1 < now))))

/-- The lines of a step from the stream buffer through its checker (R115, R125). -/
def streamLines (s : State) (g k : Nat) : State × List (List Byte) :=
  let m := mc s g
  if sramClean s then (s, (m.stream.take k).map Prod.snd)
  else (List.range k).foldl (fun (s, ls) j =>
    let (s, l) := (List.range 32).foldl (fun (x : State × List Byte) i =>
      let (s1, d, _) := sramRead x.1 (streamGran g (m.streamAt + j) i)
      (s1, x.2 ++ d)) (s, [])
    (s, ls ++ [l])) (s, [])

/-- The activation registers as a step reads them through their checkers (R115): the reports of the granules read, and
the core with its correctable register bits corrected. -/
def aregChecked (s : State) (g : Nat) (o : MacOp) (j : Nat) : State × MCore :=
  if sramClean s then (s, mc s g)
  else
    let regs := if o.mode = 1 then [o.areg] else ruList o.rumask
    let grans := ((regs.map (fun r => chunkGranules o g r j)).flatten).eraseDups
    grans.foldl (fun (s, m) i =>
      let (s1, d, _) := sramRead s i
      (s1, d.zipIdx.foldl (fun m (b, k) => aregPut m (32 * (i % 4096) + k, b)) m)) (s, mc s g)

/-- A step issues (R121, R122, R162-R164): it takes its lines and adds into the lane accumulators; the
last step leaves the pipe and its writeback falls due 24 cc later (R140). -/
def macStepGo (s : State) (g : Nat) (r : MacRun) : State :=
  let o := r.op
  let k := linesOfStep o r.step
  let (s, taken) := if o.wsrc = 0 then (s, r.buf.take k) else streamLines s g k
  let (s, m) := aregChecked s g o r.step
  let gl := if r.step % 8 = 0 then groupLines o else 0
  let scales := if r.step % 8 = 0 then taken.take gl else r.scaleLines
  let (acc, gated) := macStepAll m o r.step r.acc (taken.drop gl) scales
  let first := r.firstStep.getD s.now
  let r' := { r with step := r.step + 1, firstStep := some first, lastStep := s.now,
                     buf := if o.wsrc = 0 then r.buf.drop k else [], scaleLines := scales, acc := acc }
  let wb : Writeback := ⟨s.now + 24, first, o.arow, o.rumask, o.acc == 1, acc⟩
  setMc s g fun m =>
    { m with mac := if r.step + 1 = macSteps o then none else some r',
             wbs := if r.step + 1 = macSteps o then m.wbs ++ [wb] else m.wbs,
             stream := if o.wsrc = 0 then m.stream else m.stream.drop k,
             streamAt := if o.wsrc = 0 then m.streamAt else (m.streamAt + k) % 64,
             steps := m.steps + 1, gatedN := m.gatedN + gated,
             products := m.products + (ruList o.rumask).length * 128 * macD o,
             winWork := m.winWork + (if macD o = 8 then 60 else 86) * (ruList o.rumask).length,
             winGated := m.winGated + gated, winProd := m.winProd + (ruList o.rumask).length * 128 * macD o }

/-- MAC_STEP (R124, R125). -/
def execMacStep (g : Nat) (s : State) : Host.Outcome State Fault Refusal :=
  onUnit mcoreCount g s fun s =>
    match (mc s g).mac with
    | some r => if workOpen s (blk Ty.MCORE g) && stepDue (mc s g) r s.now then macStepGo s g r else s
    | none => s

/-- Rows of a writeback in ascending logical row unit, each added to or overwritten (R140, R165); a row
that a CLR clears in the same cc stays clear (R114). -/
def writebackRows (s : State) (g : Nat) (w : Writeback) : State :=
  ((ruList w.rumask).zip w.acc).foldl (fun s (i, a) =>
    let row := 4 * w.arow + i
    if clearedNow s g row then s
    else if w.add then
      let (s1, old) := readRow s g row
      writeRow s1 g row ((old.zip a).map (fun (x, y) => BitVec.ofNat 32 (devAdd32 x y.toNat)))
    else writeRow s g row a) s

/-- MAC_WRITEBACK (R140). -/
def execMacWriteback (g : Nat) (s : State) : Host.Outcome State Fault Refusal :=
  onUnit mcoreCount g s fun s =>
    match (mc s g).wbs with
    | w :: rest =>
      if awake s && workLive s (blk Ty.MCORE g) && decide ((mc s g).fenceAt = 0 ∨ s.now < (mc s g).fenceAt) && decide (w.due ≤ s.now) then
        writebackRows (setMc s g (fun m => { m with wbs := rest, lastWr := s.now + 1 })) g w
      else s
    | [] => s

/-! ## LDA -/

/-- Issue of an LDA: its lines fall to the load unit, which reads those with free banks in this cc. -/
def ldaIssue (s : State) (g : Nat) (o : LdaOp) : State :=
  let s := tileIssue s g
  let first := baseLine (mc s g) o.base + o.off
  let dst := 32768 * o.areg + 16384 * o.side + 1024 * o.dline
  setMc s g (fun m => { m with lda := (List.range (o.lines + 1)).map (fun i => ((first + i) % 8192, dst + 1024 * i)) })

/-- LDA (R134). -/
def execLda (g : Nat) (o : LdaOp) (s : State) : Host.Outcome State Fault Refusal :=
  onUnit mcoreCount g s fun s =>
    if tileReady s g (.lda o) && decide ((mc s g).lda = []) && decide ((mc s g).loadFree ≤ s.now) then ldaIssue s g o
    else s

/-! ## FIN -/

/-- Issue of a FIN: the finisher takes the pass with its destination and its scales and biases (R135, R136). In which cc
and through which port the scale and bias line is read is left open: it is read whole at issue and takes no bank (DESIGN
CHOICE, log entry 58). -/
def finIssue (s : State) (g : Nat) (o : FinOp) : State :=
  let pc := (mc s g).pc
  let s := tileIssue s g
  let m := mc s g
  let (s, sb) := if o.scaleEn = 1 then readLine s g (baseLine m o.sbbase + o.sboff) else (s, [])
  let run : FinRun := { op := o, pc := pc, issue := s.now, dst := (nth m.bases o.dbase + o.doff) % 65536 * 128,
                        sb := (List.range 256).map (fun i => BitVec.ofNat 32 (leNat ((sb.drop (4 * i)).take 4))),
                        rowsRead := [], nextRow := 0, written := 0 }
  setMc s g (fun m => { m with fins := m.fins ++ [run], finFree := s.now + o.rows + 1,
                               linesRead := m.linesRead + o.scaleEn, winLines := m.winLines + o.scaleEn })

/-- FIN (R135, R129). -/
def execFin (g : Nat) (o : FinOp) (s : State) : Host.Outcome State Fault Refusal :=
  onUnit mcoreCount g s fun s =>
    if tileReady s g (.fin o) && decide ((mc s g).finFree ≤ s.now) then finIssue s g o else s

/-- The flits of a row for an injection queue (R324), from its values converted to OFMT (R176; 12 for LS and MERGE), and
whether a conversion set the range flag. -/
def rowFlits (m : MCore) (q : QueueRec) (o : FinOp) (row : Nat) (zs : List Nat) : List Nat × Nat × Bool :=
  let zs := if q.mode = 1 ∨ q.mode = 2 then zs.map (fun z => plainOut 12 (o.sat == 1) (f32 z)) else zs
  match q.mode with
  | 1 =>
    let cs := zs.map (fun z => lsIn q.b (fFP32.dec false z))
    (((List.range 64).map (fun i => unsignedOf 128 (cs.getD (2 * i) (0, false)).1 + 2 ^ 128 * unsignedOf 128 (cs.getD (2 * i + 1) (0, false)).1)),
      1, cs.any Prod.snd)
  | 2 =>
    let pair := Assoc.getD ((0xFF800000 : Word), (0 : Word)) ((((row : Int) + q.delta) % 512).toNat) m.smx
    ((pair.1.toNat + 2 ^ 32 * pair.2.toNat) :: (List.range 16).map (fun k => joinNat 32 ((zs.drop (8 * k)).take 8)), 2, false)
  | _ =>
    let (els, scs) := rowOut o.ofmt (o.sat == 1) zs
    ((List.range (els.length / 32)).map (fun i => leNat ((els.drop (32 * i)).take 32)) ++ (if scs = [] then [] else [leNat scs]), 0, false)

/-- A finished row put in its injection queue (R323-R325): dropped whole, with OVERFLOW, when it does not
fit, where LAST_ERR takes the KEY and SEQ of its first flit (R335; DESIGN CHOICE, log entry 76); a fenced core injects
nothing further (R331). -/
def injectRow (s : State) (g : Nat) (f : FinRun) (row : Nat) (zs : List Nat) : State :=
  let r := g / 4
  let q := f.op.doff % 32
  match if good s (blk Ty.MCORE g) then rtQueueOf ((sectionOf s 2 r).getD []) (g % 4) q else none with
  | none => s
  | some rec =>
    let m := mc s g
    let (pays, op, range) := rowFlits m rec f.op row zs
    let s := setErrIf range s (blk Ty.ROUTER r) Err.ROUTER_LS_RANGE
    let old := Assoc.getD [] q m.inj
    let seq0 := Assoc.getD rec.seq0 q m.injSeq
    if 256 < old.length + pays.length then
      flitError s r (8 + g % 4) (mkFlit (pays.headD 0) rec.rdi seq0 0 op rec.key) Err.ROUTER_OVERFLOW 0x20
    else
      let fl := pays.zipIdx.map (fun (p, i) => (⟨s.now, mkFlit p rec.rdi (seq0 + i) 0 op rec.key⟩ : InjFlit))
      setMc s g fun m =>
        { m with inj := Assoc.put q (some (old ++ fl)) m.inj, injSeq := Assoc.put q (some ((seq0 + pays.length) % 4096)) m.injSeq }

/-- Write the elements and scales of row i of a pass (R136, R185); operand-store bytes reach the store at the end of the
cc. Of a DEST 1 pass that runs past a side, or whose 6-bit blocks begin at no multiple of 24, the spec is silent: elements
wrap modulo 16 KiB, and each scale is placed from its block's offset before the wrap, rounded down (DESIGN CHOICE, log
entry 59). -/
def finWrite (s : State) (g : Nat) (f : FinRun) (i : Nat) (zs : List Nat) : State :=
  let o := f.op
  let b := ofmtBits o.ofmt
  let z := scaleBytes o.ofmt
  let (els, scs) := rowOut o.ofmt (o.sat == 1) zs
  if o.dest = 0 then
    let put (off : Nat) (l : List Byte) : List (Nat × List Byte) :=
      let off := off % 0x800000
      [(off, l.take (0x800000 - off)), (0, l.drop (0x800000 - off))].filter (fun x => x.2 != [])
    let scAt := f.dst + ceilDiv (16 * b * (o.rows + 1)) 128 * 128 + 4 * z * i
    let units := (granulesOf (f.dst + 16 * b * i) els.length ++ granulesOf scAt scs.length).map (fun k => k % 0x40000)
    setMc s g (fun m => { m with finLines := (s.now + 1, units.eraseDups),
                                 finOut := m.finOut ++ put (f.dst + 16 * b * i) els ++ put scAt scs })
  else if o.dest = 1 then
    let reg := fieldOf o.doff 12 11
    let at_ := 128 * fieldOf o.doff 6 0 + 16 * b * i
    let els' := els.zipIdx.map (fun (x, k) => (32768 * reg + (at_ + k) % 16384, x))
    let scs' := scs.zipIdx.map (fun (x, k) => (32768 * reg + 16384 + ((at_ / (4 * b)) * z + k) % 16384, x))
    setMc s g (fun m => { m with aregCc := m.aregCc ++ els' ++ scs' })
  else injectRow s g f (o.arow + i) zs

/-- One row leaves the finisher (R136, R176-R185): the stages in order, the softmax pair of its row, then
its destination. -/
def finRowOut (s : State) (g : Nat) (f : FinRun) (i : Nat) (xs : List Word) : State :=
  let o := f.op
  let m := mc s g
  let ys := scaleBias o f.sb (xs.map BitVec.toNat)
  let (s, zs) :=
    if o.smx = 1 then
      let (mx, l, ps) := softmaxRow ys
      (setMc s g (fun m => { m with smx := Assoc.put (o.arow + i) (some (BitVec.ofNat 32 mx, BitVec.ofNat 32 l)) m.smx }), ps)
    else (s, ys.map (funcEval m o.func))
  finWrite s g f i zs

/-- The first pass with a row to write. -/
def finNext (m : MCore) : Option (FinRun × Nat × List Word) :=
  match m.fins with
  | f :: _ => match f.rowsRead with
    | (i, xs) :: _ => some (f, i, xs)
    | [] => none
  | [] => none

/-- A pass with its row written; a pass that has written all its rows is over. -/
def finDrop (m : MCore) : MCore :=
  match m.fins with
  | f :: rest =>
    let f' := { f with rowsRead := f.rowsRead.drop 1, written := f.written + 1 }
    { m with fins := if f'.written = f.op.rows + 1 then rest else f' :: rest }
  | [] => m

/-- FIN_OUTPUT (R136). -/
def execFinOutput (g : Nat) (s : State) : Host.Outcome State Fault Refusal :=
  onUnit mcoreCount g s fun s =>
    match finNext (mc s g) with
    | some (f, i, xs) =>
      if awake s && workLive s (blk Ty.MCORE g) && decide ((mc s g).fenceAt = 0 ∨ s.now < (mc s g).fenceAt) && decide (f.issue + i + 12 ≤ s.now) then
        finRowOut (setMc s g (fun m => { (finDrop m) with lastWr := s.now + 1 })) g f i xs
      else s
    | none => s

/-! ## CLR, FILL -/

/-- Issue of a CLR: the first four rows are cleared at once (R137). -/
def clrIssue (s : State) (g row rows : Nat) : State :=
  let s := tileIssue s g
  let c := (row, rows + 1, s.now)
  let s := setMc s g (fun m => { m with clr := some c, clrFree := s.now + ceilDiv (rows + 1) 4 })
  (clrRows c s.now).foldl (fun s r => writeRow s g r (List.replicate 128 0)) s

/-- CLR (R137); `rows` is ROWS - 1 as encoded. -/
def execClr (g row rows : Nat) (s : State) : Host.Outcome State Fault Refusal :=
  onUnit mcoreCount g s fun s =>
    if tileReady s g (.clr row rows) && decide ((mc s g).clrFree ≤ s.now) then clrIssue s g row rows else s

/-- FILL (R137, R129): the MAC pipe is held; nothing is written. -/
def execFill (g count rumask : Nat) (s : State) : Host.Outcome State Fault Refusal :=
  onUnit mcoreCount g s fun s =>
    if tileReady s g (.fill count rumask) && macFree s g then
      let n := if count = 0 then 4096 else count
      setMc (tileIssue s g) g (fun m => { m with fillUntil := s.now + n, fillRus := (ruList rumask).length })
    else s

/-! ## WAIT -/

/-- WAIT (R137): the operation issues and holds the sequencer. -/
def execWait (g slot cc : Nat) (s : State) : Host.Outcome State Fault Refusal :=
  onUnit mcoreCount g s fun s =>
    if tileReady s g (.wait slot cc) then setMc (tileIssue s g) g (fun m => { m with hold := .position slot cc })
    else s

/-- Frame position of a cc as units count it (R127). -/
def frameCcAt (s : State) (t : Nat) : Nat := 64 * slotAt s t + ccAt s t

/-- WAIT_RELEASE (R137): at the position, or at once with WAIT_LATE when the WAIT was reached after it. -/
def execWaitRelease (g : Nat) (s : State) : Host.Outcome State Fault Refusal :=
  onUnit mcoreCount g s fun s =>
    match (mc s g).hold with
    | .position slot cc =>
      if workOpen s (blk Ty.MCORE g) && decide (64 * slot + cc ≤ frameCc s) then
        let late := decide (64 * slot + cc < frameCcAt s ((mc s g).issued - 1))
        setErrIf late (setMc s g (fun m => { m with hold := .none })) (blk Ty.MCORE g) Err.MCORE_WAIT_LATE
      else s
    | _ => s

/-! ## Control -/

/-- NOP (R132). -/
def execNop (g : Nat) (s : State) : Host.Outcome State Fault Refusal :=
  onUnit mcoreCount g s fun s => if tileReady s g .nop then tileIssue s g else s

/-- LOOP (R138): COUNT 0 means 4,096; the body follows. -/
def execLoop (g count len : Nat) (s : State) : Host.Outcome State Fault Refusal :=
  onUnit mcoreCount g s fun s =>
    if tileReady s g (.loop count len) then
      setMc s g fun m =>
        let fr : LoopFrame := ⟨m.pc + 1, m.pc + 1 + len, if count = 0 then 4096 else count⟩
        { m with pc := m.pc + 1, loops := fr :: m.loops, issued := s.now + 1, hold := .none }
    else s

/-- SETB (R138). -/
def execSetb (g reg imm plog stride : Nat) (s : State) : Host.Outcome State Fault Refusal :=
  onUnit mcoreCount g s fun s =>
    if tileReady s g (.setb reg imm plog stride) then
      setMc (tileIssue s g) g fun m =>
        { m with bases := setNth m.bases reg ((imm + s.ft.frame % 2 ^ plog * stride) % 65536) }
    else s

/-- ADDB (R138). -/
def execAddb (g reg : Nat) (imm : Int) (s : State) : Host.Outcome State Fault Refusal :=
  onUnit mcoreCount g s fun s =>
    if tileReady s g (.addb reg imm) then
      setMc (tileIssue s g) g fun m =>
        { m with bases := setNth m.bases reg (((nth m.bases reg : Int) + imm) % 65536).toNat }
    else s

/-- BRF (R138): skips SKIP operations when N mod 2^PLOG equals VALUE. -/
def execBrf (g plog value skip : Nat) (s : State) : Host.Outcome State Fault Refusal :=
  onUnit mcoreCount g s fun s =>
    if tileReady s g (.brf plog value skip) then
      let k := if s.ft.frame % 2 ^ plog = value then skip else 0
      setMc s g (fun m => { (m.goto (m.pc + 1 + k)) with issued := s.now + 1, hold := .none })
    else s

/-- END (R130). -/
def execTileEnd (g : Nat) (s : State) : Host.Outcome State Fault Refusal :=
  onUnit mcoreCount g s fun s =>
    if tileReady s g .endFrame then setMc (tileIssue s g) g (fun m => { m with ended := true }) else s

/-- The frame work is over (R130): in an earlier cc END has issued, or the program has run out, every unit was free, and
the last writes were made. -/
def mcoreFinished (s : State) (g : Nat) : Bool :=
  let m := mc s g
  (m.ended || decide (tileCount (tileBody s g) ≤ m.pc)) && decide (m.issued ≤ s.now) && holdFree m.hold s.now
    && m.mac.isNone && decide (m.fillUntil < s.now) && decide (m.lda = []) && decide (m.loadFree < s.now)
    && decide (m.finFree < s.now) && decide (m.clrFree < s.now) && decide (m.wbs = []) && decide (m.fins = [])
    && decide (m.lastWr ≤ s.now)

/-- MCORE_DONE (R130). -/
def execMcoreDone (g : Nat) (s : State) : Host.Outcome State Fault Refusal :=
  onUnit mcoreCount g s fun s =>
    if doneOpen s (blk Ty.MCORE g) && (mc s g).running && !(mc s g).done && mcoreFinished s g then
      setMc s g (fun m => { m with done := true, running := false })
    else s

end Sys2Proof.Machine
end

