-- ==== Sys2Proof/Machine/VCores.lean ====
section
/-! DEFINITION. The V-core instructions (06). -/

namespace Sys2Proof.Machine

/-! ## Scalar -/

/-- NOP (R198). -/
def execVcoreNop (v : Nat) (s : State) : Host.Outcome State Fault Refusal :=
  onUnit vcoreCount v s fun s => vecGo s v .nop [] [] [] id

/-- Latency of a SOP function, and the unit it needs (R209). -/
def sopLat (fn : Nat) : Nat := if fn = 16 ∨ fn = 17 then 12 else if fn = 2 ∨ 13 ≤ fn then 3 else 1
def sopUnits (fn : Nat) : List Nat := if fn = 16 ∨ fn = 17 then [uSdiv] else []
/-- Registers that a SOP function reads: fsqrt, f2i and i2f have one operand (R199). -/
def sopReads (sa sb fn : Nat) : List Nat := if 17 ≤ fn then [sa] else [sa, sb]

/-- SOP (R199). -/
def execSop (v sd sa sb fn : Nat) (s : State) : Host.Outcome State Fault Refusal :=
  onUnit vcoreCount v s fun s =>
    vecGo s v (.sop sd sa sb fn) (sopReads sa sb fn) [] (sopUnits fn) fun s =>
      let m := vc s v
      let (fr, s) := if fn = 18 ∧ (sF (sreg m sa)).isNan then draw s 32 else (0, s)
      let s := if fn = 16 ∨ fn = 17 then holdUnit s v uSdiv 12 else s
      putS s v sd (sopFn fn (sreg m sa) (sreg m sb) fr) (sopLat fn)

/-- SADDI (R198). -/
def execSaddi (v sd sa : Nat) (imm : Int) (s : State) : Host.Outcome State Fault Refusal :=
  onUnit vcoreCount v s fun s => vecGo s v (.saddi sd sa imm) [sa] [] [] fun s => putS s v sd (ea (sreg (vc s v) sa) imm) 1

/-- SMOVK (R198): bits [16q + 15 : 16q] of sd; the others are kept. -/
def execSmovk (v sd q imm : Nat) (s : State) : Host.Outcome State Fault Refusal :=
  onUnit vcoreCount v s fun s =>
    vecGo s v (.smovk sd q imm) [sd] [] [] fun s => putS s v sd (putField (sreg (vc s v) sd) (16 * q + 15) (16 * q) imm) 1

/-- SLD (R198, R204): 8-byte aligned. -/
def execSld (v sd sa : Nat) (imm : Int) (s : State) : Host.Outcome State Fault Refusal :=
  onUnit vcoreCount v s fun s =>
    let pc := (vc s v).pc
    let a := ea (sreg (vc s v) sa) imm
    if remoteClear (vc s v) a 8 then
      vecGo s v (.sld sd sa imm) [sa] [] [uPort] fun s =>
        if localOk a 8 8 then
          let (s, d) := lmRead s v a 8
          putS s v sd (leNat d) 4
        else accessFault s v pc a
    else s

/-- SST (R198): the register that SD names is stored. -/
def execSst (v sd sa : Nat) (imm : Int) (s : State) : Host.Outcome State Fault Refusal :=
  onUnit vcoreCount v s fun s =>
    let pc := (vc s v).pc
    let a := ea (sreg (vc s v) sa) imm
    vecGo s v (.sst sd sa imm) [sd, sa] [] [] fun s =>
      if localOk a 8 8 then vcSig (lmWrite s v a (leBytes 8 (sreg (vc s v) sd))) v (vmemAddr v a / 32)
      else accessFault s v pc a

/-- BEQ, BNE, BLT (R198). -/
def execBeq (v sa sb : Nat) (off : Int) (s : State) : Host.Outcome State Fault Refusal :=
  onUnit vcoreCount v s fun s =>
    vecGo s v (.beq sa sb off) [sa, sb] [] [] fun s =>
      if sreg (vc s v) sa = sreg (vc s v) sb then branchTo s v off else s
def execBne (v sa sb : Nat) (off : Int) (s : State) : Host.Outcome State Fault Refusal :=
  onUnit vcoreCount v s fun s =>
    vecGo s v (.bne sa sb off) [sa, sb] [] [] fun s =>
      if sreg (vc s v) sa ≠ sreg (vc s v) sb then branchTo s v off else s
def execBlt (v sa sb : Nat) (off : Int) (s : State) : Host.Outcome State Fault Refusal :=
  onUnit vcoreCount v s fun s =>
    vecGo s v (.blt sa sb off) [sa, sb] [] [] fun s =>
      if signedOf 64 (sreg (vc s v) sa) < signedOf 64 (sreg (vc s v) sb) then branchTo s v off else s

/-- JMP (R198). -/
def execJmp (v : Nat) (off : Int) (s : State) : Host.Outcome State Fault Refusal :=
  onUnit vcoreCount v s fun s => vecGo s v (.jmp off) [] [] [] fun s => branchTo s v off

/-- CSRR (R213). -/
def execCsrr (v sd idx : Nat) (s : State) : Host.Outcome State Fault Refusal :=
  onUnit vcoreCount v s fun s => vecGo s v (.csrr sd idx) [] [] [] fun s => putS s v sd (csrVal s v idx) 1

/-- WAITS (R198, R210). -/
def execWaits (v slot cc : Nat) (s : State) : Host.Outcome State Fault Refusal :=
  onUnit vcoreCount v s fun s =>
    vecGo s v (.waits slot cc) [] [] [] fun s => setVc s v (fun m => { m with hold := .position slot cc })

/-- WAITS_RELEASE (R210). -/
def execWaitsRelease (v : Nat) (s : State) : Host.Outcome State Fault Refusal :=
  onUnit vcoreCount v s fun s =>
    match (vc s v).hold with
    | .position slot cc =>
      if workOpen s (blk Ty.VCORE v) && decide (64 * slot + cc ≤ frameCc s) then
        let t := (vc s v).issued - 1
        let late := decide (64 * slot + cc < 64 * slotAt s t + ccAt s t)
        setErrIf late (setVc s v (fun m => { m with hold := .none })) (blk Ty.VCORE v) Err.VCORE_WAIT_LATE
      else s
    | _ => s

/-- END (R210): also when the program has run past its last instruction. -/
def execVcoreEnd (v : Nat) (s : State) : Host.Outcome State Fault Refusal :=
  onUnit vcoreCount v s fun s =>
    let m := vc s v
    let past := workOpen s (blk Ty.VCORE v) && m.running && !m.stopped && !m.done && !m.fenced
      && decide (m.issued ≠ s.now + 1) && vHoldFree m.hold s.now && decide (vecCount (vecBody s v) ≤ m.pc)
    if vecReady s v .endFrame || past then setVc s v (fun m => { m with done := true, issued := s.now + 1 }) else s

/-! ## Tables and remote access -/

/-- TBLW (R191-R193): the record at local address sa goes to the staged copy of table u of each masked
M-core of the stack that is good. -/
def execTblw (v sa mcmask u : Nat) (s : State) : Host.Outcome State Fault Refusal :=
  onUnit vcoreCount v s fun s =>
    let pc := (vc s v).pc
    let a := sreg (vc s v) sa
    if remoteClear (vc s v) a 3104 then
      vecGo s v (.tblw sa mcmask u) [sa] [] [uPort] fun s =>
        if localOk a 3104 32 then
          let (s, r) := lmRead s v a 3104
          let s := setErrIf (recordBad r) s (blk Ty.VCORE v) Err.VCORE_TBL_BAD
          let s := (ruList4 mcmask).foldl (fun s m =>
            if good s (blk Ty.MCORE (4 * v + m)) then
              setMc s (4 * v + m) (fun c => { c with tabStaged := Assoc.put u (some r) c.tabStaged })
            else s) s
          holdUnit s v uPort 13
        else accessFault s v pc a
    else s
where
  /-- Members of a 4-bit mask. -/
  ruList4 (mask : Nat) : List Nat := (List.range 4).filter (fun i => mask.testBit i)

/-- RLD and RST leave as unscheduled requests (R208); both sides are whole granules. -/
def remoteIssue (s : State) (v : Nat) (write : Bool) (dev loc pc : Nat) : State :=
  if !localOk loc 32 32 then accessFault s v pc loc
  else if dev % 32 ≠ 0 then accessFault s v pc dev
  else
    let (s, d) := if write then lmRead s v loc 32 else (s, [])
    let s := newRequest s v 12 0 v write 0 0 dev d
    setVc s v (fun m => { m with remote := some ⟨write, dev, loc, pc, none⟩ })

/-- RLD (R208). -/
def execRld (v sa sb : Nat) (s : State) : Host.Outcome State Fault Refusal :=
  onUnit vcoreCount v s fun s =>
    let m := vc s v
    if m.remote.isNone then
      vecGo s v (.rld sa sb) [sa, sb] [] [] fun s => remoteIssue s v false (sreg m sa) (sreg m sb) m.pc
    else s

/-- RST (R208). -/
def execRst (v sa sb : Nat) (s : State) : Host.Outcome State Fault Refusal :=
  onUnit vcoreCount v s fun s =>
    let m := vc s v
    if m.remote.isNone then
      vecGo s v (.rst sa sb) [sa, sb] [] [] fun s => remoteIssue s v true (sreg m sa) (sreg m sb) m.pc
    else s

/-- REMOTE_ACCESS_COMPLETE (R208): the reply has come; an address error is an access fault (R205); a
halted or fenced V-core's result is discarded (R563, R578). -/
def execRemoteAccessComplete (v : Nat) (s : State) : Host.Outcome State Fault Refusal :=
  onUnit vcoreCount v s fun s =>
    match (vc s v).remote with
    | some r =>
      match r.result with
      | some (d, st) =>
        let s := setVc s v (fun m => { m with remote := none })
        if (Assoc.get? v s.ft.stops).isSome || (vc s v).fenced then s
        else if st = 1 then accessFault s v r.pc r.dev
        else if r.write then s
        else lmWrite s v r.loc d
      | none => s
    | none => s

/-! ## Vector memory -/

/-- VLD (R198, R204). -/
def execVld (v vd sa : Nat) (off : Int) (s : State) : Host.Outcome State Fault Refusal :=
  onUnit vcoreCount v s fun s =>
    let pc := (vc s v).pc
    let a := ea (sreg (vc s v) sa) (32 * off)
    if remoteClear (vc s v) a 256 then
      vecGo s v (.vld vd sa off) [sa] [] [uPort] fun s =>
        if localOk a 256 32 then
          let (s, d) := lmRead s v a 256
          putV s v vd (BitVec.ofNat 2048 (leNat d)) 6
        else accessFault s v pc a
    else s

/-- VST (R198, R204). -/
def execVst (v vd sa : Nat) (off : Int) (s : State) : Host.Outcome State Fault Refusal :=
  onUnit vcoreCount v s fun s =>
    let pc := (vc s v).pc
    let a := ea (sreg (vc s v) sa) (32 * off)
    vecGo s v (.vst vd sa off) [sa] [vd] [] fun s =>
      if localOk a 256 32 then
        vcSigSpan (lmWrite s v a (leBytes 256 (vreg (vc s v) vd).toNat)) v (vmemAddr v a) 256
      else accessFault s v pc a

/-- Addresses of the elements of a gather or scatter: indices of the element's own width, unsigned. -/
def elemAddrs (base : Nat) (t : Nat) (idx : VReg) : List Nat :=
  (vElems t idx).map (fun i => (base + i * (vWidth t / 8)) % 2 ^ 64)

/-- The first element address that is out of range or misaligned (R205). -/
def badElem (t : Nat) (l : List Nat) : Option Nat := l.find? (fun a => !localOk a (vWidth t / 8) (vWidth t / 8))

/-- VGATHER (R198): a faulting element leaves the whole without effect (R205). -/
def execVgather (v vd sa vb t : Nat) (s : State) : Host.Outcome State Fault Refusal :=
  onUnit vcoreCount v s fun s =>
    let m := vc s v
    let w := vWidth t / 8
    let as := elemAddrs (sreg m sa) t (vreg m vb)
    if as.all (fun a => remoteClear m a w) then
      vecGo s v (.vgather vd sa vb t) [sa] [vb] [uGather, uPort] fun s =>
        match badElem t as with
        | some a => accessFault s v m.pc a
        | none =>
          let (s, xs) := as.foldl (fun (p : State × List Nat) a =>
            let (s1, d) := lmRead p.1 v a w
            (s1, p.2 ++ [leNat d])) (s, [])
          let k := ceilDiv (vCount t) 8
          holdUnit (putV s v vd (vMake t xs) (k + 6)) v uGather k
    else s

/-- VSCATTER (R206): ascending elements, the highest governing; the granules written enter the signature
once each, ascending. -/
def execVscatter (v vd sa vb t : Nat) (s : State) : Host.Outcome State Fault Refusal :=
  onUnit vcoreCount v s fun s =>
    let m := vc s v
    let w := vWidth t / 8
    let as := elemAddrs (sreg m sa) t (vreg m vb)
    vecGo s v (.vscatter vd sa vb t) [sa] [vd, vb] [uGather] fun s =>
      match badElem t as with
      | some a => accessFault s v m.pc a
      | none =>
        let s := (as.zip (vElems t (vreg m vd))).foldl (fun s (a, x) => lmWrite s v a (leBytes w x)) s
        let gs := (as.foldl (fun acc a => Assoc.put (vmemAddr v a / 32) (some ()) acc) ([] : List (Nat × Unit))).map Prod.fst
        holdUnit (gs.foldl (fun s i => vcSig s v i) s) v uGather (ceilDiv (vCount t) 8)

/-! ## Vector arithmetic -/

/-- VINT (R199). -/
def execVint (v vd va vb t fn : Nat) (s : State) : Host.Outcome State Fault Refusal :=
  onUnit vcoreCount v s fun s =>
    vecGo s v (.vint vd va vb t fn) [] [va, vb] [] fun s =>
      let m := vc s v
      let w := vWidth t
      let open_ := (6 ≤ fn && fn ≤ 8) && (vElems t (vreg m vb)).any (fun k => decide (w ≤ k))
      let (fr, s) := if open_ then draw s 2048 else (0, s)
      let r := ((vElems t (vreg m va)).zip (vElems t (vreg m vb))).zipIdx.map (fun ((a, b), i) => vintFn w fn a b (fr >>> (w * i)))
      putV s v vd (vMake t r) 2

/-- Latency and unit of a VFLT function (R209). -/
def vfltLat (fn : Nat) : Nat := if fn = 8 ∨ fn = 9 then 16 else if fn = 10 then 8 else 4

/-- Vector registers that a VFLT function reads: fma adds vd; sqrt, exp and unif have one operand (R199). -/
def vfltReads (vd va vb fn : Nat) : List Nat := if fn = 3 then [va, vb, vd] else if 9 ≤ fn then [va] else [va, vb]

/-- VFLT (R199, R195). -/
def execVflt (v vd va vb t fn : Nat) (s : State) : Host.Outcome State Fault Refusal :=
  onUnit vcoreCount v s fun s =>
    let div := fn == 8 || fn == 9
    vecGo s v (.vflt vd va vb t fn) [] (vfltReads vd va vb fn) (if div then [uVdiv] else []) fun s =>
      let m := vc s v
      let r := ((vElems t (vreg m va)).zip ((vElems t (vreg m vb)).zip (vElems t (vreg m vd)))).map
        (fun (a, b, d) => vfltFn t fn m.csrSat a b d)
      putV (if div then holdUnit s v uVdiv 16 else s) v vd (vMake t r) (vfltLat fn)

/-- VSEL (R198). -/
def execVsel (v vd va vb t : Nat) (s : State) : Host.Outcome State Fault Refusal :=
  onUnit vcoreCount v s fun s =>
    vecGo s v (.vsel vd va vb t) [] [va, vb, vd] [] fun s =>
      let m := vc s v
      let r := ((vElems t (vreg m va)).zip ((vElems t (vreg m vb)).zip (vElems t (vreg m vd)))).map
        (fun (a, b, d) => if a ≠ 0 then b else d)
      putV s v vd (vMake t r) 2

/-- VBCAST (R198). -/
def execVbcast (v vd sa t : Nat) (s : State) : Host.Outcome State Fault Refusal :=
  onUnit vcoreCount v s fun s =>
    vecGo s v (.vbcast vd sa t) [sa] [] [] fun s =>
      putV s v vd (vMake t (List.replicate (vCount t) (sreg (vc s v) sa % 2 ^ vWidth t))) 2

/-- VRED (R201). -/
def execVred (v sd va t fn : Nat) (s : State) : Host.Outcome State Fault Refusal :=
  onUnit vcoreCount v s fun s =>
    vecGo s v (.vred sd va t fn) [] [va] [] fun s => putS s v sd (vredFn t fn (vreg (vc s v) va)) 8

/-- Vector registers that VCVT reads: elements of vd are kept only when it has more of them than the source (R200). -/
def vcvtReads (vd va src t : Nat) : List Nat := if vCount src < vCount t then [va, vd] else [va]

/-- VCVT (R200). -/
def execVcvt (v vd va src t mod : Nat) (s : State) : Host.Outcome State Fault Refusal :=
  onUnit vcoreCount v s fun s =>
    vecGo s v (.vcvt vd va src t mod) [] (vcvtReads vd va src t) [] fun s =>
      let m := vc s v
      let open_ := !vIsInt src && vIsInt t && (vElems src (vreg m va)).any (fun x => ((vFmt src).dec false x).isNan)
      let (fr, s) := if open_ then draw s 2048 else (0, s)
      putV s v vd (vcvtReg src t mod (vreg m vd) (vreg m va) fr) 2

/-- VPERM (R198). -/
def execVperm (v vd va vb t : Nat) (s : State) : Host.Outcome State Fault Refusal :=
  onUnit vcoreCount v s fun s =>
    vecGo s v (.vperm vd va vb t) [] [va, vb] [] fun s =>
      let m := vc s v
      let xs := vElems t (vreg m va)
      putV s v vd (vMake t ((vElems t (vreg m vb)).map (fun i => nth xs (i % vCount t)))) 2

/-- VSORT (R202). -/
def execVsort (v vd va vb t : Nat) (s : State) : Host.Outcome State Fault Refusal :=
  onUnit vcoreCount v s fun s =>
    vecGo s v (.vsort vd va vb t) [] [va, vb] [uSort] fun s =>
      let m := vc s v
      let l := pairSort t (pairsOf (vreg m va) (vreg m vb))
      let s := putV (putV s v vd (vMake 2 (l.map Prod.fst)) 24) v (vd + 1) (vMake 2 (l.map Prod.snd)) 24
      holdUnit s v uSort 24

/-- VTOPK (R202). -/
def execVtopk (v vd va vb t : Nat) (s : State) : Host.Outcome State Fault Refusal :=
  onUnit vcoreCount v s fun s =>
    vecGo s v (.vtopk vd va vb t) [] [va, vb, vd, vd + 1] [uSort] fun s =>
      let m := vc s v
      let (k, i) := vtopkRegs t (vreg m vd) (vreg m (vd + 1)) (vreg m va) (vreg m vb)
      holdUnit (putV (putV s v vd k 12) v (vd + 1) i 12) v uSort 12

/-- VRNG (R203): key sa, counter sc:sb. -/
def execVrng (v vd sa sb sc : Nat) (s : State) : Host.Outcome State Fault Refusal :=
  onUnit vcoreCount v s fun s =>
    vecGo s v (.vrng vd sa sb sc) [sa, sb, sc] [] [uRng] fun s =>
      let m := vc s v
      holdUnit (putV s v vd (vMake 2 (vrngWords (sreg m sa) (sreg m sc * 2 ^ 64 + sreg m sb))) 20) v uRng 4

end Sys2Proof.Machine
end

