-- ==== Sys2Proof/Machine/Chord.lean ====
section
/-! DEFINITION. The Chord network (11): the SYNC operations of the cores (R138, R352, R355), the movement of
messages (R339-R342), their arrival (R349-R356), halts and fences (R359, R563, R566, R578), the EVT pins
(R363, R364) and the settling of events at cc 28 (R349, R353, R356, R589). -/

namespace Sys2Proof.Machine

/-! ## SYNC operations -/

/-- Node and unit of a core. -/
def coreBlk (c : CoreId) : Nat := match c with
  | .mcore g => blk Ty.MCORE g
  | .vcore v => blk Ty.VCORE v

/-- Does the package have the core? -/
def coreThere (c : CoreId) : Bool := match c with
  | .mcore g => decide (g < mcoreCount)
  | .vcore v => decide (v < vcoreCount)

/-- The core issues its SYNC operation when it may (R129, R209), and then `f`. -/
def syncIssue (c : CoreId) (kind target line : Nat) (s : State) (f : State → State) : Host.Outcome State Fault Refusal :=
  if coreThere c then .next (match c with
    | .mcore g => if tileReady s g (.sync kind target line) then f (tileIssue s g) else s
    | .vcore v => vecGo s v (.sync kind target line) [] [] [] f)
  else .fault .noSuchUnit

/-- A core's hold, and its event lines. -/
def setHold (s : State) (c : CoreId) (h : Hold) : State := match c with
  | .mcore g => setMc s g (fun m => { m with hold := h })
  | .vcore v => setVc s v (fun m => { m with hold := h })
def holdOf (s : State) (c : CoreId) : Hold := match c with
  | .mcore g => (mc s g).hold
  | .vcore v => (vc s v).hold
def eventsOf (s : State) (c : CoreId) : List (Nat × Nat) := match c with
  | .mcore g => (mc s g).events
  | .vcore v => (vc s v).events
def setEvents (s : State) (c : CoreId) (l : List (Nat × Nat)) : State := match c with
  | .mcore g => setMc s g (fun m => { m with events := l })
  | .vcore v => setVc s v (fun m => { m with events := l })

/-- An EVENT of a unit to a target block (R348, R351): a target that cannot take events is dropped at the
source node, with BAD_TARGET. -/
def sendEvent (s : State) (src target line : Nat) : State :=
  let (n, u) := chordUnit src
  if eventTarget target && blockState s target != 3 then chordSend s (.event target (line % 32)) n u (chordUnit target).1 3 false
  else setErr s (blk Ty.CHORD n) Err.CHORD_BAD_TARGET

/-- SYNC_SIGNAL (R138, R348). -/
def execSyncSignal (c : CoreId) (target line : Nat) (s : State) : Host.Outcome State Fault Refusal :=
  syncIssue c 0 target line s (fun s => sendEvent s (coreBlk c) target line)

/-- SYNC_WAIT (R352): issue is held on the line; `syncEnd` tests it after the deliveries of each cc. -/
def execSyncWait (c : CoreId) (target line : Nat) (s : State) : Host.Outcome State Fault Refusal :=
  syncIssue c 1 target line s (fun s => setHold s c (.event line))

/-- Node of a barrier counter (R354). -/
def counterNode (n : Nat) : Nat := if n < 2048 then n / 64 else 32

/-- An ARRIVE leaves its core's node (R341, R355). -/
def sendArrive (s : State) (c : CoreId) (n : Nat) (wait : Bool) : State :=
  let (nd, u) := chordUnit (coreBlk c)
  chordSend s (.arrive n wait (if wait then some c else none)) nd u (counterNode n) 3 false

/-- SYNC_ARRIVE (R355). -/
def execSyncArrive (c : CoreId) (target line : Nat) (s : State) : Host.Outcome State Fault Refusal :=
  syncIssue c 2 target line s (fun s => sendArrive s c target false)

/-- SYNC_ARRIVE_WAIT (R355): the round is known once the ARRIVE is applied (0 until then). -/
def execSyncArriveWait (c : CoreId) (target line : Nat) (s : State) : Host.Outcome State Fault Refusal :=
  syncIssue c 3 target line s (fun s => setHold (sendArrive s c target true) c (.barrier target 0))

/-- Event waits at the end of a cc (R352): a count of at least 1 releases the core, which issues in the next
cc. -/
def syncEnd (s : State) (c : CoreId) : State :=
  match holdOf s c with
  | .event l =>
    let n := Assoc.getD 0 l (eventsOf s c)
    if 1 ≤ n then
      setHold (setEvents s c (Assoc.put l (if n = 1 then none else some (n - 1)) (eventsOf s c))) c (.releasedAt s.now)
    else s
  | _ => s

/-! ## Movement (R339-R342) -/

/-- Priority on its lane: SYNC, or URGENT before notices before SERVICE. -/
def msgPrio (m : ChordMsg) : Nat := if m.lane = 3 then 0 else m.lane
/-- Order in which waiting messages start (R340, R342): each keeps its place. -/
def msgLt (a b : ChordMsg) : Bool :=
  let k (m : ChordMsg) : List Nat := [msgPrio m, m.ready, m.rank, m.id]
  decide (k a < k b)
def msgInsert (x : ChordMsg) : List ChordMsg → List ChordMsg
  | [] => [x]
  | y :: r => if msgLt x y then x :: y :: r else y :: msgInsert x r

/-- The nodes from one to another, both named, over at most `fuel` hops (R339). -/
def pathOf : Nat → Nat → Nat → List Nat
  | 0, a, _ => [a]
  | fuel + 1, a, d => if a = d then [a] else a :: pathOf fuel (chordNext a d) d
/-- Has the word left node `a` by the link to `b`: some true when it has, none when its way does not use the link. -/
def hasCrossed (m : ChordMsg) (a b : Nat) : Option Bool :=
  let w := pathOf 14 m.src m.node
  if a ∈ w ∧ chordNext a m.node = b ∧ a ≠ m.node then some (decide (w.idxOf a < w.idxOf m.at_)) else none
/-- Another SERVICE packet is half way across the link: some of its words have left, some have not (R346). -/
def linkSplit (s : State) (m : ChordMsg) (a b : Nat) : Bool :=
  let others := s.chord.msgs.filter (fun x => x.lane == 2 && x.pkt != m.pkt && !x.held)
  others.any (fun x => hasCrossed x a b == some true && others.any (fun y => y.pkt == x.pkt && hasCrossed y a b == some false))

/-- What a node makes of a message for NODE 63 for its child `c` (R339); `none` for a message to one node. -/
def copyFor (k : ChordKind) : Option (Nat → ChordKind) :=
  match k with
  | .halt cause => some (fun _ => .halt cause)
  | .trip => some (fun _ => .trip)
  | .release n round _ => if n < 2048 then none else some (fun c => .release n round c)
  | _ => none

/-- A message starts on its output when the lane is free (R340, R341); no word of a SERVICE packet starts between
those of another (R346). -/
def msgStart (s : State) (m : ChordMsg) : State :=
  let nx := chordNext m.at_ m.node
  let key := (64 * m.at_ + nx) * 2 + (if m.lane = 3 then 1 else 0)
  if Assoc.getD 0 key s.chord.busy ≤ s.now ∧ !(m.lane == 2 && linkSplit s m m.at_ nx) then
    let up := decide (chordParent m.at_ = nx)
    let t := s.now + 3
    let m' := { m with at_ := nx, ready := t, rank := if up then 64 + m.at_ else 128,
                       landed := if nx = m.node then some (t + arriveCc m.kind) else none }
    let s := setChord s (fun c =>
      { c with busy := Assoc.put key (some (s.now + 2)) c.busy, msgs := c.msgs.map (fun x => if x.id = m.id then m' else x) })
    match copyFor m.kind with
    | some mk => copiesBelow s mk m.lane nx 128 t
    | none => s
  else s

/-- The network in one cc. -/
def chordTick (s : State) : State :=
  let go := s.chord.msgs.filter (fun m => !m.held && m.landed.isNone && decide (m.ready ≤ s.now))
  let s := (go.foldl (fun l m => msgInsert m l) []).foldl msgStart s
  if s.chord.busy = [] then s
  else setChord s (fun c => { c with busy := c.busy.filter (fun x => decide (s.now < x.2)) })

/-- Has the message, or word, been delivered to its unit by now? -/
def isLanded (s : State) (m : ChordMsg) : Bool := match m.landed with
  | some t => decide (t ≤ s.now)
  | none => false

/-- A message by number that has been applied at its unit by now; of a SERVICE packet, every word (R346). -/
def landedMsg (s : State) (id : Nat) : Option ChordMsg :=
  (chordMsg? s id).filter (fun m => (s.chord.msgs.filter (fun x => x.pkt == m.pkt)).all (isLanded s))

/-- The network without a message, and without the other words of its packet. -/
def packetDrop (s : State) (m : ChordMsg) : State :=
  setChord s (fun c => { c with msgs := c.msgs.filter (fun x => x.pkt != m.pkt) })

/-- Node `x` lies below node `n` in the tree. -/
def nodeBelow (n x : Nat) : Bool := decide (chordDepth n < chordDepth x) && chordUp 8 x (chordDepth n) == n
/-- The same message for NODE 63, by its copies. -/
def sameCopy (a b : ChordKind) : Bool := match a, b with
  | .halt _, .halt _ => true
  | .trip, .trip => true
  | .release n r _, .release m q _ => n == m && r == q
  | _, _ => false
/-- A message that is lost at the node it has reached: its packet, and of one for NODE 63 the copies below (R339,
R343). -/
def dropWhole (s : State) (m : ChordMsg) : State :=
  let s := packetDrop s m
  if (copyFor m.kind).isSome then
    setChord s (fun c => { c with msgs := c.msgs.filter (fun x => !(sameCopy m.kind x.kind && nodeBelow m.node x.node)) })
  else s

/-- A message that failed parity is counted at its node (R343). -/
def parityCount (s : State) (node : Nat) : State :=
  let b := blk Ty.CHORD node
  setErr (countField s b Off.CHORD_DROPS 31 16 1) b Err.CHORD_PARITY

/-- A register packet of the Zeleri link is lost on its way: its transaction will have no completion (R343). -/
def accessGone (s : State) (k : ChordKind) : State :=
  match k with
  | .access .zeleri w tag addr _ =>
    let ty := if w then 4 else 3
    setZl s (fun z => { z with admitted := z.admitted.eraseP (fun t => t.ttype == ty && t.tag == tag && t.addr == addr), lost := z.lost.erase (ty, tag) })
  | .answer .zeleri w tag _ _ _ => setZl s (fun z => { z with lost := z.lost.erase (if w then 4 else 3, tag) })
  | _ => s

/-- A message that failed parity at the node it has reached, or came there with a reserved TYPE, is dropped there and
counted (R343, R345): one of lane S raises a frame fault, and an URGENT one is acted on as HALT, at that node and
below it or, at the root, in the whole package. Its cause bits are whatever came. -/
def parityDrop (s : State) (m : ChordMsg) : State :=
  let s := accessGone (parityCount (dropWhole s m) m.at_) m.kind
  if m.lane = 3 then raiseFault s (blk Ty.CHORD m.at_) 0x20
  else if m.lane = 0 then
    let (cause, s) := draw s 8
    if m.at_ = 32 then localHalt (if running s then markFaulted s else s) (blk Ty.CHORD 32) cause (faultFrame s) s.now 4
    else haltFrom s cause m.at_ s.now
  else s

/-- A message by number that stands at a node by now, where its parity is checked. -/
def reachedMsg (s : State) (id : Nat) : Option ChordMsg := (chordMsg? s id).filter (fun m => !m.held && decide (m.ready ≤ s.now))

/-- A row that takes a message: it fails parity at the node it has reached, or acts once it has landed. -/
def takeMsg (s : State) (id : Nat) (parityBad : Bool) (f : ChordMsg → State) : State :=
  if parityBad then
    match reachedMsg s id with
    | some m => parityDrop s m
    | none => s
  else
    match landedMsg s id with
    | some m => f m
    | none => s

/-! ## Events and notices -/

/-- An event or notice for a core that is fenced is dropped and counted at its node (R351). -/
def fencedDrop (s : State) (node : Nat) : State := countField s (blk Ty.CHORD node) Off.CHORD_DROPS 15 0 1

/-- One more on an event line of a core (R352). -/
def addEvent (s : State) (c : CoreId) (node line : Nat) : State :=
  let n := Assoc.getD 0 line (eventsOf s c)
  if 15 ≤ n then errFault s (blk Ty.CHORD node) Err.CHORD_EVT_OVERFLOW 0x20
  else setEvents s c (Assoc.put line (some (n + 1)) (eventsOf s c))

/-- The core that a block entry is. -/
def coreOf (b : Nat) : Option CoreId :=
  if typeOf b = Ty.MCORE then some (.mcore (instOf b)) else if typeOf b = Ty.VCORE then some (.vcore (instOf b)) else none

/-- Owner of an EVT pin (R364). -/
def evtOwner (s : State) (k : Nat) : Nat := regField s (blk Ty.PINS 0) (Off.PINS_EVT_PIN_0 + 4 * k) 31 28
/-- An EVT pin goes low for 8 cc. -/
def pulsePin (s : State) (k : Nat) : State := setPins s (fun p => { p with lowUntil := Assoc.put k (some (s.now + 8)) p.lowUntil })

/-- An event or notice at a hub target (R353, R364, R482). -/
def hubEvent (s : State) (b line : Nat) : State :=
  if typeOf b = Ty.ZLINK then setZl s (fun z => { z with lines := Assoc.put line (some (satAdd 255 (Assoc.getD 0 line z.lines) 1)) z.lines })
  else
    let s := setChord s (fun c => { c with flags := Assoc.put b (some (Assoc.getD 0 b c.flags ||| 2 ^ line)) c.flags })
    if typeOf b = Ty.PINS ∧ line < 4 ∧ evtOwner s line = 1 then pulsePin s line else s

/-- An event or notice to a core that is not fenced, else counted at the node (R351). -/
def coreOrDrop (s : State) (b node : Nat) (f : State → State) : State := if good s b then f s else fencedDrop s node

/-- Does a message's kind match the row? -/
def isEvent (m : ChordMsg) : Bool := match m.kind with
  | .event .. => true
  | _ => false
def isNotice (m : ChordMsg) : Bool := match m.kind with
  | .notice .. => true
  | _ => false
def isArrive (m : ChordMsg) : Bool := match m.kind with
  | .arrive .. => true
  | _ => false
def isRelease (m : ChordMsg) : Bool := match m.kind with
  | .release .. => true
  | _ => false
def isFence (m : ChordMsg) : Bool := match m.kind with
  | .fence _ => true
  | _ => false
def isFault (m : ChordMsg) : Bool := match m.kind with
  | .fault .. => true
  | .peerHalt .. => true
  | _ => false
def isTherm (m : ChordMsg) : Bool := match m.kind with
  | .therm .. => true
  | _ => false
def isTelem (m : ChordMsg) : Bool := match m.kind with
  | .telem .. => true
  | _ => false
def isTrip (m : ChordMsg) : Bool := match m.kind with
  | .trip => true
  | _ => false

/-- The row takes the message only if it is of its kind. -/
def takeKind (k : ChordMsg → Bool) (s : State) (id : Nat) (parityBad : Bool) (f : ChordMsg → State → State) : State :=
  match chordMsg? s id with
  | some m => if k m then takeMsg s id parityBad (fun m => f m (packetDrop s m)) else s
  | none => s

/-- EVENT at its target (R352, R353). -/
def eventAct (m : ChordMsg) (s : State) : State :=
  match m.kind with
  | .event b line => match coreOf b with
    | some c => coreOrDrop s b m.node (fun s => addEvent s c m.node line)
    | none => hubEvent s b line
  | _ => s

/-- EVENT (R352, R353). -/
def execEvent (id : Nat) (parityBad : Bool) (s : State) : Host.Outcome State Fault Refusal :=
  .next (takeKind isEvent s id parityBad eventAct)

/-- A notice held for a core until cc 28 of the next boundary slot (R350). -/
def holdNotice (s : State) (c : CoreId) (line : Nat) : State := match c with
  | .mcore g => setMc s g (fun x => { x with held := x.held ++ [line] })
  | .vcore v => setVc s v (fun x => { x with held := x.held ++ [line] })

/-- NOTICE at its target (R350). -/
def noticeAct (m : ChordMsg) (s : State) : State :=
  match m.kind with
  | .notice b line _ => match coreOf b with
    | some c => coreOrDrop s b m.node (fun s => holdNotice s c line)
    | none => hubEvent s b line
  | _ => s

/-- NOTICE (R350). -/
def execNotice (id : Nat) (parityBad : Bool) (s : State) : Host.Outcome State Fault Refusal :=
  .next (takeKind isNotice s id parityBad noticeAct)

/-! ## Barriers -/

/-- LIMIT of counter n in the running program; 0 when it is not configured (R356, R357). -/
def counterLimit (s : State) (n : Nat) : Nat :=
  match sectionOf s 9 (counterNode n) with
  | some b => barLimit b (if n < 2048 then n % 64 else n - 2048)
  | none => 0

/-- The RELEASE of a round that closes in cc `t` (R355): of a root counter a message for NODE 63, which the root
node issues as its unit 23 (R339, R344). -/
def sendReleases (s : State) (n round t : Nat) : State :=
  if n < 2048 then chordDeliver s (.release n round (n / 64)) (n / 64) (n / 64) (t + 2)
  else copiesBelow s (fun c => .release n round c) 3 32 23 (t + 1)

/-- The counters of a node take ARRIVEs: a program runs, or the HALT that ended it has not reached the node (R356,
R563). -/
def barsLive (s : State) (n : Nat) : Bool := running s || (s.ft.pstate == 4 && !s.ft.reached.contains n)

/-- ARRIVE at its counter (R355, R356). -/
def arriveAct (m : ChordMsg) (s : State) : State :=
  match m.kind with
  | .arrive n _ who =>
    let lim := counterLimit s n
    if lim = 0 ∨ !barsLive s m.node then errFault s (blk Ty.CHORD m.node) Err.CHORD_BAR_UNSET 0x20
    else
      let b := Assoc.getD ⟨0, 0⟩ n s.chord.bars
      let s := match who with
        | some c => if holdOf s c = .barrier n 0 then setHold s c (.barrier n (b.round + 1)) else s
        | none => s
      let close := decide (lim ≤ b.count + 1)
      let b' : Barrier := if close then ⟨0, b.round + 1⟩ else ⟨b.count + 1, b.round⟩
      let s := setChord s (fun c => { c with bars := Assoc.put n (some b') c.bars })
      if close then sendReleases s n (b.round + 1) (m.landed.getD s.now) else s
  | _ => s

/-- ARRIVE (R355, R356): the arrival joins the counter's current round, which it may close. -/
def execArrive (id : Nat) (parityBad : Bool) (s : State) : Host.Outcome State Fault Refusal :=
  .next (takeKind isArrive s id parityBad arriveAct)

/-- The cores at a stack node. -/
def coresAt (node : Nat) : List CoreId := if node < 32 then (List.range 4).map (fun m => .mcore (4 * node + m)) ++ [.vcore node] else []

/-- RELEASE at a node (R355): its units that wait on the round resume in the next cc. -/
def releaseAct (m : ChordMsg) (s : State) : State :=
  match m.kind with
  | .release n round node =>
    (coresAt node).foldl (fun s c => if holdOf s c = .barrier n round then setHold s c (.releasedAt s.now) else s) s
  | _ => s

/-- RELEASE (R355). -/
def execRelease (id : Nat) (parityBad : Bool) (s : State) : Host.Outcome State Fault Refusal :=
  .next (takeKind isRelease s id parityBad releaseAct)

/-! ## Halts and fences -/

/-- A halt block (R447). -/
def haltBlock (hops source frame cause : Nat) : BitVec 128 :=
  let x := 0x81 * 2 ^ 120 + min 255 hops * 2 ^ 112 + source % 65536 * 2 ^ 96 + frame % 2 ^ 48 * 2 ^ 48 + cause % 256 * 2 ^ 40
  BitVec.ofNat 128 (x + crc8 x 127 8)

/-- HOPS of the recorded halt (R573). -/
def recordedHops (s : State) : Nat := regField s (blk Ty.FTIMER 0) Off.FTIMER_FAULT_UNIT 31 24

/-- The halt block that the package sends: of the recorded halt, with these HOPS, or of a HALT that no record names. -/
def ownHaltBlock (s : State) (hops cause : Nat) : BitVec 128 :=
  let ft := blk Ty.FTIMER 0
  let info := getReg s ft Off.FTIMER_FAULT_INFO
  if bitOf info 31 then
    haltBlock hops (fieldOf info 15 0)
      (getReg s ft Off.FTIMER_FAULT_FRAME_LO + 2 ^ 32 * getReg s ft Off.FTIMER_FAULT_FRAME_HI) (fieldOf info 23 16)
  else haltBlock 0 (domainId s) (faultFrame s) cause

/-- First cc of the next aligned issue group (R131). -/
def groupEnd (s : State) (t : Nat) : Nat := t - ccAt s t % 8 + 8

/-- The cores of a node stop at the end of the issue group of cc `t`, unless a halt has stopped them before (R131,
R359). -/
def stopCores (s : State) (n t : Nat) : State :=
  if (Assoc.get? n s.ft.stops).isSome then s
  else setFt s (fun f => { f with stops := Assoc.put n (some (groupEnd s t)) f.stops })

/-- A Garlet port at a halt (R447, R563). -/
def haltPort (s : State) (p cause : Nat) : State :=
  setGp s p fun g =>
    { g with rx := [], tx := [], ctrl := if p ≠ s.ft.haltFrom ∧ g.width ≠ 0 then g.ctrl ++ [ownHaltBlock s (recordedHops s) cause] else g.ctrl }

/-- The other units of a stack node at a halt (R563). -/
def haltStack (s : State) (n cause : Nat) : State :=
  let s := { s with
      routers := s.routers.map (fun (k, r) => if k = n then (k, { r with outq := [], red := [] }) else (k, r)),
      mcores := s.mcores.map (fun (k, m) => if k / 4 = n then (k, { m with inj := [] }) else (k, m)),
      cols := s.cols.map (fun (k, c) =>
        if k / 16 = n then
          (k, { c with window := none, entry := 65536, cmdNext := (65536, 0), rowEntry := (65536, 0), reqs := [], queue := c.queue.filter (fun r => !r.sched || reqBegun r) })
        else (k, c)) }
  if 12 ≤ n ∧ n < 32 then haltPort s (n - 12) cause else s

/-- A load refused: its code, and LOAD_REFUSED (R96, R107). -/
def loadCode (s : State) (code : Nat) : State :=
  setErr (setFt s (fun f => { f with code := code })) (blk Ty.FTIMER 0) Err.FTIMER_LOAD_REFUSED

/-- The hub at a halt (R359, R563-R566): PSTATE becomes 4 unless no program was loaded, a load in progress ends
with code 0x10, the prefix engine flushes, and the host is told. -/
def haltHub (s : State) (cause : Nat) : State :=
  let s := if s.ft.pstate = 1 then loadCode s 0x10 else s
  let s := setFt s fun f =>
    { f with halted := true, gated := true, pstate := if f.pstate = 0 then 0 else 4 }
  let s := { s with
      routers := s.routers.map (fun (k, r) => if k = 32 then (k, { r with outq := [], red := [] }) else (k, r)) }
  let s := setFill s 0 0
  let s := setKv s (fun k => { k with reqs := [], waiting := [], flushPending := true })
  let s := setChord s (fun c => { c with halt := none })
  if s.zl.tstate = 4 then setZl s (fun z => { z with ctrl := z.ctrl ++ [ownHaltBlock s 0 cause] }) else s

/-- A HALT acts at a node (R359, R563): its units that have halted already ignore it; SYNC messages that stand
there are discarded. -/
def haltAt (s : State) (n cause : Nat) : State :=
  let first := !s.ft.reached.contains n
  let s := setFt s (fun f => { f with reached := if first then n :: f.reached else f.reached })
  let s := setChord s (fun c => { c with msgs := c.msgs.filter (fun m => m.lane != 3 || m.at_ != n) })
  if n = 32 then haltHub s cause
  else
    let s := stopCores s n s.now
    if first then haltStack s n cause else s

/-- Copies of a HALT that have landed: node and cause. -/
def haltLanded (s : State) : List (Nat × Nat × Nat) :=
  s.chord.msgs.filterMap fun m => match m.kind, m.landed with
    | .halt cause, some t => if t ≤ s.now then some (m.id, m.node, cause) else none
    | _, _ => none

/-- Copies of the TRIP that have landed at nodes below the root. -/
def tripBad (s : State) (parityAt : Nat) : List ChordMsg :=
  s.chord.msgs.filter (fun m => isTrip m && isLanded s m && bitOf parityAt m.node && m.node != 32)

/-- HALT (R359, R563): every copy that has landed acts at its node; bit n of `parityAt` marks a node at which it
failed parity, where it is counted and acts all the same (R343). A copy of the TRIP that has landed at a marked node
failed parity too: that node acts on it as HALT (R343). -/
def execHalt (parityAt : Nat) (s : State) : Host.Outcome State Fault Refusal :=
  .next (
    let s := (haltLanded s).foldl (fun s (id, n, cause) =>
      let s := chordDrop s id
      haltAt (if bitOf parityAt n then parityCount s n else s) n cause) s
    (tripBad s parityAt).foldl parityDrop s)

/-- cc 0 of the slot after that of cc `t`. -/
def nextSlot (s : State) (t : Nat) : Nat := t - ccAt s t + (if slotAt s t = 0 then boundaryLen s else 64)

/-- A TRIP acts at a node (R359): the clocks of its units are gated at cc 0 of the next slot. -/
def tripNode (s : State) (n : Nat) : State :=
  setFt s (fun f => { f with tripAt := if (Assoc.get? n f.tripAt).isSome then f.tripAt else Assoc.put n (some (nextSlot s s.now)) f.tripAt })

/-- A copy of the TRIP that has landed acts at its node. -/
def tripCopy (s : State) (m : ChordMsg) : State := tripNode (packetDrop s m) m.node

/-- TRIP (R359, R515): every copy that has landed acts at its node (one that failed parity there is the HALT command's).
With its last copy the TRIP is done. -/
def execTrip (s : State) : Host.Outcome State Fault Refusal :=
  .next (
    let s := (s.chord.msgs.filter (fun m => isTrip m && isLanded s m)).foldl tripCopy s
    if s.chord.trip.isSome && !s.chord.msgs.any isTrip then setFt s (fun f => { f with tripGate := true }) else s)

/-- FENCE at its unit (R359, R578). -/
def fenceMsgAct (m : ChordMsg) (s : State) : State := match m.kind with
  | .fence b => fenceBlock s b
  | _ => s

/-- FENCE (R359, R578). -/
def execFence (id : Nat) (parityBad : Bool) (s : State) : Host.Outcome State Fault Refusal :=
  .next (takeKind isFence s id parityBad fenceMsgAct)

/-- CONTROL_FENCE (R50, R578). -/
def execControlFence (b : Nat) (s : State) : Host.Outcome State Fault Refusal :=
  onUnit blockCount b s fun s => if hubUp s then fenceBlock s b else s

/-- FAULT at the root (R561, R569, R570, R573), or a peer's halt: the HALT follows 4 cc later. A peer's halt goes on as
code 0x42 (R561), and its record keeps the block's CAUSE, and its SOURCE where a program is loaded (R566, R573). -/
def faultAct (m : ChordMsg) (s : State) : State := match m.kind with
  | .fault b cause frame at_ => localHalt s b cause frame at_ 4
  | .peerHalt port cause source hops frame =>
    if s.ft.halted || s.chord.halt.isSome then s
    else
      let s := rootHalt s false cause (if s.ft.pstate = 0 then 0xFFFF else source) hops 0xFFFF frame 4
      let s := setChord s (fun c => { c with halt := c.halt.map (fun (_, t, sent) => (0x42, t, sent)) })
      setFt s (fun f => { f with haltFrom := port })
  | _ => s

/-- FAULT (R561, R573). -/
def execFault (id : Nat) (parityBad : Bool) (s : State) : Host.Outcome State Fault Refusal :=
  .next (takeKind isFault s id parityBad faultAct)

/-- THERM (R345, R507, R515) reaches the aggregator at the root. -/
def thermAct (m : ChordMsg) (s : State) : State := match m.kind with
  | .therm i level =>
    let s := setSensor s i (fun x => { x with seen := max x.seen level })
    if level = 3 then rootTrip s else judgeRequests s
  | _ => s

/-- THERM. -/
def execTherm (id : Nat) (parityBad : Bool) (s : State) : Host.Outcome State Fault Refusal :=
  .next (takeKind isTherm s id parityBad thermAct)

/-- TELEM at the aggregator (R345): the sensor's copy there. -/
def telemAct (m : ChordMsg) (s : State) : State := match m.kind with
  | .telem i v => setSensor s i (fun x => { x with shown := v })
  | _ => s

/-- A SERVICE packet: TELEM, or a register packet, whose own rows and answers act on it (R345). -/
def isService (m : ChordMsg) : Bool := match m.kind with
  | .telem .. => true
  | .access .. => true
  | .answer .. => true
  | _ => false

/-- CHORD_TELEM (R345). A SERVICE packet of any type that fails parity, or comes with a reserved TYPE, is lost here
(R343). -/
def execChordTelem (id : Nat) (parityBad : Bool) (s : State) : Host.Outcome State Fault Refusal :=
  .next (takeKind (if parityBad then isService else isTelem) s id parityBad telemAct)

/-- A host or pin halt at the root (R562, R569, R573), its HALT sent after `delay` cc: a frame fault of the running
frame when a program runs. A package that is halted takes it only once VALID has been cleared, which re-arms the record
(R562, R566, R573). -/
def outsideHalt (s : State) (cause source hops frame delay : Nat) : State :=
  if s.chord.halt.isSome || (s.ft.halted && bitOf (getReg s (blk Ty.FTIMER 0) Off.FTIMER_FAULT_INFO) 31) then s
  else rootSend (if running s then markFaulted s else s) false cause source hops 0xFFFF frame delay

/-- HALT_N recognised low (R358, R362, R562): PIN_HALT is set while a program runs, the root sends the HALT at once,
and the HALT line of the tick tree reaches every core 10 cc later. -/
def pinHaltAct (s : State) : State :=
  let s := setErrIf (running s) s (blk Ty.PINS 0) Err.PINS_PIN_HALT
  let s := outsideHalt s 0x41 (domainId s) 0 (faultFrame s) 0
  (List.range 32).foldl (fun s n => stopCores s n (s.now + 10)) (setFt s (fun f => { f with gated := true }))

/-- PIN_HALT (R362, R562): the filtered level that others drive on HALT_N. A falling edge of the net halts the package,
whatever its state; a low that its own drive already holds is no new edge (R621). The cores are gated while the level
is low (R566). -/
def execPinHalt (held : Bool) (s : State) : Host.Outcome State Fault Refusal :=
  .next (if s.pins.perstHigh then
    let edge := held && !s.ft.haltLow && !s.pins.haltOwn
    let s := setFt s (fun f => { f with haltLow := held })
    if edge && hubUp s then
      let s := setPins s (fun p => { p with haltCount := satAdd (2 ^ 32 - 1) p.haltCount 1 })
      pinHaltAct s
    else s
  else s)

/-! ## EVT pins -/

/-- EVT_PIN_WRITE (R363, R364). -/
def evtPinAct (s : State) (k v : Nat) : State :=
  let b := blk Ty.PINS 0
  let off := Off.PINS_EVT_PIN_0 + 4 * k
  let new := fieldOf v 31 28
  let old := evtOwner s k
  if !hubUp s then s
  else if 4 < new ∨ (new ≠ 0 ∧ old ≠ 0 ∧ old ≠ new) then setErr (setRegField s b off 27 27 1) b Err.PINS_EVT_OWN
  else
    let refused := bitOf (getReg s b off) 27 && !bitOf v 27
    setReg s b off (new * 2 ^ 28 + b2n refused * 2 ^ 27 + 2 ^ 26 + fieldOf v 25 25 * 2 ^ 25 + fieldOf v 20 0)
def execEvtPinWrite (k : Nat) (value : Word) (s : State) : Host.Outcome State Fault Refusal :=
  onUnit 4 k s fun s => evtPinAct s k value.toNat

/-- EVENT_IN (R350, R364): an edge on a pin; a falling one on a pin that EVENT_IN owns sends its notice. -/
def execEventIn (k : Nat) (s : State) : Host.Outcome State Fault Refusal :=
  onUnit 4 k s fun s =>
    let s := setPins s (fun p => { p with evtSeen := p.evtSeen ||| 2 ^ k })
    let r := getReg s (blk Ty.PINS 0) (Off.PINS_EVT_PIN_0 + 4 * k)
    if hubUp s && evtOwner s k == 2 then
      sendNotice s (blk Ty.PINS 0) (fieldOf r 15 0) (fieldOf r 20 16) (fieldOf r 25 25)
    else s

/-! ## EVENT_SETTLE -/

/-- The cc of the boundary slot. -/
def inBoundary (s : State) (cc : Nat) : Bool := slotNow s == 0 && decide (cc ≤ ccNow s)

/-- SYNC messages left at cc 28 are discarded (R349): one that had not reached its unit by cc 27 sets
SYNC_LATE at the node that holds it. -/
def syncDiscard (s : State) : State :=
  let late := s.chord.msgs.filter (fun m => m.lane == 3 && (match m.landed with
    | some t => decide (s.ft.tickAt + 28 ≤ t)
    | none => true))
  let s := setChord s (fun c => { c with msgs := c.msgs.filter (fun m => m.lane != 3) })
  late.foldl (fun s m => errFault s (blk Ty.CHORD m.at_) Err.CHORD_SYNC_LATE 0x20) s

/-- Event lines to 0, then the held notices (R350, R353). -/
def linesSettle (s : State) : State :=
  let s := s.mcores.foldl (fun s (g, m) =>
    m.held.foldl (fun s l => addEvent s (.mcore g) (g / 4) l) (setMc s g (fun x => { x with events := [], held := [] }))) s
  s.vcores.foldl (fun s (v, m) =>
    m.held.foldl (fun s l => addEvent s (.vcore v) v l) (setVc s v (fun x => { x with events := [], held := [] }))) s

/-- Open barriers (R356). -/
def barriersSettle (s : State) : State :=
  let openBars := s.chord.bars.filter (fun x => x.2.count != 0)
  let s := setChord s (fun c => { c with bars := [] })
  openBars.foldl (fun s x => errFault s (blk Ty.CHORD (counterNode x.1)) Err.CHORD_BAR_OPEN 0x20) s

/-- The signature closes (R589, R590): a frame that faulted, or one that a halt found, publishes none. -/
def sigClose (s : State) : State :=
  match s.ft.sigNext with
  | some (n, sg) =>
    let s := setFt s (fun f => { f with sigNext := none })
    if s.ft.faultedPrev || s.ft.halted then s
    else
      let b := blk Ty.FTIMER 0
      setReg (setReg (setReg s b Off.FTIMER_SIG_LO (sg % 2 ^ 32)) b Off.FTIMER_SIG_HI (sg / 2 ^ 32)) b Off.FTIMER_SIG_FRAME (n % 2 ^ 32)
  | none => s

/-- The actions of cc 28. -/
def eventSettle (s : State) : State :=
  sigClose (barriersSettle (linesSettle (syncDiscard (setFt s (fun f => { f with doneStage := 28 })))))

/-- EVENT_SETTLE (R349, R353, R356, R589): once in each boundary slot, at cc 28. -/
def execEventSettle (s : State) : Host.Outcome State Fault Refusal :=
  .next (if awake s && inBoundary s 28 && decide (s.ft.doneStage < 28) then eventSettle s else s)

end Sys2Proof.Machine
end

