-- ==== Sys2Proof/Machine/Kv.lean ====
section
/-! DEFINITION. The prefix engine (12): its setup (R370), requests and staging (R375-R377, R380), the commit
(R378-R386, R389), copy pins (R382) and the flush after a halt (R374). -/

namespace Sys2Proof.Machine

/-- The PREFIX block's entry. -/
def prefixBlk : Nat := blk Ty.PREFIX 0

/-! ## Setup (R369, R370) -/

/-- The setup section's fields; `cols` holds the pool columns in ascending order. -/
structure KvCfg where
  lag : Nat
  resLog : Nat
  ptBits : Nat
  dir : Nat
  pt : Nat
  res : Nat
  rowFirst : Nat
  rowCount : Nat
  cols : List Nat
deriving DecidableEq, Repr

def kvCfgOf (b : List Byte) : KvCfg :=
  let mask := bytesAt b 0x40 64
  ⟨bytesAt b 4 1, bytesAt b 5 1, bytesAt b 6 1, bytesAt b 8 8, bytesAt b 0x10 8, bytesAt b 0x18 8, bytesAt b 0x28 2,
   bytesAt b 0x2A 2, (List.range 512).filter (fun c => mask.testBit c)⟩

/-- The setup of the loaded program. -/
def kvCfg (s : State) : Option KvCfg := (sectionOf s 10 0).map kvCfgOf

/-- Handles of the pool. -/
def KvCfg.handles (g : KvCfg) : Nat := g.cols.length * g.rowCount
/-- Column and row of a handle (R369), its LOC and its page's address (R368). -/
def KvCfg.colOf (g : KvCfg) (h : Nat) : Nat := nth g.cols (h / g.rowCount)
def KvCfg.rowOf (g : KvCfg) (h : Nat) : Nat := g.rowFirst + h % g.rowCount
def KvCfg.loc (g : KvCfg) (h : Nat) : Nat := g.colOf h * 2 ^ 14 + g.rowOf h
def KvCfg.pageAddr (g : KvCfg) (h : Nat) : Nat := dramAddr (g.colOf h) (g.rowOf h * 0x10000)
/-- Bucket of a key (R389). -/
def KvCfg.bucketOf (g : KvCfg) (r : KvReq) : Nat := (r.hash % 2 ^ 32 + r.target / 2 ^ 23) % 2 ^ g.ptBits

/-! ## Directory entries (R373) -/

def entSettled (e : Nat) : Nat := fieldOf e 127 80
def entDelta (e : Nat) : Nat := fieldOf e 79 64
def entRef (e : Nat) : Nat := fieldOf e 63 48
def entState (e : Nat) : Nat := fieldOf e 25 24
def entPinned (e : Nat) : Bool := bitOf e 23

/-- Bytes as a checker returns them, without its reports. -/
def cleanRead (s : State) (a n : Nat) : List Byte :=
  let i := a / 32
  ((((List.range ((a + n - 1) / 32 + 1 - i)).map (fun k => granuleData s (i + k))).flatten).drop (a % 32)).take n

/-- The entry of a handle in the directory; a handle never changes its LOC (R369). -/
def kvEntry (s : State) (g : KvCfg) (h : Nat) : Nat :=
  putField (leNat (cleanRead s (g.dir + 16 * h) 16)) 22 0 (g.loc h)

/-- Handles whose entry may say live: those with a byte listed in memory or a granule with check bits off. -/
def liveCandidates (s : State) (g : KvCfg) : List Nat :=
  let inDir (a : Nat) : Bool := decide (g.dir ≤ a) && decide (a < g.dir + 16 * g.handles)
  (s.mem.filterMap (fun c => if inDir c.1 && (c.1 - g.dir) % 16 == 3 then some ((c.1 - g.dir) / 16) else none))
    ++ (s.synd.map (fun x => if inDir (32 * x.1) then [(32 * x.1 - g.dir) / 16, (32 * x.1 - g.dir) / 16 + 1] else [])).flatten

/-! ## A commit as a transaction -/

/-- The directory and table as the steps so far leave them. -/
structure KvTx where
  /-- Entries by handle, and the order of their first change. -/
  ents : List (Nat × Nat)
  order : List Nat
  /-- Buckets read or changed, 256 bytes each. -/
  bkts : List (Nat × List Byte)
  framePins : List Nat
  pins : List (Nat × Nat × Nat)
  log : List (Nat × Nat)
  /-- Results by ORD: status and page. -/
  res : List (Nat × (Nat × Option Nat))
  full : Bool
  /-- COPYs: request, source, new page and number. -/
  copies : List (KvReq × Nat × Nat × Nat)
  copyNo : Nat
  err : Option (Nat × Nat)
deriving DecidableEq, Repr

def KvTx.fail (x : KvTx) (code ord : Nat) : KvTx := { x with err := some (code, ord) }
/-- The next step, unless a request has failed. -/
def KvTx.go (x : KvTx) (f : KvTx → KvTx) : KvTx := if x.err.isSome then x else f x
def txEnt (s : State) (g : KvCfg) (x : KvTx) (h : Nat) : Nat := (Assoc.get? h x.ents).getD (kvEntry s g h)
def KvTx.put (x : KvTx) (h e : Nat) : KvTx :=
  { x with ents := Assoc.put h (some e) x.ents, order := if x.order.contains h then x.order else x.order ++ [h] }
def txLive (s : State) (g : KvCfg) (x : KvTx) (h : Nat) : Bool := decide (h < g.handles) && entState (txEnt s g x h) == 1
def txBucket (s : State) (g : KvCfg) (x : KvTx) (b : Nat) : List Byte := (Assoc.get? b x.bkts).getD (cleanRead s (g.pt + 256 * b) 256)
def KvTx.result (x : KvTx) (ord status : Nat) (h : Option Nat) : KvTx := { x with res := x.res ++ [(ord, (status, h))] }

/-- REFCNT changed by one: code 6 above 65,535, code 7 below 0. -/
def txRef (s : State) (g : KvCfg) (x : KvTx) (h ord : Nat) (up : Bool) : KvTx :=
  let e := txEnt s g x h
  let n := entRef e
  if up then (if n = 0xFFFF then x.fail 6 ord else x.put h (putField e 63 48 (n + 1)))
  else if n = 0 then x.fail 7 ord else x.put h (putField e 63 48 (n - 1))

/-- Pinned at step 6 (R378, R382). -/
def txPinned (x : KvTx) (h : Nat) : Bool := x.framePins.contains h || x.pins.any (fun p => p.1 == h)
/-- The PINNED bit brought up to date. -/
def txPinBit (s : State) (g : KvCfg) (x : KvTx) (h : Nat) : KvTx :=
  let e := txEnt s g x h
  if txLive s g x h && entPinned e != txPinned x h then x.put h (putField e 23 23 (b2n (txPinned x h))) else x

/-- Handles in ascending order, each once. -/
def insertNat (h : Nat) : List Nat → List Nat
  | [] => [h]
  | x :: r => if h < x then h :: x :: r else if h = x then x :: r else x :: insertNat h r
def sortNats (l : List Nat) : List Nat := l.foldl (fun acc h => insertNat h acc) []

/-- Entries of a bucket: HASH, SLOT, VALID, HANDLE of entry i. -/
def bktHash (b : List Byte) (i : Nat) : Nat := bytesAt b (32 * i) 16
def bktSlot (b : List Byte) (i : Nat) : Nat := bytesAt b (32 * i + 16) 2 % 512
def bktValid (b : List Byte) (i : Nat) : Bool := bytesAt b (32 * i + 18) 1 == 1
def bktHandle (b : List Byte) (i : Nat) : Nat := bytesAt b (32 * i + 20) 4 % 2 ^ 23
/-- The valid entry of a key, and the lowest free entry. -/
def bktFind (b : List Byte) (r : KvReq) : Option Nat :=
  (List.range 8).find? (fun i => bktValid b i && bktHash b i == r.hash && bktSlot b i == r.target / 2 ^ 23)
def bktFree (b : List Byte) : Option Nat := (List.range 8).find? (fun i => !bktValid b i)

/-- The lowest free handle of the column of rank k (R379). -/
def lowestFree (s : State) (g : KvCfg) (x : KvTx) (k : Nat) : Option Nat :=
  ((List.range g.rowCount).map (fun i => k * g.rowCount + i)).find? (fun h => entState (txEnt s g x h) == 0)

/-- A new page (R379). -/
def newPage (g : KvCfg) (x : KvTx) (h n owner : Nat) : KvTx :=
  x.put h (n * 2 ^ 80 + 1 * 2 ^ 48 + owner % 2 ^ 22 * 2 ^ 26 + 1 * 2 ^ 24 + g.loc h)

/-- Step 1: pins of frame N and ended copy pins dropped, PINs made (R378, R382). -/
def stepPins (s : State) (g : KvCfg) (reqs : List KvReq) (x : KvTx) : KvTx :=
  let kept := x.pins.filter (fun p => p.2.2 == 0 || decide (s.ft.tickAt < p.2.2))
  let dropped := x.framePins ++ ((x.pins.filter (fun p => !kept.contains p)).map Prod.fst)
  let x := { x with framePins := [], pins := kept }
  let x := (reqs.filter (fun r => r.code == 1)).foldl (fun x r => x.go fun x =>
    let h := r.target % 2 ^ 23
    if txLive s g x h then { x with framePins := insertNat h x.framePins } else x.fail 4 r.ord) x
  x.go fun x => (sortNats (dropped ++ x.framePins)).foldl (fun x h => txPinBit s g x h) x

/-- Step 2: one ATTACH. -/
def stepAttach (s : State) (g : KvCfg) (x : KvTx) (r : KvReq) : KvTx :=
  let b := txBucket s g x (g.bucketOf r)
  let x := { x with bkts := Assoc.put (g.bucketOf r) (some b) x.bkts }
  match bktFind b r with
  | some i =>
    let h := bktHandle b i
    if h < g.handles then (txRef s g x h r.ord true).result r.ord 0 (some h) else x.result r.ord 1 none
  | none => x.result r.ord 1 none

/-- Step 3: one ALLOC or COPY. -/
def stepTake (s : State) (g : KvCfg) (n : Nat) (x : KvTx) (r : KvReq) : KvTx :=
  if r.code = 3 then
    if !g.cols.contains (r.target % 512) then x.fail 4 r.ord
    else match lowestFree s g x (g.cols.idxOf (r.target % 512)) with
      | some h => (newPage g x h n r.owner).result r.ord 0 (some h)
      | none => x.fail 5 r.ord
  else
    let src := r.target % 2 ^ 23
    if !txLive s g x src then x.fail 4 r.ord
    else if entRef (txEnt s g x src) = 0 then x.fail 7 r.ord
    else if 16384 ≤ x.pins.length then x.fail 10 r.ord
    else match lowestFree s g x (src / g.rowCount) with
      | none => x.fail 5 r.ord
      | some h =>
        let x := (newPage g x h n r.owner).result r.ord 0 (some h)
        let x := { x with framePins := insertNat src x.framePins, pins := x.pins ++ [(src, x.copyNo, 0)],
                            copies := x.copies ++ [(r, src, h, x.copyNo)], copyNo := x.copyNo + 1 }
        txPinBit s g (txRef s g x src r.ord false) src

/-- Step 4: one INSERT (R389). -/
def stepInsert (s : State) (g : KvCfg) (x : KvTx) (r : KvReq) : KvTx :=
  let h := r.target % 2 ^ 23
  let k := g.bucketOf r
  let b := txBucket s g x k
  let x := { x with bkts := Assoc.put k (some b) x.bkts }
  if !txLive s g x h then x.fail 4 r.ord
  else if (bktFind b r).isSome then x.result r.ord 2 none
  else match bktFree b with
    | none => { (x.result r.ord 3 none) with full := true }
    | some i =>
      let e := leBytes 16 r.hash ++ leBytes 2 (r.target / 2 ^ 23) ++ [1, 0] ++ leBytes 4 h ++ List.replicate 8 0
      txRef s g { x with bkts := Assoc.put k (some (splice b (32 * i) e)) x.bkts } h r.ord true

/-- Step 5: one RELEASE or REMOVE. -/
def stepRelease (s : State) (g : KvCfg) (x : KvTx) (r : KvReq) : KvTx :=
  if r.code = 6 then
    let h := r.target % 2 ^ 23
    if txLive s g x h then txRef s g x h r.ord false else x.fail 4 r.ord
  else
    let k := g.bucketOf r
    let b := txBucket s g x k
    match bktFind b r with
    | none => x.fail 9 r.ord
    | some i =>
      let h := bktHandle b i
      let x := { x with bkts := Assoc.put k (some (splice b (32 * i) (List.replicate 32 0))) x.bkts }
      if h < g.handles then txRef s g x h r.ord false else x

/-- Step 6: frees. A freed page's logged writes leave the log (R384). -/
def stepFrees (s : State) (g : KvCfg) (x : KvTx) : KvTx :=
  (sortNats (x.ents.map Prod.fst ++ liveCandidates s g)).foldl (fun x h =>
    let e := txEnt s g x h
    if txLive s g x h && entRef e == 0 && !txPinned x h then
      let x := x.put h (putField (putField (putField e 25 24 0) 47 26 (2 ^ 22 - 1)) 23 23 0)
      { x with log := x.log.filter (fun w => w.1 != h) }
    else x) x

/-- Step 7: one write declaration. -/
def stepDeclare (s : State) (g : KvCfg) (n : Nat) (x : KvTx) (r : KvReq) : KvTx :=
  let mark (x : KvTx) (h : Nat) : KvTx :=
    let e := txEnt s g x h
    let x := x.put h (putField e 79 64 (min 0xFFFF (frameAhead (entSettled e) ((n + 1) % 2 ^ 48))))
    { x with log := x.log ++ [(h, (n + 1) % 2 ^ 48)] }
  if r.code = 8 then
    let h := r.target % 2 ^ 23
    if !txLive s g x h then x.fail 4 r.ord
    else if entRef (txEnt s g x h) ≠ 1 then x.fail 8 r.ord
    else mark x h
  else match x.copies.find? (fun c => c.1.ord == r.ord) with
    | some (_, _, h, _) => mark x h
    | none => x

/-- Step 8: settlement (R384), in order of frame. -/
def stepSettle (s : State) (g : KvCfg) (n : Nat) (x : KvTx) : KvTx :=
  let lim := (n + 2 ^ 48 - g.lag) % 2 ^ 48
  let due := x.log.filter (fun w => !frameLater lim w.2)
  let x := { x with log := x.log.filter (fun w => frameLater lim w.2) }
  let ins (l : List (Nat × Nat)) (w : Nat × Nat) : List (Nat × Nat) :=
    l.takeWhile (fun y => !frameLater w.2 y.2) ++ [w] ++ l.dropWhile (fun y => !frameLater w.2 y.2)
  (due.foldl ins []).foldl (fun x w =>
    if txLive s g x w.1 then
      let e := txEnt s g x w.1
      let d := frameAhead w.2 ((entSettled e + entDelta e) % 2 ^ 48)
      x.put w.1 (putField (putField e 127 80 w.2) 79 64 (if 2 ^ 47 ≤ d then 0 else min 0xFFFF d))
    else x) x

/-- The whole commit of frame `n` over the requests in ascending ORD (R378). -/
def commitTx (s : State) (g : KvCfg) (reqs : List KvReq) (n : Nat) : KvTx :=
  let step (codes : List Nat) (f : KvTx → KvReq → KvTx) (x : KvTx) : KvTx :=
    (reqs.filter (fun r => codes.contains r.code)).foldl (fun x r => x.go (fun x => f x r)) x
  let x : KvTx := ⟨[], [], [], s.kv.framePins, s.kv.pins, s.kv.log, [], false, [], s.kv.copyNo, none⟩
  let x := stepPins s g reqs x
  let x := step [2] (stepAttach s g) x
  let x := step [3, 4] (stepTake s g n) x
  let x := step [5] (stepInsert s g) x
  let x := step [6, 7] (stepRelease s g) x
  let x := x.go (stepFrees s g)
  let x := step [4, 8] (stepDeclare s g n) x
  x.go (stepSettle s g n)

/-! ## Requests -/

/-- A request from its 32 bytes (R375). -/
def kvReqOf (b : List Byte) : KvReq :=
  ⟨bytesAt b 0 6, bytesAt b 6 1, bytesAt b 7 1 % 2 == 1, bytesAt b 8 4, bytesAt b 12 4, bytesAt b 0x10 16,
   bytesAt b 0x10 4, bytesAt b 0x14 4, 0, 0⟩

/-- A reserved CODE or field, or a reserved TGT (R380, code 3). -/
def kvReserved (b : List Byte) : Bool :=
  let r := kvReqOf b
  if r.code = 0 ∨ 8 < r.code ∨ 2 ≤ bytesAt b 7 1 then true
  else if r.code = 2 ∨ r.code = 5 ∨ r.code = 7 then false
  else if 2 ^ 23 ≤ r.target ∨ (r.code = 3 ∧ 512 ≤ r.target) then true
  else if r.code = 3 then decide (2 ^ 22 ≤ r.hash)
  else if r.code = 4 then
    decide (2 ^ 64 ≤ r.hash) || decide (2 ^ 22 ≤ r.owner) || decide (2 ^ 16 ≤ r.evt) || r.evt % 64 != 0
      || (bitOf r.evt 15 && decide (5 < fieldOf r.evt 9 6))
  else decide (r.hash ≠ 0)

/-- A request error (R376, R380): FAULT, FAULT_ORD, and a frame fault of cause 0x24. -/
def kvFault (s : State) (code ord : Nat) : State :=
  let s := setReg (setReg s prefixBlk Off.PREFIX_FAULT (code * 2 ^ 24)) prefixBlk Off.PREFIX_FAULT_ORD ord
  errFault s prefixBlk Err.PREFIX_REQ_FAULT 0x24

/-- Requests in ascending ORD. -/
def kvInsert (r : KvReq) : List KvReq → List KvReq
  | [] => [r]
  | x :: l => if r.ord < x.ord then r :: x :: l else x :: kvInsert r l

/-- Requests held for a frame. -/
def kvOf (s : State) (n : Nat) : List KvReq := s.kv.reqs.filter (fun r => r.frame == n)

/-- The program that the engine serves is armed or runs (R372, R378). -/
def kvLive (s : State) : Bool := s.ft.pstate == 2 || running s

/-- Granules of the directory and the table that a commit reads. -/
def txGranules (g : KvCfg) (reqs : List KvReq) (x : KvTx) : List Nat :=
  let named := (reqs.filter (fun r => [1, 4, 5, 6, 8].contains r.code && decide (r.target % 2 ^ 23 < g.handles))).map (fun r => r.target % 2 ^ 23)
  (sortNats ((named ++ x.ents.map Prod.fst).map (fun h => (g.dir + 16 * h) / 32)))
    ++ (x.bkts.map (fun b => (List.range 8).map (fun k => (g.pt + 256 * b.1) / 32 + k))).flatten

/-- The check of a whole frame's requests against the state that the steps leave (R377, R380): the request with the
lowest ORD among those that were wrong on arrival, or the first that a step refuses. -/
def kvCheck (s : State) (n : Nat) : State :=
  match kvCfg s with
  | none => s
  | some g =>
    match (kvOf s n).find? (fun r => r.bad != 0) with
    | some r => kvFault s r.bad r.ord
    | none => match (commitTx s g (kvOf s n) n).err with
      | some (c, o) => kvFault s c o
      | none => s

/-- The check at cc 0 of the boundary slot that ends frame `n`. -/
def kvTick (s : State) (n : Nat) : State := if kvLive s && !s.ft.halted then kvCheck s n else s

/-- The directory as loading reads it (R372): granules with an error are reported by their column, an uncorrectable one
by the engine too. -/
def dirRead (s : State) (g : KvCfg) : State :=
  (sortNats ((s.synd.map Prod.fst).filter (fun i => decide (g.dir ≤ 32 * i) && decide (32 * i < g.dir + 16 * g.handles)))).foldl
    (fun s i =>
      let (s, _, u) := granuleRead s i
      if u then errFault s prefixBlk Err.PREFIX_DIR_UNCORR 0x10 else s) s

/-! ## Staging (R377) -/

/-- Lines of the directory and the table that the staging of a request needs: those of the requests of its frame that are
staged, and its own. -/
def kvNeeds (s : State) (n ord : Nat) : List Nat :=
  match kvCfg s with
  | none => []
  | some g =>
    let reqs := (kvOf s n).filter (fun r => r.bad == 0 && (r.staged != 0 || r.ord == ord))
    ((txGranules g reqs (commitTx s g reqs n)).map (fun i => i / 8)).eraseDups

/-- Lines that the kind-2 granules can hold (R245). -/
def kvCapacity (s : State) : Nat := 65536 * ((List.range 16).filter (fun g => slmKind s g == 2)).length

/-- A line read from DRAM enters the kind-2 granules; which line leaves full granules is free (log entry 11). -/
def kvEnter (s : State) (line : Nat) : State :=
  let s := freshRange s (kvGran line 0) 8
  if s.kv.lines.contains line ∨ kvCapacity s = 0 then s
  else if s.kv.lines.length < kvCapacity s then setKv s (fun k => { k with lines := line :: k.lines })
  else
    let (x, s) := draw s 32
    setKv s (fun k => { k with lines := line :: k.lines.eraseIdx (x % k.lines.length) })

/-- The read of a missing line, for router 32 port 12: it goes in SERVICE slots (R377). -/
def kvAsk (s : State) (line : Nat) : State :=
  let id := s.nextPacket
  let s := requestTo s (serverOf (256 * line) 32) 32 12 0 0 false 0 7 (256 * line) []
  setKv s (fun k => { k with asks := k.asks ++ [(id, line)], misses := satAdd (2 ^ 32 - 1) k.misses 1 })

/-- The reply of such a read. -/
def kvReply (s : State) (p : Packet) : State :=
  match s.kv.asks.find? (fun x => x.1 == p.id) with
  | some (_, line) =>
    let s := setKv s (fun k => { k with asks := k.asks.filter (fun x => x.1 != p.id), got := line :: k.got })
    let s := kvEnter s line
    if p.status = 2 then errFault s prefixBlk Err.PREFIX_DIR_UNCORR 0x10 else s
  | none => s

/-- The engine reads the lines that it holds through their checker (R258, R262). -/
def kvLook (s : State) (lines : List Nat) : State :=
  if sramClean s then s
  else (lines.filter (fun l => s.kv.lines.contains l)).foldl (fun s l => (List.range 8).foldl (fun s k => (sramRead s (kvGran l k)).1) s) s

/-- The engine in a cc: the oldest request that waits is staged, in 4 cc, once the lines it needs are there. -/
def kvCc (s : State) : State :=
  match s.kv.waiting with
  | [] => s
  | (n, ord) :: rest =>
    if s.kv.asks ≠ [] then s
    else match (kvNeeds s n ord).filter (fun l => !s.kv.lines.contains l && !s.kv.got.contains l) with
      | [] =>
        let at_ := max s.now s.kv.stagedAt + 4
        setKv (kvLook s (kvNeeds s n ord)) fun k =>
          { k with waiting := rest, stagedAt := at_, got := [],
                   reqs := k.reqs.map (fun r => if r.frame = n ∧ r.ord = ord ∧ r.staged = 0 then { r with staged := at_ } else r) }
      | l => l.foldl kvAsk s

/-- A request record reaches the engine (R375-R377): after a halt a late one or one past a limit is still recorded (R559),
and any other is dropped (R563). -/
def kvRecord (s : State) (b : List Byte) : State :=
  if (kvCfg s).isNone then s
  else
    let r := kvReqOf b
    let ahead := frameAhead s.ft.frame r.frame
    let last := decide (ahead = 2 ^ 48 - 1) && decide (pos s = 0)
    if (2 ^ 47 ≤ ahead ∧ !last) ∨ (64 < ahead ∧ ahead < 2 ^ 47) ∨ 4096 ≤ (kvOf s r.frame).length ∨ 16384 ≤ s.kv.reqs.length then
      kvFault s 1 r.ord
    else if s.ft.halted then s
    else
      let code := if kvReserved b then 3 else if (kvOf s r.frame).any (fun x => x.ord == r.ord) then 2 else 0
      let s := setKv s (fun k => { k with reqs := kvInsert { r with bad := code } k.reqs, waiting := k.waiting ++ [(r.frame, r.ord)] })
      if last then kvCheck s r.frame else s

/-- A request packet at router 32 port 12 (R375): a write with ADDR zero, one record to a unit; anything else is an
address error (DESIGN CHOICE, log entry 62). -/
def kvPacket (s : State) (p : Packet) : State × Status :=
  if !p.write ∨ p.addr ≠ 0 then (s, 1)
  else
    let s := (List.range (p.len + 1)).foldl (fun s k =>
      if p.badUnits.contains k then s else kvRecord s ((p.data.drop (32 * k)).take 32)) s
    (s, if p.badUnits = [] then 0 else 2)

/-- KV_REQUEST (R375, R376): the record is that of the copy which waits at hub port 12, when one carries it. -/
def execKvRequest (rec : BitVec 256) (s : State) : Host.Outcome State Fault Refusal :=
  .next (if hubUp s then
    let i := (rtr s 32).outq.findIdx (fun x => x.port == 12 && !x.taken && decide (x.due ≤ s.now) && x.flit.pay == rec)
    let s := if i < (rtr s 32).outq.length then takeCopy s 32 i else s
    kvRecord s (leBytes 32 rec.toNat)
  else s)

/-! ## COMMIT -/

/-- One directory entry written through (R373), with its signature record (R588). -/
def writeEntry (s : State) (g : KvCfg) (h e : Nat) : State :=
  let a := g.dir + 16 * h
  let b := leBytes 16 e
  let s := freshCheck (memWrite s a b true).1 (kvGran (a / 256) (a % 256 / 32))
  setKv s (fun k => { k with sig := sigStep k.sig (b ++ List.replicate 16 0) a })

/-- One result record (R386). -/
def writeResult (s : State) (g : KvCfg) (x : KvTx) (r : KvReq) : State :=
  if r.result then
    let (st, h) := ((x.res.find? (fun y => y.1 == r.ord)).map Prod.snd).getD (0, none)
    let e := leBytes 4 st ++ leBytes 4 (h.getD 0) ++ leBytes 8 (h.elim 0 g.pageAddr)
    (memWrite s (g.res + 16 * (r.ord % 2 ^ g.resLog)) e true).1
  else s

/-- The row-engine request of a COPY (R381): COUNT, ADDR and ARG words. -/
def queueCopy (s : State) (g : KvCfg) (c : KvReq × Nat × Nat × Nat) : State :=
  let (r, src, dst, no) := c
  let evt := bitOf r.evt 15
  let word := b2n evt * 2 ^ 9 + fieldOf r.evt 14 10 * 16 + fieldOf r.evt 9 6
  queueRequest s (g.colOf src) 0x10F80000 (32 * g.rowOf src) (word * 2 ^ 22 + 32 * g.rowOf dst) no

/-- A commit that took place: entries, buckets, results in the order of the commit steps (R386), pins, log and copies. -/
def applyCommit (s : State) (g : KvCfg) (reqs : List KvReq) (n : Nat) (x : KvTx) : State :=
  let s0 := s
  let s := x.order.foldl (fun s h =>
    let e := (Assoc.get? h x.ents).getD 0
    if e = kvEntry s0 g h then s else writeEntry s g h e) s
  let s := x.bkts.foldl (fun s b => if b.2 = cleanRead s0 (g.pt + 256 * b.1) 256 then s else (memWrite s (g.pt + 256 * b.1) b.2 true).1) s
  let s := [[1], [2], [3, 4], [5], [6, 7], [8]].foldl (fun s codes =>
    (reqs.filter (fun r => codes.contains r.code)).foldl (fun s r => writeResult s g x r) s) s
  let s := setErrIf x.full s prefixBlk Err.PREFIX_INSERT_FULL
  let s := setKv s (fun k => { k with framePins := x.framePins, pins := x.pins, copyNo := x.copyNo, log := x.log })
  let s := setReg s prefixBlk Off.PREFIX_LAST_COMMIT (n % 2 ^ 32)
  x.copies.foldl (fun s c => queueCopy s g c) s

/-- The commit of the frame that has ended (R378, R385, R564): a frame that faulted or was halted commits
nothing, and its requests are gone. -/
def commitNow (s : State) : State :=
  let s := setFt s (fun f => { f with doneStage := 29 })
  let n := (s.ft.frame + 2 ^ 48 - 1) % 2 ^ 48
  let reqs := kvOf s n
  let s := setKv s (fun k => { k with reqs := k.reqs.filter (fun r => r.frame != n), waiting := k.waiting.filter (fun w => w.1 != n) })
  match kvCfg s with
  | some g =>
    if s.ft.faultedPrev || s.ft.halted || !kvLive s || reqs.any (fun r => r.bad != 0) then s
    else
      let x := commitTx s g reqs n
      if x.err.isSome then s else applyCommit s g reqs n x
  | none => s

/-- COMMIT (R378): once in a boundary slot, from cc 29. -/
def execCommit (s : State) : Host.Outcome State Fault Refusal :=
  .next (if awake s && inBoundary s 29 && decide (s.ft.doneStage < 29) then commitNow s else s)

/-- COPY_END_REPORT (R382): the pin's copy has ended. -/
def execCopyEndReport (id : Nat) (s : State) : Host.Outcome State Fault Refusal :=
  .next (match landedMsg s id with
    | some m => match m.kind with
      | .copyEnd h t =>
        setKv (chordDrop s id) fun k =>
          { k with pins := k.pins.map (fun p => if p.2.1 = h ∧ p.2.2 = 0 then (p.1, p.2.1, t + 1) else p) }
      | _ => s
    | none => s)

/-- PREFIX_FLUSHED (R374). -/
def execPrefixFlushed (s : State) : Host.Outcome State Fault Refusal :=
  .next (if s.kv.flushPending then setKv s (fun k => { k with flushed := true, flushPending := false }) else s)

end Sys2Proof.Machine
end

