-- ==== Sys2Proof/Machine/Slm.lean ====
section
/-! DEFINITION. The shared last-level memory (R244-R251): the general cache, unscheduled accesses to one
32-byte unit wherever it lies (R19, R28, R31, R312, R475), and SLM_ACCESS. -/

namespace Sys2Proof.Machine

/-- The SLM block's entry. -/
def slmBlk : Nat := blk Ty.SLM 0

/-! ## The general cache (R247, R248) -/

/-- Set of a direct DRAM address, granule and set in one number; none with no cache granule. -/
def cacheSet (s : State) (a : Nat) : Option Nat :=
  let l := cacheGranules s
  if l = [] then none else some (nth l (a / 2 ^ 20 % l.length) * 4096 + fieldOf a 19 8)

/-- Does the address lie in direct DRAM? -/
def isDram (a : Nat) : Bool := match placeOf a with
  | .dram _ _ => true
  | _ => false

/-- The way that holds a line. -/
def cacheWay (s : State) (set a : Nat) : Option Nat :=
  (List.range 16).find? (fun w => (Assoc.get? (set * 16 + w) s.slm.lines).elim false (fun x => x.tag == a / 256))

/-- Tree pseudo-LRU over 16 ways: node i of 1-15 is bit i, set when the upper half is older. -/
def plruTouch (bits way : Nat) : Nat :=
  let step (x : Nat × Nat) (l : Nat) : Nat × Nat :=
    let up := way.testBit (3 - l)
    (if up then x.1 - (if x.1.testBit x.2 then 2 ^ x.2 else 0) else x.1 ||| 2 ^ x.2, 2 * x.2 + b2n up)
  ((List.range 4).foldl step (bits, 1)).1
def plruVictim (bits : Nat) : Nat := ((List.range 4).foldl (fun n _ => 2 * n + b2n (bits.testBit n)) 1) - 16

/-- The way that a new line takes: a free one, else the pseudo-LRU victim. -/
def cacheVictim (s : State) (set : Nat) : Nat :=
  ((List.range 16).find? (fun w => (Assoc.get? (set * 16 + w) s.slm.lines).isNone)).getD (plruVictim (Assoc.getD 0 set s.slm.plru))

/-- A way used. -/
def cacheTouch (s : State) (set way : Nat) : State :=
  setSlm s (fun x => { x with plru := Assoc.put set (some (plruTouch (Assoc.getD 0 set x.plru) way)) x.plru })

/-- HITS and MISSES (R254), which wrap: reads alone, once for each 32-byte unit (DESIGN CHOICE, log entry 76). -/
def cacheCount (s : State) (off : Nat) : State := setReg s slmBlk off (getReg s slmBlk off + 1)

/-- A look into the line of a set that holds the granule: its data on a hit. A line whose read finds an uncorrectable
granule is discarded, with CACHE_REFILL, and is to be fetched again (R247); it counts as a miss. -/
def cacheLook (s : State) (set a : Nat) : State × Option (List Byte) :=
  match cacheWay s set a with
  | some w =>
    let (s, d, u) := sramRead s (cacheGran (set * 16 + w) (a % 256 / 32))
    if u then
      let s := setSlm s (fun x => { x with lines := Assoc.put (set * 16 + w) none x.lines })
      (cacheCount (setErr s slmBlk Err.SLM_CACHE_REFILL) Off.SLM_MISSES, none)
    else (cacheCount (cacheTouch s set w) Off.SLM_HITS, some d)
  | none => (cacheCount s Off.SLM_MISSES, none)

/-- A fetched line entered in its set. -/
def cacheEnter (s : State) (set line : Nat) (d : List Byte) : State :=
  let w := cacheVictim s set
  let s := setSlm (freshRange s (cacheGran (set * 16 + w) 0) 8) (fun x => { x with lines := Assoc.put (set * 16 + w) (some ⟨line, d⟩) x.lines })
  cacheTouch s set w

/-- A line on its way is not kept once a write or adder operation has passed it. -/
def fillStale (s : State) (a : Nat) : State :=
  if s.slm.fills = [] then s
  else setSlm s (fun x => { x with fills := x.fills.map (fun f => if f.line = a / 256 then { f with keep := false } else f) })

/-- A service write of a whole granule updates the line it hits, with fresh check bits. -/
def cacheWrite (s : State) (a : Nat) (d : List Byte) : State :=
  let s := fillStale s a
  match cacheSet s a with
  | none => s
  | some set => match cacheWay s set a with
    | some w => setSlm (freshRange s (cacheGran (set * 16 + w) (a % 256 / 32)) 1) (fun x =>
        { x with lines := Assoc.put (set * 16 + w) ((Assoc.get? (set * 16 + w) x.lines).map (fun l => { l with data := splice l.data (a % 256) d })) x.lines })
    | none => s

/-- An adder operation invalidates the line it hits. -/
def cacheDrop (s : State) (a : Nat) : State :=
  let s := fillStale s a
  match cacheSet s a with
  | none => s
  | some set => match cacheWay s set a with
    | some w => setSlm s (fun x => { x with lines := Assoc.put (set * 16 + w) none x.lines })
    | none => s

/-! ## One unit of unscheduled traffic -/

/-- A router's read of an accumulator row inside its hazard window (R141). How many hazard reads a read of several
granules of a row counts is left open: one for each unit of 32 bytes (DESIGN CHOICE, log entry 58). -/
def routerHazard (s : State) (a : Nat) : State :=
  match placeOf a with
  | .mstore g off =>
    let row := (off - accOff) / 512
    if accOff ≤ off ∧ hazardRow s g row then noteHazard s g row 0xFFF else s
  | _ => s

/-- A read of 32 bytes at a direct address outside DRAM, which columns serve (R19, R312): data and status. -/
def unitRead (s : State) (a : Nat) : State × List Byte × Status :=
  match placeOf a with
  | .gnomon off => (s, gnomonRead s off 32, 0)
  | _ =>
    if populated s a then
      let (s, d, u) := granuleRead (routerHazard s a) (a / 32)
      (s, d, if u then 2 else 0)
    else (s, List.replicate 32 0, 1)

/-- A write or adder operation of 32 bytes at such an address as its requester names it (R19, R28, R31, R243). -/
def unitWrite (s : State) (a aop : Nat) (d : List Byte) : State × Status :=
  if (aop ≠ 0 ∧ isAlias a) ∨ !populated s (direct a) then (s, 1) else adderWrite s (direct a / 32) aop d

/-! ## SLM_ACCESS (R250) -/

/-- Bank of an SLM offset (R244). -/
def slmBank (off : Nat) : Nat := 4 * fieldOf off 27 24 + fieldOf off 8 7

/-- Quarters of a bank's 128 bytes used in this cc: an adder operation takes the bank (R251). -/
def slmUsed (s : State) (bank : Nat) : Nat := if s.slm.used.1 = s.now + 1 then Assoc.getD 0 bank s.slm.used.2 else 0
def slmTake (s : State) (bank n : Nat) : State :=
  setSlm s (fun x => { x with used := (s.now + 1, Assoc.put bank (some (slmUsed s bank + n)) (if x.used.1 = s.now + 1 then x.used.2 else [])) })

/-! ## Requests at the general cache (R247, R248, R312) -/

/-- Bank in which a line of the cache lies: the ways of a set lie one after another, and the sets likewise (DESIGN CHOICE,
log entry 61). -/
def lineBank (set way a : Nat) : Nat := 4 * (set / 4096) + fieldOf (set % 4096 * 4096 + way * 256 + a % 256) 8 7

/-- Capacity of both banks that a line lies in (R244). -/
def lineTake (s : State) (set way : Nat) : State := slmTake (slmTake s (lineBank set way 0) 4) (lineBank set way 128) 4
def lineRoom (s : State) (set way : Nat) : Bool := slmUsed s (lineBank set way 0) == 0 && slmUsed s (lineBank set way 128) == 0

/-- A write or adder operation all of whose units have passed goes on to its column. -/
def cachePass (s : State) (p : Packet) : State :=
  let id := s.nextPacket
  let s := setSlm s (fun x => { x with passed := x.passed ++ [(id, p.id)] })
  let s := requestTo s (serverOf p.addr 32) 32 8 0 p.rtag true p.aop p.len p.addr p.data
  setPacket s id (fun x => { x with badUnits := p.badUnits, status := p.status, entered := true })

/-- One unit of a write or adder operation at the general cache (R247): the line it hits is updated, while its bank has
room in this cc, or dropped, and one on its way is not kept. The flag says that it must wait for the bank. -/
def cachePut (s : State) (q : SlmReq) (p : Packet) : State × Bool :=
  if p.badUnits.contains ((q.addr - p.addr) / 32) then (s, false)
  else if q.aop ≠ 0 then (cacheDrop s q.addr, false)
  else
    match (cacheSet s q.addr).bind (fun set => (cacheWay s set q.addr).map (fun w => lineBank set w q.addr)) with
    | none => (cacheWrite s q.addr q.data, false)
    | some bank => if 4 < slmUsed s bank + 1 then (s, true) else (cacheWrite (slmTake s bank 1) q.addr q.data, false)

/-- A unit misses: it waits for its line, which is asked for unless it is on its way. -/
def cacheFetch (s : State) (packet unit a : Nat) : State :=
  let line := a / 256
  if s.slm.fills.any (fun f => f.line == line && f.tick == s.ft.tickAt && f.keep) then
    setSlm s (fun x => { x with fills := x.fills.map (fun f => if f.line = line ∧ f.tick = s.ft.tickAt ∧ f.keep then { f with units := f.units ++ [(packet, unit)] } else f) })
  else
    let id := s.nextPacket
    let s := setSlm s (fun x => { x with fills := x.fills ++ [⟨id, line, s.ft.tickAt, true, [(packet, unit)], 0, []⟩] })
    setPacket (requestTo s (serverOf (256 * line) 32) 32 8 0 0 false 0 7 (256 * line) []) id (fun x => { x with entered := true })

/-- The set of a line on its way that the cache keeps: it came whole, in the frame in which it was asked for (R248), and no
write has passed it. -/
def fillSet (s : State) (f : CacheFill) : Option Nat :=
  if f.keep && f.tick == s.ft.tickAt && f.status == 0 && f.bad == [] then cacheSet s (256 * f.line) else none

/-- A line that has come answers the units that wait for it, and enters the cache. -/
def lineCome (s : State) (f : CacheFill) (data : List Byte) : State :=
  let s := setSlm s (fun x => { x with fills := x.fills.filter (fun g => g.packet != f.packet) })
  let s := match fillSet s f with
    | some set => cacheEnter (lineTake s set (cacheVictim s set)) set f.line (fit data 256)
    | none => s
  f.units.foldl (fun s (packet, unit) =>
    let k := match packet? s packet with
      | some q => (q.addr + 32 * unit) % 256 / 32
      | none => 0
    unitGot s packet unit (if f.status = 1 then 1 else if f.bad.contains k then 2 else 0, fit ((data.drop (32 * k)).take 32) 32)) s

/-- One line that has come, in its place among the requests: it waits for both its banks (R244, R250). -/
def cacheFill (s : State) (q : SlmReq) : State × Bool :=
  match s.slm.fills.find? (fun f => f.packet == q.packet) with
  | none => (s, false)
  | some f =>
    if (fillSet s f).elim false (fun set => !lineRoom s set (cacheVictim s set)) then (s, true) else (lineCome s f q.data, false)

/-- A reply at hub port 8 (R312): the line that a fill asked for, or the end of a write that passed. -/
def cacheReply (s : State) (p : Packet) : State :=
  if s.slm.fills.any (fun f => f.packet == p.id) then
    setSlm s fun x =>
      { x with fills := x.fills.map (fun f => if f.packet = p.id then { f with status := p.status, bad := p.badUnits } else f),
               queue := x.queue ++ [⟨false, false, 0, p.addr, p.data, p.id, s.now, true⟩] }
  else
    match s.slm.passed.find? (fun x => x.1 == p.id) with
    | some (_, id) => replyPacket (setSlm s (fun x => { x with passed := x.passed.filter (fun y => y.1 != p.id) })) id p.status [] p.badUnits s.now
    | none => s

/-- One unit of a read at the general cache: answered from a line that it hits, while the line's bank has room in this cc;
else it waits for its line. The flag says that it must wait for the bank. -/
def cacheUnit (s : State) (q : SlmReq) (unit : Nat) : State × Bool :=
  match cacheSet s q.addr with
  | none => (cacheFetch s q.packet unit q.addr, false)
  | some set =>
    let bank := (cacheWay s set q.addr).map (fun w => lineBank set w q.addr)
    if (bank.elim false (fun b => decide (4 < slmUsed s b + 1))) then (s, true)
    else
      let (s, d) := cacheLook (bank.elim s (fun b => slmTake s b 1)) set q.addr
      match d with
      | some d => (unitGot s q.packet unit (0, d), false)
      | none => (cacheFetch s q.packet unit q.addr, false)

/-- A scheduled copy served: a write, or an adder operation whose address or code may be refused, which
faults (R243, R321). A plain write to an address that is not the SLM's raises the fault 0x20 too, though the spec names no
report of it (R19; DESIGN CHOICE, log entry 56). -/
def slmServe (s : State) (x : OutCopy) : State :=
  let i := x.addr / 32
  if !populated s x.addr then raiseFault s slmBlk 0x20
  else if x.aop = 0 then (granuleMerge s i (x.addr % 32) x.data true).1
  else
    let (s, st) := adderWrite s i x.aop x.data
    if st = 1 then raiseFault s slmBlk 0x20 else s

/-- The copies at hub port 8, in the hub router's order: each is served while its bank has capacity in this
cc; what must wait keeps the order behind it. -/
def slmCopies : Nat → State → State
  | 0, s => s
  | n + 1, s =>
    match (rtr s 32).outq.zipIdx.find? (fun (x, _) => x.port == 8 && !x.taken && decide (x.due ≤ s.now)) with
    | none => s
    | some (x, i) =>
      let write := x.data != []
      let off := match placeOf x.addr with
        | .slm o => o
        | _ => 0
      let bank := slmBank off
      let cost := if x.aop ≠ 0 then 4 else 1
      if write && decide (4 < slmUsed s bank + cost) then s
      else
        let s := takeCopy s 32 i
        slmCopies n (if write then slmServe (slmTake s bank cost) x else s)

/-- The unscheduled requests at the SLM in their order: units of packets, and lines for the cache. -/
def slmRequests : Nat → State → State
  | 0, s => s
  | n + 1, s =>
    match s.slm.queue with
    | [] => s
    | q :: rest =>
      let off := match placeOf q.addr with
        | .slm o => o
        | _ => 0
      let bank := slmBank off
      let cost := if q.aop ≠ 0 then 4 else 1
      if q.fill then
        let (s, waits) := cacheFill s q
        if waits then s else slmRequests n (setSlm s (fun x => { x with queue := rest }))
      else if isDram q.addr then
        match packet? s q.packet with
        | none => slmRequests n (setSlm s (fun x => { x with queue := rest }))
        | some p =>
          let (s, waits) := if q.write then cachePut s q p else cacheUnit s q ((q.addr - p.addr) / 32)
          if waits then s
          else
            let s := setSlm s (fun x => { x with queue := rest })
            slmRequests n (if q.write && rest.all (fun r => r.fill || r.packet != q.packet) then cachePass s p else s)
      else if 4 < slmUsed s bank + cost then s
      else
        let s := slmTake (setSlm s (fun x => { x with queue := rest })) bank cost
        match packet? s q.packet with
        | none => slmRequests n s
        | some p =>
          let done := rest.all (fun r => r.fill || r.packet != q.packet)
          let k := (q.addr - p.addr) / 32
          let (s, d, st) :=
            if q.write then
              if p.badUnits.contains k then (s, [], 2) else
              let (s, st) := unitWrite s q.addr q.aop q.data
              (s, [], st)
            else unitRead s q.addr
          let status := if p.status = 0 then st else p.status
          let s := setPacket s q.packet (fun p => { p with data := if q.write then p.data else p.data ++ d, status := status,
                                                           badUnits := if st = 2 ∧ !q.write then p.badUnits ++ [k] else p.badUnits })
          let s := if done then (match packet? s q.packet with
            | some p => replyPacket s q.packet p.status p.data p.badUnits (s.now + 1)
            | none => s) else s
          slmRequests n s

/-- SLM_ACCESS (R249-R251): scheduled copies outside BOUNDARY, SERVICE and stretch slots (R89), unscheduled requests in
SERVICE and stretch slots. -/
def execSlmAccess (s : State) : Host.Outcome State Fault Refusal :=
  .next (if hubUp s && good s slmBlk && enabled s slmBlk then
    let s := if slotNow s ≠ 0 && decide (slotNow s < fSlots s) && classNow s != 6 then slmCopies (rtr s 32).outq.length s else s
    if serviceOpen s || !awake s then slmRequests s.slm.queue.length s else s
  else s)

end Sys2Proof.Machine
end

