-- ==== Sys2Proof/Machine/Link.lean ====
section
/-! DEFINITION. The Zeleri link's transmit side: transactions and their flits (R472), end-to-end checks (R479,
R480), lanes (R466), groups kept for replay (R469), credit (R476) and retry episodes (R470). -/

namespace Sys2Proof.Machine

/-- The ZLINK block's entry. -/
def zlBlk : Nat := blk Ty.ZLINK 0

/-- The link's hub is up, and its block is good and enabled. -/
def zlLive (s : State) : Bool := hubUp s && good s zlBlk && enabled s zlBlk
/-- The link is READY. -/
def zlUp (s : State) : Bool := zlLive s && s.zl.tstate == 4

/-- Transaction types (R473). -/
def tMRD : Nat := 1
def tMWR : Nat := 2
def tMBX : Nat := 5
def tCPL : Nat := 9
def tDEVEVT : Nat := 10
def tHRD : Nat := 11
def tHWR : Nat := 12

/-- The end-to-end check of a 32-byte unit (R479). -/
def e2e (d : List Byte) (term : Nat) : Word := BitVec.ofNat 32 (crc32c (fit d 32 ++ leBytes 8 term))

/-- Checks of a run of units from an address on; an uncorrectable one carries the inverse (R480). -/
def e2eRun (units : List (List Byte × Bool)) (term : Nat → Nat) : List Word :=
  units.zipIdx.map (fun (u, i) => if u.2 then ~~~ e2e u.1 (term i) else e2e u.1 (term i))

/-- A 32-byte unit as a flit payload. -/
def unitBits (d : List Byte) : BitVec 256 := BitVec.ofNat 256 (leNat (fit d 32))

/-! ## Flits -/

/-- The header flit (R472). -/
def txHeader (t : Transaction) : BitVec 256 :=
  BitVec.ofNat 256 (t.ttype % 256 * 2 ^ 248 + t.tag % 256 * 2 ^ 240 + t.len % 256 * 2 ^ 232 + t.aop % 16 * 2 ^ 228
    + b2n t.odd * 2 ^ 227 + t.cls % 2 * 2 ^ 226 + t.addr % 2 ^ 64 * 2 ^ 160 + t.data32 % 2 ^ 32 * 2 ^ 128
    + t.status % 256 * 2 ^ 120 + t.source % 2 ^ 32 * 2 ^ 64)

/-- The transaction that a header opens, without data. -/
def txOf (h : BitVec 256) : Transaction :=
  let x := h.toNat
  ⟨fieldOf x 255 248, fieldOf x 247 240, fieldOf x 239 232, fieldOf x 231 228, bitOf x 227, fieldOf x 226 226,
   fieldOf x 223 160, fieldOf x 159 128, fieldOf x 127 120, fieldOf x 95 64, [], []⟩

/-- Up to eight checks in one flit. -/
def checkFlit (c : List Word) : BitVec 256 := BitVec.ofNat 256 (joinNat 32 (c.map BitVec.toNat))

/-- Data flits with a check flit after every eighth and after the last. -/
def dataFlits : Nat → List (BitVec 256) → List Word → List (BitVec 256)
  | 0, _, _ => []
  | n + 1, d, c => if d = [] then [] else d.take 8 ++ [checkFlit (c.take 8)] ++ dataFlits n (d.drop 8) (c.drop 8)

/-- A transaction's flits. -/
def txFlits (t : Transaction) : List (BitVec 256) := txHeader t :: dataFlits t.data.length t.data t.checks

/-- Data and checks taken from the flits after a header that brings `n` data flits. -/
def takeData : Nat → Nat → List (BitVec 256) → List (BitVec 256) × List Word
  | 0, _, _ => ([], [])
  | f + 1, n, l =>
    if n = 0 then ([], [])
    else
      let k := min 8 n
      let c := (List.range k).map (fun i => BitVec.ofNat 32 (((l.drop k).headD 0).toNat >>> (32 * i)))
      let (d, cs) := takeData f (n - k) (l.drop (k + 1))
      (l.take k ++ d, c ++ cs)

/-- Flits of a transaction that brings `n` data flits. -/
def txLength (n : Nat) : Nat := 1 + n + ceilDiv n 8

/-! ## Groups -/

/-- The lane on which bit b of a flit travels at x16 (width 2) and at x8 on a half (R466). -/
def flitLane (width half b : Nat) : Nat := if width = 2 then b % 16 else b % 8 + 8 * half

/-- The symbols of a group on a lane in the order of its bits, flit by flit (R466): what each lane of the link carries. -/
def laneBits (width half lane : Nat) (group : List (BitVec 256)) : List Bool :=
  (group.map (fun f => ((List.range 256).filter (fun b => flitLane width half b == lane)).map (fun b => f.toNat.testBit b))).flatten

/-- Peer flits that may be outstanding: the least receive buffer of R484. -/
def peerBuffer : Nat := 2048

/-- The group's CRC (R467): over the data flits and bits [223:0] of the control flit. -/
def groupCrc (data : List (BitVec 256)) (ctrl : Nat) : Nat := crc32 ((data.map (fun d => leBytes 32 d.toNat)).flatten ++ leBytes 28 ctrl)

/-- SEQ of the last group received good: 0 from READY on until the first, whose own is 1 (DEDUCED, R467, R483, log
entry 77). -/
def ackNow (z : Zeleri) : Nat := (z.expect + 4095) % 4096
/-- SEQ of the last non-idle group sent, which an idle group carries. -/
def lastSeq (z : Zeleri) : Nat := (z.nextSeq + 4095) % 4096

/-- The control flit of a group (R467), with the receiver's ACK, NAK and CREDIT as they stand. -/
def controlFlit (z : Zeleri) (seq : Nat) (replay : Bool) (data : List (BitVec 256)) (valid : Nat) (ctrl : BitVec 128) : BitVec 256 :=
  let x := seq % 4096 * 2 ^ 212 + ackNow z * 2 ^ 200 + b2n z.nakSend * 2 ^ 199 + b2n replay * 2 ^ 198
    + valid % 65536 * 2 ^ 182 + z.freed % 65536 * 2 ^ 166 + ctrl.toNat
  BitVec.ofNat 256 (groupCrc data x * 2 ^ 224 + x)

/-- Group time in 0.01 ns (R466); a cc is 125 of them. -/
def groupTime (z : Zeleri) : Nat := if z.width = 1 then 512 else 256
/-- The group that starts in a cc, if one does, counted from READY; there is at most one. -/
def groupStart (z : Zeleri) (now : Nat) : Option Nat :=
  let d := now - z.readyAt
  let k := ceilDiv (125 * d) (groupTime z)
  if groupTime z * k < 125 * (d + 1) then some k else none

/-- Time of the first symbol of a group's control flit, its 17th, in units of 0.125 ns (R478). -/
def controlTime (z : Zeleri) (k : Nat) : Nat := (125 * z.readyAt + groupTime z * k + groupTime z * 16 / 17) * 2 / 25

/-- A group sent: 16 flits, zeros after the valid ones. -/
def sendGroup (s : State) (seq : Nat) (replay : Bool) (flits : List (BitVec 256)) (ctrl : BitVec 128) : State :=
  let data := flits ++ List.replicate (16 - flits.length) 0
  let s' := addOut s (.zeleriGroup s.now data (controlFlit s.zl seq replay data (2 ^ flits.length - 1) ctrl))
  setZl s' (fun z => { z with nakSend := false, lastSent := (ackNow z, z.freed) })

/-- The control block of the next new group: a halt block first (R477). -/
def nextControl (z : Zeleri) : Option (BitVec 128) :=
  match z.ctrl.find? (fun b => fieldOf b.toNat 127 120 == 0x81) with
  | some b => some b
  | none => z.ctrl.head?

/-- The DEVEVT of an event line, with its count as it leaves (R482). -/
def eventTx (z : Zeleri) (line : Nat) : Transaction :=
  ⟨tDEVEVT, 0, 0, 0, false, 0, 0, line % 32 * 2 ^ 16 + min 255 (Assoc.getD 0 line z.lines) * 2 ^ 8, 0, 0, [], []⟩

/-- The flits that the next `n` places of a group carry. -/
def groupFlits (z : Zeleri) (n : Nat) : List (BitVec 256) :=
  (z.waiting.take n).map (fun (f, l) => l.elim f (fun l => txHeader (eventTx z l)))

/-- The event lines whose DEVEVT is among those flits are sent, and clear (R482). -/
def linesSent (s : State) (n : Nat) : State :=
  ((s.zl.waiting.take n).filterMap Prod.snd).foldl (fun s l =>
    setZl (addOut s (.zeleri (eventTx s.zl l))) (fun z => { z with lines := Assoc.put l none z.lines })) s

/-- A new group of what waits, while the replay buffer (R469) and the peer's credit (R476) allow; else an idle group,
which is recorded when its NAK, ACK or CREDIT says something new. -/
def newGroup (s : State) (k : Nat) : State :=
  let z := s.zl
  let out := (z.sentFlits + 65536 - z.peerCredit % 65536) % 65536
  let n := min (min 16 z.waiting.length) (peerBuffer - out)
  let c := nextControl z
  if (n = 0 ∧ c.isNone) ∨ 1024 ≤ z.replay.length then
    if z.nakSend ∨ z.lastSent ≠ (ackNow z, z.freed) then sendGroup s (lastSeq z) false [] 0 else s
  else
    let b := c.getD 0
    let flits := groupFlits z n
    let probe := fieldOf b.toNat 127 120 == 2
    let s := setZl (linesSent s n) fun z =>
      { z with waiting := z.waiting.drop n, replay := z.replay ++ [⟨z.nextSeq, flits, b, s.now⟩], ctrl := z.ctrl.erase b,
               probeAt := if probe then some (controlTime z k) else z.probeAt,
               nextSeq := (z.nextSeq + 1) % 4096, sentFlits := (z.sentFlits + n) % 65536 }
    sendGroup s z.nextSeq false flits b

/-- The group that starts in this cc: one to be sent again, with REPLAY, or a new one (R466, R469). -/
def zlTransmit (s : State) : State :=
  match groupStart s.zl s.now with
  | none => s
  | some k => match s.zl.resend with
    | q :: rest =>
      let s' := setZl s (fun z =>
        { z with resend := rest, replay := z.replay.map (fun g => if g.seq = q then { g with sentAt := s.now } else g) })
      match s.zl.replay.find? (fun g => g.seq == q) with
      | some g => sendGroup s' q true g.flits g.ctrl
      | none => s'
    | [] => newGroup s k

/-- A transaction sent to the host; with the link down it is lost (R471). -/
def zlSend (s : State) (t : Transaction) : State :=
  if zlUp s then setZl (addOut s (.zeleri t)) (fun z => { z with waiting := z.waiting ++ (txFlits t).map (fun f => (f, none)) }) else s

/-- Set event lines that are not pending send one DEVEVT each (R482). -/
def linesPend (s : State) : State :=
  setZl s fun z =>
    let new := (z.lines.map Prod.fst).filter (fun l => !z.waiting.any (fun w => w.2 == some l))
    { z with waiting := z.waiting ++ new.map (fun l => (0, some l)) }

/-- A completion (R475); that of a transaction of before a link failure is discarded (R471). -/
def zlComplete (s : State) (tag status data32 len : Nat) (data : List (BitVec 256)) (checks : List Word) : State :=
  if s.zl.mute then s else zlSend s ⟨tCPL, tag % 256, len, 0, false, 0, 0, data32 % 2 ^ 32, status, 0, data, checks⟩

/-- A free TAG for a request of the device. -/
def freeTag (s : State) : Option Nat :=
  ((List.range 256).map (fun k => (s.zl.nextTag + k) % 256)).find? (fun t => s.zl.devReqs.all (fun r => r.1 != t))

/-! ## Retry episodes (R470) -/

/-- One episode more. -/
def countEpisode (s : State) : State := countField s zlBlk Off.ZLINK_EPISODES 31 0 1

/-- An episode is open in either direction. -/
def retrying (z : Zeleri) : Bool := z.rxEpisode != 0 || z.txEpisode != 0

/-- The episode of the transmit side closes once the groups that were sent again are acknowledged. -/
def closeResend (z : Zeleri) : Zeleri := if z.replayTo.isNone then { z with txEpisode := 0 } else z

/-- Resend every unacknowledged group (R469), which opens an episode. -/
def zlResend (s : State) : State :=
  match s.zl.replay.getLast? with
  | some g =>
    let s' := if s.zl.txEpisode = 0 then countEpisode s else s
    setZl s' (fun z => { z with txEpisode := if z.txEpisode = 0 then s.now + 1 else z.txEpisode, replayTo := some g.seq,
                                resend := z.replay.map SentGroup.seq })
  | none => s

end Sys2Proof.Machine
end

