-- ==== Sys2Proof/Machine/Movers.lean ====
section
/-! DEFINITION. Stack movers in the schedule (R402-R407) and their flits (R405); hub mover channels (R408-R412,
R415) and their bus errors (R413, R414). -/

namespace Sys2Proof.Machine

/-! ## Stack movers -/

/-- Stack movers and hub channels of the package. -/
def smoverCount : Nat := 128
def hmoverCount : Nat := 16

/-- The next descriptor at or after `i` whose OWN is 1 (R403); the count of the ring when there is none. -/
def nextOwned (s : State) (m i : Nat) : Nat :=
  let b := ringBody s m
  let n := ringCount b
  ((List.range n).find? (fun k => decide (i ≤ k) && bitOf (ringDesc b k).ctrl 31 && !(smv s m).cleared.contains k)).getD n

/-- A mover with no descriptor left has run past its last one, which counts as END (R407). -/
def moverEndCheck (s : State) (m : Nat) : State :=
  let i := nextOwned s m (smv s m).desc
  setSmv s m (fun x => if i < ringCount (ringBody s m) then { x with desc := i } else { x with desc := i, running := false, done := true })

/-- The mover takes its descriptors afresh at cc 0 of slot 1 (R403). -/
def moverFrameStart (s : State) (m : Nat) : State :=
  if (smv s m).halted ∨ (smv s m).fenced then s
  else
    moverEndCheck (setSmv s m (fun x =>
      { x with desc := 0, running := true, done := false, active := false, cleared := [], walk := Walk.init, reads := [],
               writes := 0, freeAt := s.now, lastAt := 0 })) m

/-- DESCRIPTOR_START (R403). -/
def execDescriptorStart (m : Nat) (s : State) : Host.Outcome State Fault Refusal :=
  onUnit smoverCount m s fun s =>
    let x := smv s m
    let d := ringDesc (ringBody s m) x.desc
    let at_ := posCc s (d.startSlot % 4096) d.startCc
    if workOpen s (blk Ty.SMOVER m) ∧ x.running ∧ !x.active ∧ !x.halted ∧ !x.fenced ∧ x.freeAt ≤ s.now ∧ at_ ≤ s.now then
      let s := setSmv s m fun x =>
        { x with active := true, startAt := s.now, walk := Walk.init, reads := [], writes := 0, rxSeq := fieldOf d.src 27 16,
                 lastAt := s.now + 1 }
      setErrIf (decide (at_ < x.freeAt)) s (blk Ty.SMOVER m) Err.SMOVER_WAIT_LATE
    else s

/-- DESCRIPTOR_COMPLETE (R407): in a cc after the last destination access was accepted. -/
def execDescriptorComplete (m : Nat) (s : State) : Host.Outcome State Fault Refusal :=
  onUnit smoverCount m s fun s =>
    let x := settleReads (smv s m) s.now
    let d := ringDesc (ringBody s m) x.desc
    if workOpen s (blk Ty.SMOVER m) ∧ x.active ∧ !x.halted ∧ !x.fenced ∧ x.walk.src = d.srcTotal ∧ x.walk.dst = d.dstTotal ∧ x.reads = [] ∧ x.writes = 0
        ∧ x.lastAt ≤ s.now then
      let s := setSmv s m fun _ =>
        { x with active := false, cleared := x.cleared ++ [x.desc], desc := x.desc + 1, done := x.done || bitOf d.ctrl 30,
                 freeAt := s.now }
      let s := if bitOf d.ctrl 29 then sendEvent s (blk Ty.SMOVER m) d.target (fieldOf d.ctrl 28 24) else s
      moverEndCheck s m
    else s

/-- A FLIT source takes the next flit of the receive queue (R398, R405): a wrong KEY or SEQ faults. -/
def moverTake (s : State) (m : Nat) : State :=
  let x := settleReads (smv s m) s.now
  let d := ringDesc (ringBody s m) x.desc
  match x.rx with
  | f :: rest =>
    if smoverOpen s m && d.skind == 1 && decide (x.walk.src < d.srcTotal) && decide (x.walk.hold.length + comingBytes x + 32 ≤ 64)
        && decide (sideUsed x s.now false < 2) then
      let bad := f.key != d.src % 65536 || f.seq != x.rxSeq
      let s := setSmv s m fun _ =>
        { (sideTake x s.now false) with
            rx := rest, rxSeq := (x.rxSeq + 1) % 4096,
            walk := { x.walk with src := x.walk.src + 1, hold := x.walk.hold ++ f.bytes } }
      if bad then errFault s (blk Ty.SMOVER m) Err.SMOVER_RX_ERR 0x20 else s
    else s
  | [] => s

/-- A FLIT destination injects one flit at router port 13 + mover (R405). -/
def moverInject (s : State) (m : Nat) : State :=
  let x := settleReads (smv s m) s.now
  let d := ringDesc (ringBody s m) x.desc
  if smoverOpen s m && d.dkind == 1 && decide (x.walk.dst < d.dstTotal) && decide (32 ≤ x.walk.hold.length)
      && decide (sideUsed x s.now true < 2) then
    let seq := (fieldOf d.dst 27 16 + x.walk.dst) % 4096
    let f := mkFlit (leNat (x.walk.hold.take 32)) (fieldOf d.dst 39 28) seq (slotNow s) (fieldOf d.ctrl 5 4) (d.dst % 65536)
    let s := setSmv s m fun _ =>
      { (sideTake x s.now true) with
          lastAt := s.now + 1, moved := satAdd (2 ^ 32 - 1) x.moved 32,
          walk := { x.walk with dst := x.walk.dst + 1, hold := x.walk.hold.drop 32 } }
    { s with flights := flightInsert ⟨m / 4, 13 + m % 4, s.now, 0, f⟩ s.flights }
  else s

/-- The FLIT sides of a stack mover in one cc (R401, R405). -/
def moverCc (s : State) (m : Nat) : State := moverInject (moverInject (moverTake (moverTake s m) m) m) m

/-! ## Hub channels: errors -/

/-- HMOVER facet of a channel. -/
def hmBlk (c : Nat) : Nat := blk Ty.HMOVER c

/-- Bytes of the elements that a request covers (R401). -/
def reqBytes (r : HReq) : Nat := (r.parts.map Prod.snd).sum

/-- What becomes of requests that a channel no longer waits for: writes already issued complete (R414). -/
def orphaned (x : HMover) : List (Nat × Bool × Nat) :=
  x.orphans ++ (x.reqs.filter (fun r => r.dir == 1)).map (fun r => (r.key, r.host, reqBytes r))

/-- A hub channel's bus error (R414): it halts, and what is outstanding is no longer waited for. -/
def hmError (s : State) (c addr dir cause : Nat) : State :=
  let b := hmBlk c
  let s := setReg s b Off.SMOVER_FAIL_ADDR_LO (addr % 2 ^ 32)
  let s := setReg s b Off.SMOVER_FAIL_ADDR_HI (addr / 2 ^ 32 % 2 ^ 32)
  let s := setReg s b Off.SMOVER_FAIL_INFO (dir * 2 ^ 30 + cause * 2 ^ 27 + (hmv s c).head % 4096)
  let s := setHmv s c (fun x => { x with halted := true, running := false, waiting := false, stage := 0, orphans := orphaned x, reqs := [] })
  setErr s b Err.HMOVER_BUS_ERR

/-- Address of the descriptor at the head. -/
def hmHeadAddr (s : State) (c : Nat) : Nat := ((hmv s c).ringBase + 64 * (hmv s c).head) % 2 ^ 48

/-- ENABLE goes from 0 to 1 (R408). -/
def hmEnable (s : State) (c : Nat) : State :=
  let b := hmBlk c
  let base := getReg s b Off.HMOVER_RING_LO + 2 ^ 32 * getReg s b Off.HMOVER_RING_HI
  let size := getReg s b Off.HMOVER_RING_SIZE
  let s := setHmv s c (fun x =>
    { HMover.init with enabled := true, ringBase := base, ringSize := size, orphans := orphaned x, moved := x.moved, fenced := x.fenced })
  if size = 0 ∨ 4096 < size then hmError s c base 2 3 else s

/-- ENABLE goes to 0: nothing more is issued. -/
def hmDisable (s : State) (c : Nat) : State := setHmv s c (fun x => { x with enabled := false })

/-! ## Hub channels: descriptors -/

/-- The descriptor that a channel runs. -/
def hmDesc (s : State) (c : Nat) : Desc := descOf (hmv s c).desc

/-- Multiples of a width, for signed steps. -/
def stepsOk (l : List Int) (w : Nat) : Bool := l.all (fun x => decide (x % (w : Int) = 0))

/-- Is a hub descriptor valid (R399)? The frame strides, which only stack movers have, are zero (DEDUCED, log entry 65);
FOP, which speaks of FLIT destinations, is not looked at. -/
def hubDescOk (b : List Byte) : Bool :=
  let d := descOf b
  let side (kind addr w : Nat) (code : Nat) (steps : List Int) : Bool :=
    if kind = 0 then decide (addr < 2 ^ 48) && addr % w == 0 && stepsOk steps w
    else kind == 2 && code == 5 && stepsOk steps 32
  let sc := fieldOf d.ctrl 23 21
  let dc := fieldOf d.ctrl 20 18
  decide (sc ≤ 5) && decide (dc ≤ 5) && d.n0 * d.sw % d.dw == 0 && d.n1 != 0 && d.n2 != 0
    && side d.skind d.src d.sw sc d.sstep && side d.dkind d.dst d.dw dc d.dstep
    && (d.aop == 0 || (d.dkind == 0 && dc == 5)) && (d.dkind != 0 || dc == 5)
    && d.startSlot == 0 && d.startCc == 0 && bytesAt b 7 1 == 0 && fieldOf d.ctrl 30 30 == 0 && fieldOf d.ctrl 9 6 == 0 && fieldOf d.ctrl 3 0 == 0
    && decide (d.fstrS = 0) && decide (d.fstrD = 0)

/-- Unscheduled traffic of the hub's units may enter (R65); outside the frame schedule it always may. -/
def svcOpen (s : State) : Bool := serviceOpen s || !awake s

/-- A channel may act. -/
def hmOpen (s : State) (c : Nat) : Bool :=
  hubUp s && svcOpen s && good s (hmBlk c) && (hmv s c).enabled && !(hmv s c).fenced

/-- TIMEOUT in force (R412). -/
def hmTimeout (s : State) (c : Nat) : Nat := max 6400 (getReg s (hmBlk c) Off.HMOVER_TIMEOUT)

/-- A REQ packet of a channel from hub port 11 (R410), entered in its list with the runs of bytes it covers. -/
def hmPacket (s : State) (c dir aop len addr : Nat) (parts : List (Nat × Nat)) (data : List Byte) : State :=
  let key := s.nextPacket
  let deadline := s.now + hmTimeout s c
  setHmv (newRequest s 32 11 c c (dir == 1 || data != []) aop len (addr / 32 * 32) data) c
    (fun x => { x with reqs := x.reqs ++ [⟨key, false, dir, addr, deadline, parts, none⟩] })

/-- A channel reads the descriptor at its head, or its first granule alone, for the purpose of a stage. -/
def hmRead (s : State) (c stage dir len : Nat) : State :=
  hmPacket (setHmv s c (fun x => { x with stage := stage })) c dir 0 len (hmHeadAddr s c) [] []

/-- The first granule of the descriptor goes back with OWN 0 and every other bit as it was read (R411, R415); software
writes none of them while OWN is 1 (R409). -/
def hmWriteBack (s : State) (c stage : Nat) : State :=
  let d := fit (hmv s c).desc 32
  let ctrl := bytesAt d 0 4
  hmPacket (setHmv s c (fun x => { x with stage := stage })) c 3 0 0 (hmHeadAddr s c) [] (leBytes 4 (ctrl % 2 ^ 31) ++ d.drop 4)

/-- HUB_DESCRIPTOR_FETCH (R409): the CTRL word is asked for first; `hmCtrlRead` goes on with what comes. -/
def execHubDescriptorFetch (c : Nat) (s : State) : Host.Outcome State Fault Refusal :=
  onUnit hmoverCount c s fun s =>
    let x := hmv s c
    if hmOpen s c && !x.running && !x.halted && !x.waiting && x.stage == 0 then
      if x.ringSize = 0 ∨ 4096 < x.ringSize then hmError s c (hmHeadAddr s c) 2 3
      else if !storeSpan s (hmHeadAddr s c) 64 true then hmError s c (hmHeadAddr s c) 2 1
      else hmRead s c 1 2 0
    else s

/-- The CTRL word has come (R409): OWN 1 reads the rest, OWN 0 waits for the doorbell. A channel that has been disabled or
fenced meanwhile reads no more. -/
def hmCtrlRead (s : State) (c : Nat) (d : List Byte) : State :=
  let s := setHmv s c (fun x => { x with desc := d, stage := 0 })
  if !(hmv s c).enabled || (hmv s c).fenced then s
  else if bitOf (bytesAt d 0 4) 31 then hmRead s c 2 2 1
  else setHmv s c (fun x => { x with waiting := true })

/-- The rest has come (R409): a valid descriptor runs. -/
def hmDescRead (s : State) (c : Nat) (d : List Byte) : State :=
  let b := (hmv s c).desc.take 4 ++ d.drop 4
  if hubDescOk b then setHmv s c (fun x => { x with running := true, desc := b, walk := Walk.init, stage := 0 })
  else hmError s c (hmHeadAddr s c) 2 3

/-! ## Hub channels: accesses -/

/-- Outstanding requests of a MEM side (R410). -/
def hmMemOut (x : HMover) : Nat := (x.reqs.filter (fun r => !r.host)).length

/-- Bytes that outstanding source accesses will bring. -/
def hmComing (x : HMover) : Nat := ((x.reqs.filter (fun r => r.dir == 0)).map reqBytes).sum

/-- One request of a channel: an unscheduled packet from hub port 11, or a transaction to the host with a
TAG of its own; with no link there is a bus error of CAUSE 5 (R413). -/
def hmIssue (s : State) (c : Nat) (host : Bool) (dir addr aop : Nat) (parts : List (Nat × Nat)) (data : List Byte) (w : HMover → HMover) :
    State :=
  if host then
    if !zlUp s then hmError s c addr dir 5
    else match freeTag s with
      | none => s
      | some tag =>
        let ty := if dir = 0 then tHRD else tHWR
        let deadline := s.now + hmTimeout s c
        let t : Transaction := ⟨ty, tag, 0, 0, false, 0, addr, 0, 0, 0, if dir = 0 then [] else [unitBits data],
          if dir = 0 then [] else [e2e data addr]⟩
        let s := zlSend (setZl s (fun z => { z with nextTag := (tag + 1) % 256, devReqs := z.devReqs ++ [(tag, ty, c)] })) t
        setHmv s c (fun x => { (w x) with reqs := x.reqs ++ [⟨tag, true, dir, addr, deadline, parts, none⟩] })
  else hmPacket (setHmv s c w) c dir aop 0 addr parts data

/-- The next source access of a channel (R398, R401). -/
def hmSource (s : State) (c : Nat) : State :=
  let x := hmv s c
  let d := hmDesc s c
  let room := (64 - x.walk.hold.length - hmComing x) / d.sw
  if x.running && x.stage == 0 && decide (x.walk.src < d.srcTotal) && decide (0 < room) && (d.skind == 2 || decide (hmMemOut x < 16)) then
    let a := d.addrOf false 0 x.walk.src
    let k := d.share false 0 x.walk.src room
    let parts := if d.skind = 2 then List.replicate k (0, 32) else mergeParts (d.partsOf false 0 x.walk.src k)
    hmIssue s c (d.skind == 2) 0 (if d.skind = 2 then a else a % 2 ^ 48) 0 parts [] (fun x => { x with walk := { x.walk with src := x.walk.src + k } })
  else s

/-- The next destination access of a channel: its elements are 32 bytes (R399). Plain ones of an inner loop that lie in one
granule share an access, in which the last governs (R400, R401); adder operations do not. -/
def hmDest (s : State) (c : Nat) : State :=
  let x := hmv s c
  let d := hmDesc s c
  if x.running && x.stage == 0 && decide (x.walk.dst < d.dstTotal) && decide (32 ≤ x.walk.hold.length) && (d.dkind == 2 || decide (hmMemOut x < 16)) then
    let a := d.addrOf true 0 x.walk.dst
    let k := if d.aop = 0 then d.share true 0 x.walk.dst (x.walk.hold.length / 32) else 1
    hmIssue s c (d.dkind == 2) 1 (if d.dkind = 2 then a else a % 2 ^ 48) d.aop (List.replicate k (0, 32)) ((x.walk.hold.drop (32 * (k - 1))).take 32)
      (fun x => { x with walk := { x.walk with dst := x.walk.dst + k, hold := x.walk.hold.drop (32 * k) } })
  else s

/-- A channel in one cc: two accesses of each side (R401). -/
def hmCc (s : State) (c : Nat) : State :=
  if (hmv s c).running && hmOpen s c then hmSource (hmSource (hmDest (hmDest s c) c) c) c else s

/-- Source bytes that have come enter the holding register in the order asked for (R398). -/
def hmSettle : Nat → HMover → HMover
  | 0, x => x
  | n + 1, x =>
    match x.reqs.find? (fun r => r.dir == 0) with
    | some r => match r.data with
      | some d =>
        hmSettle n { x with reqs := x.reqs.filter (fun q => !(q.key == r.key && q.host == r.host)), walk := { x.walk with hold := x.walk.hold ++ d } }
      | none => x
    | none => x

/-- The head advances modulo RING_SIZE. -/
def hmAdvance (s : State) (c : Nat) : State :=
  setHmv s c (fun x =>
    { x with head := (x.head + 1) % max 1 x.ringSize, running := false, halted := false, waiting := false, desc := [],
             walk := Walk.init, reqs := [], stage := 0 })

/-- OWN has been written back: of a descriptor that has run, the notice of its completion goes out (R411), unless the
channel has been fenced (R578); of one that is skipped, none (R415). The head advances. -/
def hmOwnBack (s : State) (c : Nat) : State :=
  let d := hmDesc s c
  let skipped := (hmv s c).stage == 5
  hmAdvance (if !skipped && !(hmv s c).fenced && bitOf d.ctrl 29 then sendNotice s (hmBlk c) d.target (fieldOf d.ctrl 28 24) 1 else s) c

/-- A channel without one of its requests. -/
def dropReq (x : HMover) (key : Nat) (host : Bool) : HMover := { x with reqs := x.reqs.filter (fun q => !(q.key == key && q.host == host)) }

/-- What a reply without error brings: source bytes, bytes moved, a descriptor or its CTRL word, the end of a write-back. -/
def hmGot (s : State) (c : Nat) (r : HReq) (data : List Byte) : State :=
  if r.dir = 0 then
    setHmv s c fun x =>
      hmSettle x.reqs.length { x with reqs := x.reqs.map (fun q => if q.key = r.key ∧ q.host = r.host then { q with data := some (partBytes q.parts data) } else q) }
  else
    let s := setHmv s c (fun x => dropReq x r.key r.host)
    if r.dir = 1 then setHmv s c (fun x => { x with moved := satAdd (2 ^ 32 - 1) x.moved (reqBytes r) })
    else if r.dir = 2 then (if (hmv s c).stage = 1 then hmCtrlRead s c data else hmDescRead s c data)
    else if (hmv s c).stage = 4 then
      if (hmv s c).fenced then setHmv s c (fun x => { x with stage := 0 }) else hmWriteBack (setHmv s c (fun x => { x with desc := fit data 32 })) c 5
    else hmOwnBack s c

/-- A reply to a request of a channel that arrived in cc `t` (R410, R413): a RESP status or a completion's. One that came
after the deadline has lost to the timer (R102, R412); one to a write of before a bus error counts its bytes (R414); any
other that no request awaits is discarded. -/
def hmReply (s : State) (c key : Nat) (host : Bool) (cause : Nat) (data : List Byte) (t : Nat) : State :=
  match (hmv s c).reqs.find? (fun r => r.key == key && r.host == host) with
  | none =>
    match (hmv s c).orphans.find? (fun o => o.1 == key && o.2.1 == host) with
    | some o => setHmv s c (fun x =>
        { x with orphans := x.orphans.erase o, moved := if cause = 0 then satAdd (2 ^ 32 - 1) x.moved o.2.2 else x.moved })
    | none => s
  | some r =>
    if r.deadline + 3 ≤ t then hmError s c r.addr r.dir 4
    else if cause ≠ 0 then hmError s c r.addr r.dir cause
    else hmGot s c r data

/-- The link fails: outstanding HRD and HWR end in bus errors of CAUSE 5, and no completion will come (R471). -/
def hmLinkFail (s : State) : State :=
  (List.range hmoverCount).foldl (fun s c =>
    let s := match (hmv s c).reqs.find? (fun r => r.host) with
      | some r => hmError s c r.addr r.dir 5
      | none => s
    if (hmv s c).orphans.any (fun o => o.2.1) then setHmv s c (fun x => { x with orphans := x.orphans.filter (fun o => !o.2.1) }) else s) s

/-- A completion that arrived in time, and so wins, still waits for its slot (R102, R474). -/
def replyWaits (s : State) (r : HReq) : Bool :=
  r.host && (s.zl.held ++ s.zl.admitted).any (fun t =>
    t.ttype == tCPL && t.tag == r.key && decide (Assoc.getD 0 (256 * tCPL + t.tag) s.zl.arrivals ≤ r.deadline + 2))

/-- HMOVER_TIMEOUT (R412, R102). -/
def execHmoverTimeout (c : Nat) (s : State) : Host.Outcome State Fault Refusal :=
  onUnit hmoverCount c s fun s =>
    match (hmv s c).reqs.find? (fun r => r.data.isNone && decide (r.deadline + 3 ≤ s.now) && !replyWaits s r) with
    | some r => if hubUp s then hmError s c r.addr r.dir 4 else s
    | none => s

/-! ## Hub channels: completion and commands -/

/-- HUB_DESCRIPTOR_COMPLETE (R411): every write acknowledged, OWN 0 is written back; the notice and the advance follow its
acknowledgement, in `hmOwnBack`. -/
def execHubDescriptorComplete (c : Nat) (s : State) : Host.Outcome State Fault Refusal :=
  onUnit hmoverCount c s fun s =>
    let x := hmv s c
    let d := hmDesc s c
    if hmOpen s c && x.running && x.stage == 0 && decide (x.walk.src = d.srcTotal) && decide (x.walk.dst = d.dstTotal) && x.reqs.isEmpty then
      hmWriteBack s c 3
    else s

/-- DOORBELL (R409). -/
def doorbellAct (s : State) (c : Nat) : State := setHmv s c (fun x => { x with waiting := false })
def execDoorbell (c : Nat) (s : State) : Host.Outcome State Fault Refusal :=
  onUnit hmoverCount c s fun s => if hubUp s then doorbellAct s c else s

/-- A halted channel takes a command: it is not fenced (R578), and no SKIP is under way. -/
def hmTakes (s : State) (c : Nat) : Bool := (hmv s c).halted && !(hmv s c).fenced && (hmv s c).stage == 0

/-- RETRY (R415): the channel reads and runs the descriptor again from its first element. -/
def retryAct (s : State) (c : Nat) : State :=
  if hmTakes s c then
    setHmv s c (fun x => { x with halted := false, running := false, waiting := false, desc := [], walk := Walk.init, reqs := [] })
  else s
def execRetry (c : Nat) (s : State) : Host.Outcome State Fault Refusal :=
  onUnit hmoverCount c s fun s => if hubUp s then retryAct s c else s

/-- SKIP (R415): OWN 0 goes back, to a descriptor whose CTRL word no fetch has brought after a read of it. -/
def skipAct (s : State) (c : Nat) : State :=
  if hmTakes s c then
    if !storeSpan s (hmHeadAddr s c) 4 true then hmError s c (hmHeadAddr s c) 3 1
    else if (hmv s c).desc = [] then hmRead s c 4 3 0 else hmWriteBack s c 5
  else s
def execSkip (c : Nat) (s : State) : Host.Outcome State Fault Refusal :=
  onUnit hmoverCount c s fun s => if hubUp s then skipAct s c else s

end Sys2Proof.Machine
end

