-- ==== Sys2Proof/Machine/Garlet.lean ====
section
/-! DEFINITION. Garlet ports (14): records received (R434, R437, R441), the port schedule (R438-R443), control
blocks (R445-R448), calibration windows (R450), training (R451-R455) and lane changes (R456, R457). -/

namespace Sys2Proof.Machine

/-- Garlet ports of the package. -/
def gportCount : Nat := 20
/-- A port's block entry, and the stack router it serves. -/
def gpBlk (p : Nat) : Nat := blk Ty.GPORT p
def gpRouter (p : Nat) : Nat := p + 12

/-! ## Widths (R452) -/

/-- Width of a connection mask: 0 DOWN, 1 HALF, 2 FULL. -/
def maskWidth (m : Nat) : Nat :=
  let g := (maskLanes 9 m).length
  if 8 ≤ g then 2 else if 5 ≤ g then 1 else 0
/-- Lanes in use of a connection mask. -/
def maskInUse (m : Nat) : Nat :=
  let l := maskLanes 9 m
  let k := if maskWidth m = 2 then 8 else if maskWidth m = 1 then 4 else 0
  ((l.take k).map (fun i => 2 ^ i)).sum
/-- cc of a code group (R432). -/
def groupLen (w : Nat) : Nat := if w = 1 then 128 else 64
/-- Flits of a record. -/
def recordFlits (w : Nat) : Nat := if w = 2 then 5 else if w = 1 then 2 else 0

/-- A control block leaves in the record of this cc. -/
def sendCtrlNow (s : State) (p : Nat) (b : BitVec 128) : State :=
  setGp (addOut s (.garletCtrl p s.now b)) p (fun g => { g with ctrlAt := s.now + 1, ctrlNow := b })

/-- A link-control block (R448), which takes the next free cc after the halt blocks (R446). -/
def linkBlock (s : State) (p opcode mask width : Nat) : BitVec 128 :=
  let tag := leNat (shake256 (fit s.shape.serial 16) 4)
  let x := 0x82 * 2 ^ 120 + opcode * 2 ^ 112 + mask % 512 * 2 ^ 103 + width % 4 * 2 ^ 101 + p % 32 * 2 ^ 96 + tag * 2 ^ 64
  BitVec.ofNat 128 (x + crc8 x 127 8)
def queueCtrl (s : State) (p : Nat) (b : BitVec 128) : State := setGp s p (fun g => { g with ctrl := g.ctrl ++ [b] })

/-- A received block's row has come: it no longer waits. -/
def takeCtrl (s : State) (p : Nat) (b : BitVec 128) : State := setGp s p (fun g => { g with ctrlIn := g.ctrlIn.erase b })

/-- A control block that a port acts on: its CHECK is good, its type and OPCODE are these (R445, R448). -/
def linkOp (b : BitVec 128) (opcode : Nat) : Bool :=
  let x := b.toNat
  fieldOf x 127 120 == 0x82 && fieldOf x 119 112 == opcode && crc8 x 127 8 == fieldOf x 7 0

/-- The port is there, good and enabled in a package whose hub is up. -/
def gpLive (s : State) (p : Nat) : Bool := hubUp s && s.power != .tripped && good s (gpBlk p) && enabled s (gpBlk p)

/-! ## Receive (R434, R437, R441) -/

/-- The frame program's section of a port is in force. -/
def gpBody (s : State) (p : Nat) : List Byte := (sectionOf s 8 p).getD []
def gpProgram (s : State) (p : Nat) : Bool := workLive s (gpBlk p) && s.ft.onProg && (sectionOf s 8 p).isSome

/-- A flit counted as discarded (R441). -/
def gpDiscard (s : State) (p : Nat) : State := countField s (gpBlk p) Off.GPORT_DROPS 15 0 1

/-- A received flit: its payload corrected and counted, its frame found, its place in the buffer (R437, R441). -/
def gpFlit (s : State) (p : Nat) (f : Flit) : State :=
  let (s, f) := match f.cls with
    | .dataBit k => (countField s (gpBlk p) Off.GPORT_CORR 31 0 1, { f with pay := f.pay ^^^ BitVec.ofNat 256 (2 ^ k) })
    | .checkBit _ => (countField s (gpBlk p) Off.GPORT_CORR 31 0 1, { f with chk := BitVec.ofNat 32 (latticeCheck f.pay.toNat) })
    | _ => (s, f)
  let boundary := slotNow s == 0 && decide (ccNow s < 21)
  let late := !boundary && decide (slotNow s ≤ 1)
  let frame := if boundary then (s.ft.frame + 2 ^ 48 - 1) % 2 ^ 48 else s.ft.frame
  if !gpProgram s p then gpDiscard s p
  else if late then errFault s (gpBlk p) Err.GPORT_LATE 0x02
  else if 4096 ≤ (gp s p).rx.length then errFault s (gpBlk p) Err.GPORT_RX_OVERFLOW 0x20
  else setGp s p (fun g => { g with rx := g.rx ++ [⟨frame, f, s.now⟩] })

/-- A control block of a record (R445): it waits for its row, or is discarded; so is one of a reserved OPCODE (DESIGN
CHOICE, log entry 66). -/
def gpControl (s : State) (p : Nat) (b : BitVec 128) : State :=
  let x := b.toNat
  let ty := fieldOf x 127 120
  let ok := crc8 x 127 8 == fieldOf x 7 0
  if ty = 0x81 ∨ (ok ∧ (ty = 1 ∨ ty = 2 ∨ ty = 3 ∨ (ty = 0x82 ∧ 1 ≤ fieldOf x 119 112 ∧ fieldOf x 119 112 ≤ 4))) then setGp s p (fun g => { g with ctrlIn := g.ctrlIn ++ [b] })
  else setErr (countField s (gpBlk p) Off.GPORT_DROPS 31 16 1) (gpBlk p) Err.GPORT_CTRL_DROP

/-- Flit place k of a record (R433). -/
def recordFlit (x k : Nat) : Flit :=
  let y := x >>> (240 + 352 * k)
  ⟨BitVec.ofNat 256 y, BitVec.ofNat 32 (y >>> 256), BitVec.ofNat 64 (y >>> 288)⟩

/-- LANE_k of a port. -/
def laneReg (k : Nat) : Nat := Off.GPORT_LANE_0 + 4 * k

/-- Symbols of a codeword that were corrected on the k-th of n lanes in use: they go round-robin over the lanes (R432). -/
def symbolsOn (mask n k : Nat) : Nat := ((List.range 544).filter (fun i => mask.testBit i && i % n == k)).length

/-- Symbols corrected on the lanes in use in the codeword that ends in a record (R463). -/
def laneErrors (s : State) (p mask : Nat) : State :=
  let lanes := maskLanes 9 (gp s p).rxLanes
  ((List.range lanes.length).filter (fun k => symbolsOn mask lanes.length k != 0)).foldl
    (fun s k => countField s (gpBlk p) (laneReg (nth lanes k)) 22 0 (symbolsOn mask lanes.length k)) s

/-- GARLET_RECORD (R434, R437). No more than one codeword ends in a record (R432): bit i of `corrected` says that its
symbol i was corrected, bit 544 that it could not be corrected; `uncorr` says that the record has a bit in one that could
not be. -/
def execGarletRecord (p : Nat) (rec : BitVec 2000) (uncorr : Bool) (corrected : Nat) (s : State) :
    Host.Outcome State Fault Refusal :=
  onUnit gportCount p s fun s =>
    let g := gp s p
    if gpLive s p && decide (5 ≤ g.tstate) then
      let b := gpBlk p
      let mask := corrected % 2 ^ 544
      let s := if mask = 0 then s else laneErrors (countField s b Off.GPORT_FEC_CORR 31 0 1) p mask
      let s := if corrected.testBit 544 then countField s b Off.GPORT_FEC_UNCORR 31 0 1 else s
      let x := rec.toNat
      if uncorr then errFault s b Err.GPORT_FEC_UNCORR 0x12
      else if crc8 x 103 0 ≠ fieldOf x 111 104 then errFault s b Err.GPORT_HDR_ERR 0x12
      else
        let s := if g.tstate = 7 then
            ((List.range (recordFlits g.rxWidth)).filter (fun k => x.testBit k)).foldl (fun s k => gpFlit s p (recordFlit x k)) s
          else s
        if x.testBit 5 then gpControl s p (BitVec.ofNat 128 (x >>> 112)) else s
    else s

/-- The skew window closes (R441). -/
def skewClose (s : State) : State :=
  let s := setFt s (fun f => { f with doneStage := 21 })
  let n := (s.ft.frame + 2 ^ 48 - 1) % 2 ^ 48
  s.gports.foldl (fun s (p, g) =>
    if g.rx.any (fun r => r.frame == n) then
      errFault (setGp s p (fun g => { g with rx := g.rx.filter (fun r => r.frame != n) })) (gpBlk p) Err.GPORT_STALE 0x02
    else s) s

/-- SKEW_WINDOW_CLOSE (R441): once in each boundary slot, at cc 21. -/
def execSkewWindowClose (s : State) : Host.Outcome State Fault Refusal :=
  .next (if awake s && inBoundary s 21 && decide (s.ft.doneStage < 21) then skewClose s else s)

/-! ## The port schedule (R438, R439) -/

/-- An entry: SLOT, CC, RATE, KEY, COUNT. -/
structure PortEntry where
  slot : Nat
  cc : Nat
  rate : Nat
  key : Nat
  count : Nat
deriving DecidableEq, Repr

def gpEntryCount (b : List Byte) : Nat := bytesAt b 4 2
def gpEntry (b : List Byte) (i : Nat) : PortEntry :=
  let o := 16 + 8 * i
  ⟨bytesAt b o 2, bytesAt b (o + 2) 1, bytesAt b (o + 3) 1, bytesAt b (o + 4) 2, bytesAt b (o + 6) 2⟩

/-- Released flits enter by cc and entry index, and those of one entry in their arrival order (R439). -/
def flightAppend (x : Flight) : List Flight → List Flight
  | [] => [x]
  | y :: r =>
    if y.due < x.due ∨ (y.due = x.due ∧ y.flow ≤ x.flow) then y :: flightAppend x r else x :: y :: r

/-- One place of an entry, due in cc `t`: the oldest flit of its KEY that was there in cc `t` goes to router port 18;
with none the place stays empty (R99, R439). -/
def releaseOne (s : State) (p i key t : Nat) : State :=
  let n := Assoc.getD 0 i (gp s p).released
  let s := setGp s p (fun g => { g with released := Assoc.put i (some (n + 1)) g.released })
  let j := (gp s p).rx.findIdx (fun r => r.frame == s.ft.frame && r.flit.key == key && decide (r.at_ ≤ t))
  match (gp s p).rx[j]? with
  | some r =>
    let s := setGp s p (fun g => { g with rx := g.rx.eraseIdx j })
    { s with flights := flightAppend ⟨gpRouter p, 18, t, i, r.flit⟩ s.flights }
  | none => errFault s (gpBlk p) Err.GPORT_LATE 0x02

/-- Releases of an entry that are due by now and not yet made. -/
def releaseEntry (s : State) (p i : Nat) (e : PortEntry) : State :=
  let at_ := posCc s e.slot e.cc
  if s.now < at_ then s
  else
    let due := min e.count (e.rate * (s.now - at_ + 1))
    let n := Assoc.getD 0 i (gp s p).released
    (List.range (due - n)).foldl (fun s k => releaseOne s p i e.key (at_ + (n + k) / max 1 e.rate)) s

/-- PORT_RELEASE (R439): every place that is due, in ascending entry index. -/
def execPortRelease (p : Nat) (s : State) : Host.Outcome State Fault Refusal :=
  onUnit gportCount p s fun s =>
    if workOpen s (gpBlk p) then
      let b := gpBody s p
      (List.range (gpEntryCount b)).foldl (fun s i => releaseEntry s p i (gpEntry b i)) s
    else s

/-- PORT_DONE (R443). -/
def execPortDone (p : Nat) (s : State) : Host.Outcome State Fault Refusal :=
  onUnit gportCount p s fun s =>
    let b := gpBody s p
    let g := gp s p
    if doneOpen s (gpBlk p) && (sectionOf s 8 p).isSome && g.tx.isEmpty
        && (List.range (gpEntryCount b)).all (fun i => decide ((gpEntry b i).count ≤ Assoc.getD 0 i g.released)) then
      setGp s p (fun g => { g with done := true })
    else s

/-! ## Transmit (R435, R446) -/

/-- The port's CAL_GARLET window is open (R67, R450). -/
def calWindowAt (s : State) (p t : Nat) : Bool := awake s && slotClass s (slotAt s t) == 3 && p % 16 == s.ft.frame % 16
def calWindow (s : State) (p : Nat) : Bool := calWindowAt s p s.now

/-- Ports of the TICK_CHILDREN mask that are not DOWN. -/
def childPorts (s : State) : List Nat := match s.prog with
  | some p => (List.range gportCount).filter (fun k => p.tickChildren.testBit k && (gp s k).width != 0)
  | none => []

/-- The control place of this cc is taken, or a tick marker is due in it (R446). -/
def ctrlHeld (s : State) (p : Nat) : Bool :=
  (gp s p).ctrlAt == s.now + 1 || (s.ft.out.any (fun m => m.due == s.now) && (childPorts s).contains p)

/-- The first cc of the window (R446). -/
def calOpens (s : State) (p : Nat) : Bool := calWindow s p && !calWindowAt s p (s.now - 1)

/-- A delay probe (R75, R77): it leaves now, or in the next free cc when this one is held (R446, R450). -/
def probeBlock : BitVec 128 :=
  let x := 0x02 * 2 ^ 120
  BitVec.ofNat 128 (x + crc8 x 127 8)
def sendProbe (s : State) (p : Nat) : State :=
  if ctrlHeld s p then setGp s p (fun g => { g with probeWait := true })
  else setGp (sendCtrlNow s p probeBlock) p (fun g => { g with probeAt := some s.now, probeWait := false })

/-- The cycle record of a cc (R433): flit places from place 0 upward, and the control place. -/
def cycleRecord (flits : List Flit) (ctrl : Option (BitVec 128)) : BitVec 2000 :=
  let place (f : Flit) : Nat := f.pay.toNat + 2 ^ 256 * f.chk.toNat + 2 ^ 288 * f.tag.toNat
  let x := (flits.zipIdx.map (fun (f, k) => place f * 2 ^ (240 + 352 * k))).sum + (ctrl.elim 0 BitVec.toNat) * 2 ^ 112
    + b2n ctrl.isSome * 2 ^ 5 + (2 ^ flits.length - 1)
  BitVec.ofNat 2000 (x + crc8 (x % 2 ^ 104) 103 0 * 2 ^ 104)

/-- First code-group boundary at or after cc 40 of the boundary slot (R432, R457). -/
def swapCc (s : State) (g : GPort) : Nat :=
  let l := groupLen g.width
  g.groupAt + l * ceilDiv (s.ft.tickAt + 40 - g.groupAt) l

/-- The end has decided its lane change: the boundary slot is the first that began at least two slots after the mask
changed (R457). -/
def swapDecided (s : State) (g : GPort) : Bool := match g.swapTo with
  | some (_, _, t) => decide (t + 128 ≤ s.ft.tickAt)
  | none => false

/-- The SWAP block, a link-control block, goes in a record of the last group in the old lane set (R457). -/
def swapDue (s : State) (g : GPort) : Bool :=
  swapDecided s g && !g.swapSent && decide (swapCc s g ≤ s.now + groupLen g.width) && decide (s.now < swapCc s g)

/-- The control place at the end of a cc, when nothing holds it (R446): the probe of a window that opens or one that waits,
halt blocks, then link-control blocks, oldest first. -/
def gpControlCc (s : State) (p : Nat) : State :=
  let g := gp s p
  let s := if swapDue s g then queueCtrl (setGp s p (fun g => { g with swapSent := true })) p (linkBlock s p 3 0 0) else s
  let g := gp s p
  if g.probeWait || (g.tstate == 7 && calOpens s p) then sendProbe s p
  else if ctrlHeld s p then s
  else match (g.ctrl.filter (fun b => fieldOf b.toNat 127 120 == 0x81) ++ g.ctrl.filter (fun b => fieldOf b.toNat 127 120 != 0x81)) with
    | b :: _ => setGp (sendCtrlNow s p b) p (fun g => { g with ctrl := g.ctrl.erase b })
    | [] => s

/-- The window of a port ends with its probe unanswered (R450): the delay stays as it was. -/
def probeMissed (s : State) (p : Nat) : State :=
  if (gp s p).tstate == 7 && (gp s p).probeAt.isSome && calWindow s p && !calWindowAt s p (s.now + 1) then
    setErr (setGp s p (fun g => { g with probeAt := none })) (gpBlk p) Err.GPORT_PROBE_MISS
  else s

/-- The receive side takes its new lane set and width with the next cc, when that begins the group (R457). -/
def rxSettle (s : State) (p : Nat) : State :=
  match (gp s p).rxTo with
  | some (lanes, w, t) =>
    if t ≤ s.now + 1 then
      setGp s p (fun g => { g with rxLanes := lanes, rxAt := if w = g.rxWidth then g.rxAt else t, rxWidth := w, rxTo := none })
    else s
  | none => s

/-- The record of one cc: the oldest queued flits, up to the width's limit, and the control block (R433, R435). -/
def gpCc (s : State) (p : Nat) : State :=
  let s := gpControlCc s p
  let g := gp s p
  let n := if g.tstate = 7 ∧ !calWindow s p then recordFlits g.width else 0
  let out := (g.tx.filter (fun x => decide (x.due < s.now))).take n
  let ctrl := if g.ctrlAt = s.now + 1 then some g.ctrlNow else none
  let s := if out = [] ∧ ctrl.isNone then s else
    setGp (addOut s (.garletRecord p s.now (cycleRecord (out.map Flight.flit) ctrl))) p (fun g => { g with tx := g.tx.drop out.length })
  rxSettle (probeMissed s p) p

/-! ## Halt blocks (R447) -/

/-- HALT_BLOCK: a peer's halt that reaches the package before it has halted; a bad CHECK does not stop it
(R445). The port sends it to the root as a frame fault of its own (R561, R570). -/
def execHaltBlock (p : Nat) (b : BitVec 128) (s : State) : Host.Outcome State Fault Refusal :=
  onUnit gportCount p s fun s =>
    let x := b.toNat
    if gpLive s p && decide (5 ≤ (gp s p).tstate) && fieldOf x 127 120 == 0x81 then
      let s := takeCtrl s p b
      if s.ft.halted then s
      else
        let s := if running s then markFaulted s else s
        let (n, u) := chordUnit (gpBlk p)
        chordSend s (.peerHalt p (fieldOf x 47 40) (fieldOf x 111 96) (min 255 (fieldOf x 119 112 + 1)) (fieldOf x 95 48)) n u 32 0 false
    else s

/-! ## Training -/

/-- A port goes DOWN, with its state afterwards (R451, R454, R455). -/
def gpDown (s : State) (p tstate : Nat) : State :=
  let was := (gp s p).width
  let s := setGp s p (fun g => { (gportDown g) with tstate := tstate, trainAt := s.now })
  gnomonBump (setErrIf (was != 0) s (gpBlk p) Err.GPORT_DOWN)

/-- Training begins (R451). -/
def gpTrain (s : State) (p : Nat) : State := countField (gpDown s p 1) (gpBlk p) Off.GPORT_TRAIN_COUNT 31 16 1

/-- Both masks are known: the ends go on to WIDTH. -/
def gpToWidth (s : State) (p : Nat) : State :=
  let w := maskWidth (gpMask (gp s p))
  queueCtrl (setGp s p (fun g => { g with tstate := 4, trainAt := s.now })) p (linkBlock s p 2 0 w)

/-- The own mask is formed and sent (R451). -/
def gpToMask (s : State) (p : Nat) : State :=
  let s := queueCtrl (setGp s p (fun g => { g with tstate := 3, trainAt := s.now })) p (linkBlock s p 1 (gp s p).ownMask 0)
  if (gp s p).peerPort ≠ 0x1F then gpToWidth s p else s

/-- One more round of MASK (R454): after four the port is DOWN until a bring-up or RETRAIN. -/
def gpRound (s : State) (p : Nat) : State :=
  let n := (gp s p).rounds + 1
  if 4 ≤ n then gpDown s p 0
  else gpToMask (setGp s p (fun g => { g with rounds := n, peerMask := 0, peerPort := 0x1F, peerTag := 0, width := 0, lanes := 0 })) p

/-- The connection mask changes in service (R456, R457): the spare takes the lane, or the width falls at the
lane swap. -/
def gpLaneChange (s : State) (p : Nat) : State :=
  let g := gp s p
  let m := gpMask g
  if maskInUse m = g.lanes ∧ maskWidth m = g.width then s
  else
    let w := maskWidth m
    let s := setGp s p (fun g => { g with swapTo := some (maskInUse m, w, s.now), swapSent := false })
    if w = g.width then setErr s (gpBlk p) Err.GPORT_SPARE_USED
    else setErr s (gpBlk p) (if w = 1 then Err.GPORT_NARROWED else Err.GPORT_DOWN)

/-- Limit of a training step in cc (R451); SEARCH has none. -/
def gpLimit (tstate : Nat) : Option Nat :=
  match tstate with
  | 2 => some 24000000
  | 3 => some 800000
  | 4 => some 800000
  | 5 => some 3840000000
  | 6 => some 800000
  | _ => none
/-- The step of a port has passed its limit by more than the two cc of R102: what would have ended it loses, and the
port searches again (R100, R451). -/
def gpOverdue (s : State) (p : Nat) : Bool := match gpLimit (gp s p).tstate with
  | some t => decide ((gp s p).trainAt + t + 3 ≤ s.now)
  | none => false
def gpTimely (s : State) (p : Nat) : State := if gpOverdue s p then gpDown s p 1 else s

/-- MASK (R448, R451, R456). -/
def execMask (p : Nat) (b : BitVec 128) (s : State) : Host.Outcome State Fault Refusal :=
  onUnit gportCount p s fun s => portWatch s <|
    let s := gpTimely s p
    let x := b.toNat
    let t := (gp s p).tstate
    if gpLive s p && linkOp b 1 then
      let s := setGp (takeCtrl s p b) p (fun g =>
        { g with peerMask := fieldOf x 111 103, peerPort := fieldOf x 100 96, peerTag := fieldOf x 95 64 })
      if t = 3 then gpToWidth s p else if t = 7 then gpLaneChange s p else s
    else s

/-- WIDTH (R448, R454). -/
def execWidth (p : Nat) (b : BitVec 128) (s : State) : Host.Outcome State Fault Refusal :=
  onUnit gportCount p s fun s => portWatch s <|
    let s := gpTimely s p
    let m := gpMask (gp s p)
    if gpLive s p && linkOp b 2 && (gp s p).tstate == 4 then
      let s := takeCtrl s p b
      if fieldOf b.toNat 102 101 ≠ maskWidth m then
        let s := countField s (gpBlk p) Off.GPORT_TRAIN_COUNT 15 0 1
        gpRound (setErr s (gpBlk p) Err.GPORT_WIDTH_DISAGREE) p
      else if maskWidth m = 0 then setErr (gpDown s p 0) (gpBlk p) Err.GPORT_DOWN
      else
        let w := maskWidth m
        let use := maskInUse m
        setGp s p fun g =>
          { g with tstate := 5, trainAt := s.now, width := w, lanes := use, rxLanes := use, rxWidth := w, rxTo := none, rxAt := s.now }
    else s

/-- SWAP (R457): the receive side uses the new lane set from the first code group after the group that carried the block.
The receive groups follow one another from the cc in which the coded stream began (DESIGN CHOICE, log entry 76). -/
def execSwap (p : Nat) (b : BitVec 128) (s : State) : Host.Outcome State Fault Refusal :=
  onUnit gportCount p s fun s =>
    if gpLive s p && linkOp b 3 && (gp s p).tstate == 7 then
      setGp (takeCtrl s p b) p fun g =>
        let l := groupLen g.rxWidth
        { g with rxTo := some (maskInUse (gpMask g), maskWidth (gpMask g), g.rxAt + l * ((s.now - g.rxAt) / l + 1)) }
    else s

/-- RETRAIN (R451). -/
def execRetrain (p : Nat) (b : BitVec 128) (s : State) : Host.Outcome State Fault Refusal :=
  onUnit gportCount p s fun s =>
    if gpLive s p && linkOp b 4 && decide (3 ≤ (gp s p).tstate) then gpTrain (takeCtrl s p b) p else s

/-- GPORT_RETRAIN_CMD (R451): training begins, and a peer that can take control blocks is sent RETRAIN in the next free
control place (R446). -/
def gpRetrainAct (s : State) (p : Nat) : State :=
  if gpLive s p then
    let linked := decide (3 ≤ (gp s p).tstate)
    let s := gpTrain s p
    if linked then queueCtrl s p (linkBlock s p 4 0 0) else s
  else s
def execGportRetrainCmd (p : Nat) (s : State) : Host.Outcome State Fault Refusal :=
  onUnit gportCount p s fun s => gpRetrainAct s p

/-- GARLET_TRAINING (R451): a step ends. A step that passes its limit goes back to SEARCH, three cc after its deadline
(R100, R102). -/
def execGarletTraining (p : Nat) (e : GarletStep) (s : State) : Host.Outcome State Fault Refusal :=
  onUnit gportCount p s fun s => portWatch s <|
    let late := gpOverdue s p
    let s := if gpLive s p then gpTimely s p else s
    let t := (gp s p).tstate
    if gpLive s p && !late then
      match e with
      | .peerFound => if t = 1 then setGp s p (fun g => { g with tstate := 2, trainAt := s.now, preset := presetNow s p }) else s
      | .equalised m =>
        if t = 2 then gpToMask (setGp s p (fun g => { g with ownMask := maskWithout (m % 512) (knownBad s (gpBlk p) 8) })) p else s
      | .limitPassed => s
      | .probed =>
        if t = 6 then
          gnomonBump (setGp s p (fun g => { g with tstate := 7, rounds := 0, groupAt := s.now, connMask := gpMask g }))
        else s
    else s

/-- QUALIFY_END (R453). -/
def execQualifyEnd (p : Nat) (badLanes : List Nat) (uncorr : Bool) (symErrs : List Nat) (s : State) : Host.Outcome State Fault Refusal :=
  onUnit gportCount p s fun s => portWatch s <|
    let s := if gpLive s p then gpTimely s p else s
    if gpLive s p && (gp s p).tstate == 5 then
      let bad := (List.range 9).filter (fun k => badLanes.contains k)
      let s := (List.range 9).foldl (fun s k =>
        setRegField (setRegField s (gpBlk p) (laneReg k) 23 23 (b2n (bad.contains k))) (gpBlk p) (laneReg k) 22 0 0) s
      let worst := (List.range 9).foldl (fun b k => if nth symErrs b < nth symErrs k then k else b) 0
      let bad := if bad = [] ∧ uncorr then [worst] else bad
      if bad = [] then
        sendProbe (setGp s p (fun g => { g with tstate := 6, trainAt := s.now })) p
      else
        let s := lanesFail s (gpBlk p) 8 bad
        gpRound (setGp s p (fun g => { g with ownMask := ((maskLanes 9 g.ownMask).filter (fun k => !bad.contains k)).foldl (fun x k => x + 2 ^ k) 0 })) p
    else s

/-- PEER_STREAM_STOP (R457): the port reports DOWN and searches. -/
def execPeerStreamStop (p : Nat) (s : State) : Host.Outcome State Fault Refusal :=
  onUnit gportCount p s fun s =>
    if gpLive s p && decide (2 ≤ (gp s p).tstate) then setErr (gpDown s p 1) (gpBlk p) Err.GPORT_DOWN else s

/-! ## Calibration and lane swaps -/

/-- CAL_GARLET (R77, R450, R456): what the receive side measures in cc 0-39 of a slot of the port's window, once in each. -/
def execCalGarlet (p : Nat) (eyes weak : List Nat) (s : State) : Host.Outcome State Fault Refusal :=
  onUnit gportCount p s fun s => portWatch s <|
    let g := gp s p
    if gpLive s p && g.tstate == 7 && calWindow s p && decide (ccNow s < 40) && decide (g.calAt ≤ s.now - ccNow s) then
      let s := setGp s p (fun g => { g with calAt := s.now + 1 })
      let s := (List.range 9).foldl (fun s k => setRegField s (gpBlk p) (laneReg k) 31 24 (nth eyes k)) s
      let lost := (maskLanes 9 g.lanes).filter (fun k => weak.contains k)
      if lost = [] then s
      else
        let m := ((maskLanes 9 g.ownMask).filter (fun k => !lost.contains k)).foldl (fun x k => x + 2 ^ k) 0
        let s := setGp s p (fun g => { g with ownMask := m })
        gpLaneChange (queueCtrl s p (linkBlock s p 1 m 0)) p
    else s

/-- LANE_SWAP (R457): at a code-group boundary from cc 40 of the first boundary slot that begins at least two
slots after the mask changed. A change of width is a frame fault while a program runs (R456); a port that goes DOWN is fenced (R577). -/
def execLaneSwap (p : Nat) (s : State) : Host.Outcome State Fault Refusal :=
  onUnit gportCount p s fun s =>
    let g := gp s p
    match g.swapTo with
    | some (lanes, w, t) =>
      if gpLive s p && g.tstate == 7 && decide (t + 128 ≤ s.ft.tickAt) && decide (s.ft.tickAt + 40 ≤ s.now)
          && (s.now - g.groupAt) % groupLen g.width == 0 then
        if w = 0 then deviceFence (raiseFault (gpDown s p 0) (gpBlk p) 0x25) (gpBlk p) .service
        else
          let s := setGp s p (fun g => { g with lanes := lanes, width := w, swapTo := none, swapSent := false, connMask := gpMask g, groupAt := s.now })
          if w = g.width then s else raiseFault s (gpBlk p) 0x25
      else s
    | none => s

end Sys2Proof.Machine
end

