-- ==== Sys2Proof/Machine/Zeleri.lean ====
section
/-! DEFINITION. The Zeleri link (15): groups received (R467-R471), admission (R474), the transactions (R473-R482)
but for register access, completions from the host, and training (R483). -/

namespace Sys2Proof.Machine

/-! ## Failure and training (R471, R483) -/

/-- RRD and RWR under way as register packets (R346), by type and TAG: their answers, and requests that their own row
brought. -/
def accessesOut (s : State) : List (Nat × Nat) :=
  s.chord.msgs.filterMap fun m => match m.kind with
    | .access .zeleri w tag addr _ =>
      let ty := if w then 4 else 3
      if m.id = m.pkt ∧ !s.zl.admitted.any (fun t => t.ttype == ty && t.tag == tag && t.addr == addr) then some (ty, tag) else none
    | .answer .zeleri w tag _ _ _ => if m.id = m.pkt then some (if w then 4 else 3, tag) else none
    | _ => none

/-- An MRD or MWR at work is an admitted one, which its row completes; any other its row has brought. -/
def jobAdmitted (s : State) (j : ZlJob) : Bool := s.zl.admitted.any (fun t => t.ttype == j.ttype && t.tag == j.tag && t.addr == j.addr)

/-- Both directions stop; what the host had whole is still carried out, and its completions are discarded. Set event lines
stay set (R482). -/
def zlStop (s : State) : State :=
  let own := (s.zl.jobs.filter (fun j => !jobAdmitted s j)).map (fun j => (j.ttype, j.tag))
  let out := accessesOut s
  setZl s fun z =>
    { z with tstate := 1, width := 0, half := 0, lanes := 0, nakSend := false, sawReplay := false, replay := [], waiting := [], resend := [],
             replayTo := none, rxEpisode := 0, rxLeft := 0, txEpisode := 0, partialFlits := [], devReqs := [], probeAt := none, ctrl := [],
             ctrlIn := [], mbxJobs := z.mbxJobs.map (fun j => { j with lost := true }),
             lost := z.lost ++ (z.held ++ z.admitted).map (fun t => (t.ttype, t.tag)) ++ own ++ out }

/-- Link failure (R471). -/
def zlFail (s : State) : State :=
  let s := countField (zlStop (hmLinkFail s)) zlBlk Off.ZLINK_LINK_FAILS 15 0 1
  setErr s zlBlk Err.ZLINK_LINK_FAIL

/-- A protocol error (R473). -/
def zlProtocol (s : State) : State := zlFail (setErr s zlBlk Err.ZLINK_PROTOCOL)

/-- The retry budget of either direction has run out, judged in cc `t` (R102, R471). -/
def budgetOver (s : State) (t : Nat) : Bool :=
  let past (e : Nat) : Bool := decide (e ≠ 0) && decide (e - 1 + 1600 + 3 ≤ t)
  past s.zl.rxEpisode || past s.zl.txEpisode

/-- LINK_FAIL (R471, R102). -/
def execLinkFail (s : State) : Host.Outcome State Fault Refusal :=
  .next (if zlUp s && budgetOver s s.now then zlFail s else s)

/-- The link comes to READY at a width (R483): SEQ and ACK start again, credit too (R476). -/
def zlReadyAt (s : State) (width half lanes : Nat) : State :=
  let s := setZl s fun z =>
    { z with tstate := 4, width := width, half := half, lanes := lanes, expect := 1, nextSeq := 1, freed := 0, peerCredit := 0,
             sentFlits := 0, readyAt := s.now, sawReplay := false, lastSent := (0, 0), heldOld := z.held.length }
  setErrIf (width == 1) s zlBlk Err.ZLINK_NARROW

/-- Limit of a training step in cc (R483). -/
def zlLimit (tstate : Nat) : Option Nat :=
  match tstate with
  | 2 => some 16000000
  | 3 => some 7600000000
  | _ => none
/-- The step has passed its limit by more than the two cc of R102. -/
def zlOverdue (s : State) : Bool := match zlLimit s.zl.tstate with
  | some t => decide (s.zl.trainAt + t + 3 ≤ s.now)
  | none => false

/-- ZELERI_TRAINING (R483). A step that passes its limit goes back to SEARCH, and what would have ended it later
loses (R100, R102). Lanes marked bad before stay out of the mask, and those that fail now join the defect list (R545,
R546). -/
def execZeleriTraining (e : ZeleriStep) (s : State) : Host.Outcome State Fault Refusal :=
  .next (if zlLive s then
    if zlOverdue s then setZl s (fun z => { z with tstate := 1 })
    else
    let t := s.zl.tstate
    match e with
    | .peerFound => if t = 1 then setZl s (fun z => { z with tstate := 2, trainAt := s.now, preset := presetNow s 20 }) else s
    | .equalised => if t = 2 then setZl s (fun z => { z with tstate := 3, trainAt := s.now }) else s
    | .limitPassed => s
    | .qualified own peer =>
      let m := maskWithout (own % 65536) (knownBad s zlBlk 9) &&& (peer % 65536)
      if t ≠ 3 then s
      else
        let s := lanesFail s zlBlk 9 ((List.range 16).filter (fun k => !own.testBit k))
        if m = 0xFFFF then zlReadyAt s 2 0 m
        else if m % 256 = 0xFF then zlReadyAt s 1 0 m
        else if m / 256 = 0xFF then zlReadyAt s 1 1 m
        else setZl s (fun z => { z with tstate := 1, lanes := m })
  else s)

/-- ZLINK_RETRAIN_CMD (R483): what the device had outstanding at the host is lost with the link (R471). -/
def zlRetrainAct (s : State) : State := if zlLive s then zlStop (hmLinkFail s) else s
def execZlinkRetrainCmd (s : State) : Host.Outcome State Fault Refusal := .next (zlRetrainAct s)

/-- The link follows its ENABLE (R49, R51, R488): without it it is off, with it it searches. -/
def zlFollow (s : State) : State :=
  if zlLive s then (if s.zl.tstate = 0 then setZl s (fun z => { z with tstate := 1 }) else s)
  else if s.zl.tstate = 0 then s else setZl (zlStop (hmLinkFail s)) (fun z => { z with tstate := 0 })

/-! ## Groups (R467, R468) -/

/-- The group's CRC holds. -/
def groupCrcOk (data : List (BitVec 256)) (ctrl : BitVec 256) : Bool :=
  groupCrc data ctrl.toNat == ctrl.toNat / 2 ^ 224

/-- Data flits of a host transaction (R473): none for a type that brings none; the type or TAG may be wrong. -/
def hostFlits (s : State) (t : Transaction) : Option Nat :=
  if t.ttype = tMWR ∨ t.ttype = tMBX then some (t.len + 1)
  else if t.ttype = tCPL then
    (s.zl.devReqs.find? (fun r => r.1 == t.tag)).map (fun r => if r.2.1 = tHRD then t.len + 1 else 0)
  else if 1 ≤ t.ttype ∧ t.ttype ≤ 8 then some 0
  else none

/-- Flits that a held transaction has taken. -/
def heldFlits (t : Transaction) : Nat := txLength t.data.length
/-- Flits of the first held ones, which came before the link was last READY and take none of its credit (R476). -/
def oldFlits (z : Zeleri) : Nat := ((z.held.take z.heldOld).map heldFlits).sum
/-- Flits of held transactions that have been admitted (R474). -/
def admittedFlits (z : Zeleri) : Nat := min z.admitAt.2 (z.held.map heldFlits).sum
/-- Flits in the receive buffer (R476, R488). -/
def rxHeld (s : State) : Nat := (s.zl.held.map heldFlits).sum + s.zl.partialFlits.length - admittedFlits s.zl
/-- Those among them that take credit. -/
def rxUnfreed (s : State) : Nat := rxHeld s - (oldFlits s.zl - admittedFlits s.zl)

/-- Transactions that are whole, their last flit having arrived in cc `at_`, leave the received flits for the held list
(R101, R474); a protocol error fails the link. -/
def zlParse : Nat → Nat → State → State
  | 0, _, s => s
  | n + 1, at_, s =>
    match s.zl.partialFlits with
    | [] => s
    | h :: rest =>
      let t := txOf h
      match hostFlits s t with
      | none => zlProtocol s
      | some k =>
        let m := txLength k - 1
        if rest.length < m then s
        else
          let (d, c) := takeData (ceilDiv k 8) k rest
          zlParse n at_ (setZl s (fun z =>
            { z with partialFlits := rest.drop m, held := z.held ++ [{ t with data := d, checks := c }],
                     arrivals := Assoc.put (256 * t.ttype + t.tag) (some at_) z.arrivals }))

/-- A discarded group (R468): the first of an episode, and one that follows a replay group, ask for a NAK. The episode lasts
until the groups concerned are accepted (R470): all up to the discarded one, where its SEQ can be told and lies ahead. -/
def zlDiscard (s : State) (seq : Option Nat) : State :=
  let d := seq.elim 0 (fun q => let d := (q + 4096 - s.zl.expect) % 4096; if d < 2048 then d else 0)
  let s' := if s.zl.rxEpisode = 0 then countEpisode s else s
  setZl s' fun z =>
    { z with nakSend := z.nakSend || z.rxEpisode == 0 || z.sawReplay, rxEpisode := if z.rxEpisode = 0 then s.now + 1 else z.rxEpisode,
             rxLeft := max z.rxLeft (d + 1) }

/-- REPLAY of the group that was received last. -/
def noteReplay (s : State) (b : Bool) : State := setZl s (fun z => { z with sawReplay := b })

/-- A group has stood unacknowledged for 800 cc since it was sent, judged in cc `t` (R102, R469); one that waits to be sent
again has not been. -/
def unackOver (s : State) (t : Nat) : Bool := s.zl.replay.any (fun g => !s.zl.resend.contains g.seq && decide (g.sentAt + 800 + 3 ≤ t))

/-- ACK and CREDIT of a group that arrived in cc `at_` (R467-R470): groups that stood unacknowledged too long are
sent again first (R102). -/
def zlAck (s : State) (ctrl at_ : Nat) : State :=
  let s := if unackOver s at_ then zlResend s else s
  let ack := fieldOf ctrl 211 200
  setZl s fun z =>
    let i := z.replay.findIdx (fun g => g.seq == ack)
    let rest := if i < z.replay.length then z.replay.drop (i + 1) else z.replay
    closeResend { z with replay := rest, peerCredit := fieldOf ctrl 181 166,
                         replayTo := z.replayTo.filter (fun q => rest.any (fun g => g.seq == q)),
                         resend := z.resend.filter (fun q => rest.any (fun g => g.seq == q)) }

/-- The groups that a receive episode waits for are accepted: one fewer to come (R470). -/
def acceptOne (z : Zeleri) : Zeleri :=
  { z with expect := (z.expect + 1) % 4096, rxLeft := z.rxLeft - 1, rxEpisode := if z.rxLeft ≤ 1 then 0 else z.rxEpisode }

/-- A control block of an accepted group (R467, R586): it waits for its row, or is discarded. -/
def zlControl (s : State) (b : Nat) (replay : Bool) : State :=
  let ty := b / 2 ^ 120
  if ty = 0 then s
  else if ty = 0x81 ∨ ty ≤ 3 then
    if replay ∧ ty = 1 then s else setZl s (fun z => { z with ctrlIn := z.ctrlIn ++ [BitVec.ofNat 128 b] })
  else setErr s zlBlk Err.ZLINK_CTRL_DROP

/-- ZELERI_GROUP (R467-R470, R476): `arr` is its arrival in units of 0.125 ns (R101); a group that comes after the
retry budget finds the link failed (R471). An idle group serves for its ACK and CREDIT alone. -/
def execZeleriGroup (data : List (BitVec 256)) (ctrl : BitVec 256) (arr : Nat) (s : State) : Host.Outcome State Fault Refusal :=
  .next (if zlUp s && data.length == 16 then
    if budgetOver s (arr / 10) then zlFail s
    else if !groupCrcOk data ctrl then
      noteReplay (zlDiscard (setErr (countField s zlBlk Off.ZLINK_CRC_ERR 31 0 1) zlBlk Err.ZLINK_CRC_ERR) none) false
    else
      let x := ctrl.toNat
      let s := zlAck s x (arr / 10)
      let seq := fieldOf x 223 212
      let valid := fieldOf x 197 182
      if valid = 0 ∧ fieldOf x 127 120 = 0 then
        noteReplay (if seq = ackNow s.zl then setZl s (fun z => { z with rxEpisode := 0, rxLeft := 0 }) else zlDiscard s (some seq)) false
      else
        let s := if x.testBit 199 then zlResend s else s
        if seq ≠ s.zl.expect then noteReplay (zlDiscard s (some seq)) (x.testBit 198)
        else
          let got := ((List.range 16).filter (fun i => valid.testBit i)).map (fun i => data.getD i 0)
          if 32768 < rxUnfreed s + got.length then zlProtocol s
          else
            let s := setZl s fun z => { (acceptOne z) with sawReplay := x.testBit 198, partialFlits := z.partialFlits ++ got }
            zlControl (zlParse s.zl.partialFlits.length (arr / 10) s) (x % 2 ^ 128) (x.testBit 198)
  else s)

/-- UNACK_RESEND (R469). -/
def execUnackResend (s : State) : Host.Outcome State Fault Refusal :=
  .next (if zlUp s && unackOver s s.now then zlResend s else s)

/-- The arrival of a host transaction in cc (R101); now, when the row itself brings it. -/
def zlArrival (s : State) (ttype tag : Nat) : Nat := Assoc.getD s.now (256 * ttype + tag) s.zl.arrivals

/-- A transaction is carried out: one of before a link failure has its completion discarded (R471). -/
def zlLost (s : State) (ttype tag : Nat) : State :=
  setZl s (fun z => { z with mute := z.lost.contains (ttype, tag), lost := z.lost.erase (ttype, tag) })

/-- The host's transaction of a row: the admitted one that it names is taken; with the link READY the row
itself brings it. -/
def zlTake (s : State) (ttype tag addr : Nat) : Option State :=
  let i := s.zl.admitted.findIdx (fun t => t.ttype == ttype && t.tag == tag && t.addr == addr)
  if !hubUp s || !svcOpen s then none
  else if i < s.zl.admitted.length then
    some (zlLost (setZl s (fun z => { z with admitted := z.admitted.eraseIdx i, arrivals := Assoc.put (256 * ttype + tag) none z.arrivals })) ttype tag)
  else if zlUp s then some (setZl s (fun z => { z with mute := false }))
  else none

/-- May units of a transaction at this address be read, written, or added to (R19, R31, R243, R475)? -/
def unitMapped (s : State) (a : Nat) (write : Bool) (aop : Nat) : Bool :=
  let d := direct a
  match placeOf d with
  | .gnomon _ => !write
  | .dram _ _ => populated s d && !(aop != 0 && isAlias a)
  | .slm _ => populated s d
  | .mstore _ _ => populated s d && aop == 0
  | .vmem _ _ => populated s d && aop == 0
  | _ => false

/-- Addresses of a transaction's units, all of them mapped and aligned. -/
def spanMapped (s : State) (addr n : Nat) (write : Bool) (aop : Nat) : Bool :=
  addr % 32 == 0 && decide (addr + 32 * n ≤ 2 ^ 48) && (List.range n).all (fun k => unitMapped s (addr + 32 * k) write aop)

/-- The checks that the host sent with its units (R479). -/
def checkUnits (data : List (BitVec 256)) (checks : List Word) (term : Nat → Nat) : List (BitVec 256 × Bool) :=
  data.zipIdx.map (fun (d, i) => (d, checks.getD i 0 == e2e (leBytes 32 d.toNat) (term i)))

/-- Units that failed are counted (R488). -/
def countE2e (s : State) (n : Nat) : State :=
  if n = 0 then s else setErr (countField s zlBlk Off.ZLINK_E2E_FAIL 31 0 n) zlBlk Err.ZLINK_E2E_FAIL

/-! ## Admission (R474) -/

/-- Units of an MRD or MWR. -/
def unitCount (t : Transaction) : Nat := if t.ttype = tMRD then t.len + 1 else t.data.length

/-- An MRD or MWR all of whose units may be accessed (R19, R475). -/
def memTransaction (s : State) (t : Transaction) : Bool :=
  if t.ttype = tMRD then spanMapped s t.addr (t.len + 1) false 0
  else t.ttype == tMWR && decide (t.data ≠ []) && decide (t.data.length ≤ 256) && spanMapped s t.addr t.data.length true t.aop

/-- Direct addresses of units from an address on. -/
def unitDirects (addr n : Nat) : List Nat := (List.range n).map (fun k => direct (addr + 32 * k))

/-- Register packets of the link that are on their way to this address. -/
def accessTo (s : State) (addr : Nat) : Bool :=
  s.chord.msgs.any (fun m => match m.kind with
    | .access .zeleri _ _ a _ => a == addr
    | _ => false)

/-- A transaction admitted before touches the same bytes and one of the two writes them, or touches the same register
(R474): the later one is not admitted until it has been applied; nor is an MRD or MWR while one of its TAG is at work. -/
def admitBlocked (s : State) (t : Transaction) : Bool :=
  ((t.ttype == tMWR || t.ttype == tMRD) && s.zl.jobs.any (fun j => j.tag == t.tag || ((t.ttype == tMWR || j.ttype == tMWR) &&
      (unitDirects t.addr (unitCount t)).any (fun a => (unitDirects j.addr j.units.length).contains a))))
    || ((t.ttype == 3 || t.ttype == 4) &&
      (s.zl.admitted.any (fun x => (x.ttype == 3 || x.ttype == 4) && x.addr == t.addr) || accessTo s t.addr))

/-- Requests of an admitted MRD or MWR from hub router port 9, one for each unit (R312, DESIGN CHOICE, log entry 53);
a unit that fails its check is not sent (R275, R480). -/
def zlLaunch (s : State) (t : Transaction) : State :=
  let first := s.nextPacket
  let write := t.ttype == tMWR
  let u := checkUnits t.data t.checks (fun i => t.addr + 32 * i)
  let sent (k : Nat) : Bool := !write || (u.getD k (0, true)).2
  let units := (List.range (unitCount t)).map (fun k => if sent k then none else some (3, ([] : List Byte)))
  let s := if write then countE2e s (u.filter (fun x => !x.2)).length else s
  let s := setZl s (fun z => { z with jobs := z.jobs ++ [⟨t.ttype, t.tag, t.addr, units⟩] })
  let s := ((List.range (unitCount t)).filter sent).foldl (fun s k =>
    newRequest s 32 9 0 (256 * t.tag + k) write (if write then t.aop else 0) 0 (t.addr + 32 * k)
      (if write then leBytes 32 (u.getD k (0, true)).1.toNat else [])) s
  { s with packets := s.packets.map (fun p => if first ≤ p.id then { p with entered := true } else p) }

/-- An RRD or RWR of a facet goes to the facet's node as a SERVICE packet of requester 2 (R346, R473). A write of 1 to a
CONTROL.FENCE is carried as a FENCE message of its own (R359). -/
def zlAccess (s : State) (t : Transaction) : State :=
  match facetAt s (t.addr / 4096) with
  | some b =>
    let s := if t.ttype = 4 ∧ t.addr % 4096 = Off.CONTROL ∧ bitOf t.data32 1 ∧ canFence (typeOf b) then
        chordSend s (.fence b) 32 2 (chordUnit b).1 0 false else s
    chordSend s (.access .zeleri (t.ttype == 4) t.tag t.addr t.data32) 32 2 (chordUnit b).1 2 false
  | none => s

/-- The flits that this cc admits are counted, and their credit is freed: up to 128 of those held, in a SERVICE or stretch
slot (R474, R476). -/
def admitCount (s : State) : State :=
  match s.zl.held with
  | [] => s
  | t :: _ =>
    if s.zl.admitAt.1 = s.now + 1 ∨ !svcOpen s ∨ admitBlocked s t then s
    else setZl s fun z =>
      let n := min ((z.held.map heldFlits).sum) (z.admitAt.2 + 128)
      { z with admitAt := (s.now + 1, n), freed := (z.freed + ((n - oldFlits z) - (z.admitAt.2 - oldFlits z))) % 65536 }

/-- TRANSACTION_ADMIT (R65, R474): the oldest held transaction, once all its flits have been admitted. -/
def execTransactionAdmit (s : State) : Host.Outcome State Fault Refusal :=
  .next (match s.zl.held with
    | t :: rest =>
      let s := if hubUp s then admitCount s else s
      if hubUp s && svcOpen s && !admitBlocked s t && decide (heldFlits t ≤ s.zl.admitAt.2) then
        let s := setZl s (fun z => { z with held := rest, heldOld := z.heldOld - 1, admitAt := (z.admitAt.1, z.admitAt.2 - heldFlits t), admitted := z.admitted ++ [t] })
        if memTransaction s t then zlLaunch s t else if t.ttype = 3 ∨ t.ttype = 4 then zlAccess s t else s
      else s
    | [] => s)

/-- The units of an admitted MRD or MWR that its row names. -/
def zlJob? (s : State) (ttype tag addr : Nat) : Option ZlJob :=
  s.zl.jobs.find? (fun j => j.ttype == ttype && j.tag == tag && j.addr == addr)
/-- Every unit has been answered. -/
def jobDone (j : ZlJob) : Bool := j.units.all Option.isSome
/-- The statuses and data of a job's units. -/
def jobUnits (j : ZlJob) : List (Nat × List Byte) := j.units.map (fun x => x.getD (0, []))
/-- A job that its row has completed. -/
def jobEnd (s : State) (j : ZlJob) : State :=
  setZl (zlLost s j.ttype j.tag) fun z =>
    { z with jobs := z.jobs.erase j, arrivals := Assoc.put (256 * j.ttype + j.tag) none z.arrivals,
             admitted := z.admitted.eraseP (fun t => t.ttype == j.ttype && t.tag == j.tag && t.addr == j.addr) }

/-- A reply at hub router port 9 (R312): its unit's status and data. -/
def zlFill (s : State) (p : Packet) : State :=
  setZl s fun z =>
    { z with jobs := z.jobs.map (fun j =>
        if j.tag = p.rtag / 256 ∧ p.rtag % 256 < j.units.length then { j with units := j.units.set (p.rtag % 256) (some (p.status, p.data)) } else j) }

/-- The completion of an MRD from its units (R475, R480). -/
def mrdComplete (s : State) (tag addr : Nat) (u : List (Nat × List Byte)) : State :=
  let d := u.map (fun x => (fit x.2 32, x.1 == 2))
  zlComplete s tag (if u.any (fun x => x.1 == 1) then 1 else if u.any (fun x => x.1 == 2) then 2 else 0) 0 (u.length - 1)
    (d.map (fun x => unitBits x.1)) (e2eRun d (fun i => addr + 32 * i))

/-- The completion of an MWR from the statuses of its units (R475). -/
def mwrComplete (s : State) (tag : Nat) (st : List Status) : State :=
  if st.contains 1 then zlComplete s tag 1 0 0 [] []
  else if st.contains 2 then zlComplete s tag 2 0 0 [] []
  else if st.contains 3 then zlComplete s tag 3 (st.idxOf 3) 0 [] []
  else zlComplete s tag 0 0 0 [] []

/-- Every facet that an MRD or MWR of `n` units names sees an access of the wrong width (R10, R58, R475). -/
def facetsTouched (s : State) (addr n : Nat) : State :=
  ((List.range ((addr + 32 * n - 1) / 4096 + 1 - addr / 4096)).map (fun k => addr / 4096 + k)).foldl (fun s p =>
    match facetAt s p with
    | some b => setErr s b Err.ACCESS
    | none => s) s

/-- An MRD or MWR all of whose units have been answered completes (R475, R480). -/
def jobComplete (s : State) (j : ZlJob) : State :=
  if j.ttype = tMRD then mrdComplete (jobEnd s j) j.tag j.addr (jobUnits j)
  else mwrComplete (jobEnd s j) j.tag ((jobUnits j).map Prod.fst)

/-- A transaction that its row brings, with the link READY and its slot open, sets out as packets, and completes by itself
(`zlJobs`). -/
def zlBring (s : State) (t : Transaction) : State :=
  if zlUp s && svcOpen s && !admitBlocked s t then zlLaunch s t else s

/-- MRD (R473, R475, R480): an admitted one completes once its packets have been answered; any other is brought by its
row. -/
def execMrd (tag len addr : Nat) (s : State) : Host.Outcome State Fault Refusal :=
  let n := len % 256 + 1
  .next (match zlJob? s tMRD tag addr with
    | some j => if hubUp s && jobDone j then jobComplete s j else s
    | none =>
      if spanMapped s addr n false 0 then zlBring s ⟨tMRD, tag, len % 256, 0, false, 0, addr, 0, 0, 0, [], []⟩
      else match zlTake s tMRD tag addr with
        | none => s
        | some s => mrdComplete (facetsTouched s addr n) tag addr (List.replicate n (1, [])))

/-- MWR (R473, R475, R479, R480): as MRD. -/
def execMwr (tag aop addr : Nat) (data : List (BitVec 256)) (checks : List Word) (s : State) : Host.Outcome State Fault Refusal :=
  .next (match zlJob? s tMWR tag addr with
    | some j => if hubUp s && jobDone j then jobComplete s j else s
    | none =>
      if data ≠ [] ∧ data.length ≤ 256 ∧ spanMapped s addr data.length true (aop % 16) then
        zlBring s ⟨tMWR, tag, data.length - 1, aop % 16, false, 0, addr, 0, 0, 0, data, checks⟩
      else match zlTake s tMWR tag addr with
        | none => s
        | some s => zlComplete (facetsTouched s addr (max 1 data.length)) tag 1 0 0 [] [])

/-- Entries of a packet's body: two to a unit; ODD leaves out the last (R472, R481). -/
def packetEntries (data : List (BitVec 256)) (odd : Bool) : List (List Byte) :=
  let l := (data.map (fun d => [leBytes 16 d.toNat, leBytes 16 (d.toNat / 2 ^ 128)])).flatten
  if odd then l.dropLast else l

/-- MBX (R481): the packet is written, and completes with its commit (`mbxCc`). -/
def execMbx (tag q : Nat) (odd : Bool) (source : Word) (data : List (BitVec 256)) (checks : List Word) (s : State) :
    Host.Outcome State Fault Refusal :=
  .next (match zlTake s tMBX tag q with
    | none => s
    | some s =>
      let done (s : State) (st x : Nat) : State := zlComplete s tag st x 0 [] []
      let e := packetEntries data odd
      let u := checkUnits data checks (fun _ => q)
      if 64 ≤ q ∨ data = [] ∨ 256 < data.length ∨ (mbx s q).fenced ∨ mbFree (mbx s q) < e.length + 1 then done s 4 0
      else if u.any (fun x => !x.2) then
        done (countE2e s (u.filter (fun x => !x.2)).length) 3 (u.findIdx (fun x => !x.2))
      else
        let (s, a) := mbAddAll (mbOpen s q) q e
        let (s, b) := mbClose s q (leBytes 4 source.toNat ++ leBytes 4 (s.ft.frame % 2 ^ 32) ++ leBytes 4 0)
        setZl s (fun z => { z with mbxJobs := z.mbxJobs ++ [⟨tag, q, (mbx s q).commitTo, (mbx s q).era, if a || b then 2 else 0, z.mute⟩] }))

/-- A mailbox packet completes once it is committed, and with status 4 where a reset of the queue has come between (R427,
R481). -/
def mbxDone (s : State) (j : MbxJob) : State :=
  let x := mbx s j.queue
  if x.era = j.era ∧ x.commit ≠ j.goal then s
  else
    let s := setZl s (fun z => { z with mbxJobs := z.mbxJobs.erase j, mute := j.lost })
    zlComplete s j.tag (if x.era = j.era then j.status else 4) 0 0 [] []

/-- MBR (R475, R481); a header that is uncorrectable, and whose LENGTH tells of no packet that fits, is answered as it was
read, and nothing is taken (R262, R480). -/
def execMbr (tag len q : Nat) (s : State) : Host.Outcome State Fault Refusal :=
  let at_ := zlArrival s 6 tag
  .next (match zlTake s 6 tag q with
    | none => s
    | some s =>
      let n := len % 256 + 1
      let answer (s : State) (st x : Nat) (d : List (List Byte × Bool)) : State :=
        let u := d ++ List.replicate (n - d.length) (List.replicate 32 0, false)
        zlComplete s tag st x (n - 1) (u.map (fun x => unitBits x.1)) (e2eRun u (fun _ => q))
      if q < 64 ∨ 128 ≤ q ∨ (mbx s q).fenced then answer s 4 0 []
      else
        let (t, l, h) := mbWhole s q
        match l.filter (fun l => decide (l ≤ 2 * n)), h, l with
        | some _, _, _ =>
          let (s, d) := mbTake (staleFirst s q at_) q (2 * n)
          answer s (if d.any Prod.snd then 2 else 0) 0 (mbUnits d)
        | none, some h, _ => answer t 2 0 (mbUnits [(h, true)])
        | none, none, some l => answer t 4 l []
        | none, none, none => answer t 5 0 [])

/-- EVT (R473, R350). -/
def execEvt (tag cls : Nat) (data : Word) (s : State) : Host.Outcome State Fault Refusal :=
  .next (match zlTake s 7 tag 0 with
    | none => s
    | some s =>
      let s := sendNotice s zlBlk (fieldOf data.toNat 15 0) (fieldOf data.toNat 20 16) (cls % 2)
      zlComplete s tag 0 0 0 [] [])

/-- TELEM (R473, R514): no completion. -/
def execTelem (item : Nat) (value : Word) (s : State) : Host.Outcome State Fault Refusal :=
  let tag := ((s.zl.admitted.find? (fun t => t.ttype == 8 && t.addr == item)).map Transaction.tag).getD 0
  let at_ := zlArrival s 8 tag
  .next (match zlTake s 8 tag item with
    | none => s
    | some s => takeTelem s (item % 65536) value.toNat at_)

/-- CPL (R473, R480): ends an HRD or HWR of the device; one that matches none is a protocol error, one that the device held
when the link failed has none left to end (R471). -/
def execCpl (tag status : Nat) (data : List (BitVec 256)) (checks : List Word) (s : State) : Host.Outcome State Fault Refusal :=
  let at_ := zlArrival s tCPL tag
  .next (match zlTake s tCPL tag 0 with
    | none => s
    | some s =>
      if s.zl.mute then s
      else match s.zl.devReqs.find? (fun r => r.1 == tag) with
      | none => zlProtocol s
      | some (_, ty, c) =>
        let s := setZl s (fun z => { z with devReqs := z.devReqs.filter (fun r => r.1 != tag) })
        let a := (((hmv s c).reqs.find? (fun r => r.host && r.key == tag)).map HReq.addr).getD 0
        if status ≠ 0 then hmReply s c tag true 5 [] at_
        else if ty = tHRD then
          match checkUnits (data.take 1) checks (fun _ => a) with
          | (d, true) :: _ => hmReply s c tag true 0 (leBytes 32 d.toNat) at_
          | _ => hmReply (countE2e s 1) c tag true 5 [] at_
        else hmReply s c tag true 0 [] at_)

/-- HOST_HALT (R477, R573): decoded into HALT in 4 cc (R360). -/
def execHostHalt (b : BitVec 128) (s : State) : Host.Outcome State Fault Refusal :=
  .next (if zlUp s && fieldOf b.toNat 127 120 == 0x81 then
    let s := setZl s (fun z => { z with ctrlIn := z.ctrlIn.erase b })
    outsideHalt s (fieldOf b.toNat 47 40) (domainId s) 0 (faultFrame s) 4
  else s)

/-! ## What the link does on its own -/

/-- Transactions that their rows brought complete once all their units have been answered. -/
def zlJobs (s : State) : State := (s.zl.jobs.filter (fun j => !jobAdmitted s j && jobDone j)).foldl jobComplete s

/-- One cc of the link: ENABLE followed, flits admitted (R474), completions, event lines (R482) and the group that starts. -/
def zlCc (s : State) : State :=
  let s := zlFollow s
  let s := zlJobs (s.zl.mbxJobs.foldl mbxDone (if hubUp s then admitCount s else s))
  if zlUp s then zlTransmit (linesPend s) else s

end Sys2Proof.Machine
end

