-- ==== Sys2Proof/Machine/Routers.lean ====
section
/-! DEFINITION. The commands of the routers and of the die-to-die connections (10): arrivals, injection,
reduction results, unscheduled packets (R312, R318, R319), calibration (R307) and the handshake after a
partial reset (R332-R334). -/

namespace Sys2Proof.Machine

/-! ## Scheduled flits -/

/-- The earliest flight that reaches a router's port by now. -/
def flightFor (s : State) (r port : Nat) : Option Flight :=
  s.flights.find? (fun x => x.router == r && x.port == port && decide (x.due ≤ s.now))

/-- An end that has been reset receives nothing (R332). -/
def portReceives (s : State) (r port : Nat) : Bool := match d2dAt r port with
  | some e => (dd s e).ready && decide ((dd s e).width ≠ 0)
  | none => true

/-- FLIT_ARRIVAL (R310, R311, R313-R315, R321, R327): `noise` holds the bits that the wires inverted. -/
def execFlitArrival (r port : Nat) (noise : Flit) (s : State) : Host.Outcome State Fault Refusal :=
  onUnit routerCount r s fun s =>
    match flightFor s r port with
    | some x =>
      let s' := { s with flights := s.flights.erase x }
      if awake s && portReceives s r port then arriveFlit s' r port (x.flit.xor noise) x.due else s'
    | none => s

/-- The closed item whose result is due first: by cc, then by SEQ (R328). -/
def resultLe (s : State) (r : Nat) (x y : RedFlit) : Bool :=
  let due (z : RedFlit) : Nat := z.closed - 1 + redDelay (redDesc (redBody s r) z.flit.rdi).kind
  decide (due x < due y) || (due x == due y && decide (x.flit.seq ≤ y.flit.seq))
def nextResult (s : State) (r : Nat) : Option RedFlit :=
  let due (z : RedFlit) : Nat := z.closed - 1 + redDelay (redDesc (redBody s r) z.flit.rdi).kind
  ((rtr s r).red.filter (fun z => z.closed != 0 && decide (due z ≤ s.now))).foldl
    (fun acc z => match acc with
      | some y => if resultLe s r y z then acc else some z
      | none => some z) none

/-- REDUCTION_RESULT (R327, R328): a whole item leaves the buffer and its result enters at port 31. -/
def execReductionResult (r : Nat) (s : State) : Host.Outcome State Fault Refusal :=
  onUnit routerCount r s fun s =>
    match nextResult s r with
    | some z =>
      let d := redDesc (redBody s r) z.flit.rdi
      let size := redSize d.kind
      let q := z.flit.seq / size
      let mine (y : RedFlit) : Bool := y.closed == z.closed && y.flit.rdi == z.flit.rdi && y.flit.seq / size == q
      let out := redResult d ((rtr s r).red.filter mine) (q * size)
      let s := setRtr s r (fun x => { x with red := x.red.filter (fun y => !mine y) })
      out.foldl (fun s f => arriveFlit s r 31 f (z.closed - 1 + redDelay d.kind)) s
    | none => s

/-- Flits that a flow record has taken at the injection inputs in this cc. -/
def injTaken (s : State) (r flow : Nat) : Nat := if (rtr s r).inj.1 = s.now + 1 then Assoc.getD 0 flow (rtr s r).inj.2 else 0

/-- INJECTION (R325): the oldest flit of a queue enters, at the RATE of its flow. -/
def execInjection (r m q : Nat) (s : State) : Host.Outcome State Fault Refusal :=
  onUnit 32 r s fun s =>
    let g := 4 * r + m
    match Assoc.getD [] q (mc s g).inj with
    | x :: rest =>
      match matchFlow s r (8 + m) x.flit.key (slotNow s) (ccNow s) with
      | some w =>
        let n := injTaken s r w.idx
        if m < 4 ∧ workOpen s (rblk r) ∧ x.at_ < s.now ∧ n < w.rate then
          let s := setMc s g (fun k => { k with inj := Assoc.put q (if rest = [] then none else some rest) k.inj })
          let s := setRtr s r (fun k => { k with inj := (s.now + 1, Assoc.put w.idx (some (n + 1)) (if k.inj.1 = s.now + 1 then k.inj.2 else [])) })
          arriveFlit s r (8 + m) (mkFlit x.flit.pay.toNat x.flit.rdi x.flit.seq (slotNow s) x.flit.op x.flit.key) s.now
        else s
      | none => s
    | [] => s

/-- Has every flow of the frame passed its flits, and does the router hold no scheduled flit (R317)? -/
def routerFinished (s : State) (r : Nat) : Bool :=
  let b := rtBody s r
  (List.range (rtSlots b)).all (fun k => (rtFlowsOf b k).all (fun w => Assoc.getD 0 (k * 65536 + w.idx) (rtr s r).passed == w.count))
    && (rtr s r).outq.isEmpty && (rtr s r).red.isEmpty
    && (decide (32 ≤ r) || (List.range 4).all (fun m => (mc s (4 * r + m)).inj.isEmpty))

/-- ROUTER_DONE (R317). -/
def execRouterDone (r : Nat) (s : State) : Host.Outcome State Fault Refusal :=
  onUnit routerCount r s fun s =>
    if doneOpen s (rblk r) && (sectionOf s 2 r).isSome && routerFinished s r then setRtr s r (fun x => { x with done := true }) else s

/-! ## Unscheduled packets -/

/-- The payload of a REQ flit (R312), and a packet with the fields of one. -/
def reqPayload (p : Packet) : Nat :=
  p.rtag % 65536 * 2 ^ 80 + (p.replyRouter % 64 * 1024 + p.replyPort % 32 * 32 + p.replySub % 32) * 2 ^ 64
    + b2n p.write * 2 ^ 60 + p.aop % 16 * 2 ^ 56 + p.len % 256 * 2 ^ 48 + p.addr % 2 ^ 48
def reqFields (p : Packet) (x : Nat) : Packet :=
  { p with rtag := fieldOf x 95 80, replyRouter := fieldOf x 79 74, replyPort := fieldOf x 73 69, replySub := fieldOf x 68 64,
           write := bitOf x 60, aop := fieldOf x 59 56, len := fieldOf x 55 48, addr := fieldOf x 47 0 }

/-- A packet with the bits of `d` inverted in the flit that the noise struck: its first data flit, else its
REQ flit or the status of its closing flit. -/
def struckPacket (p : Packet) (d : Nat) : Packet :=
  if d = 0 then p
  else if p.data ≠ [] then { p with data := leBytes 32 (leNat (p.data.take 32) ^^^ d) ++ p.data.drop 32 }
  else if p.isReply then { p with status := p.status ^^^ d % 256 }
  else reqFields p (reqPayload p ^^^ d)

/-- The flit of a packet that the noise strikes, as it arrives (R309, R312): its REQ flit, its first data flit, or the
closing flit of a reply without data. -/
def struckFlit (p : Packet) (noise : Flit) : Flit :=
  let op := if p.isReply then 5 else if p.data = [] then 3 else 4
  let seq := if p.isReply ∧ p.data = [] then 0xFFF else 0
  (mkFlit 0 0xFFF seq 0 op (p.dest % 64 * 1024 + p.port % 32 * 32 + p.sub % 32)).xor noise

/-- A packet loses a flit to a struck tag (R310): it is dropped, with TAG_ERR and, while a program runs, a frame fault
when the router's check finds it; a flit that has become a scheduled one is judged as such (R314). One that still names
an unscheduled operation is lost with its packet (DESIGN CHOICE, log entry 64). -/
def struckTag (s : State) (r port : Nat) (p : Packet) (noise : Flit) : State :=
  let f := struckFlit p noise
  let s := dropPacket s p.id
  if !f.tagOk || decide (6 < f.op) then flitError s r port f Err.ROUTER_TAG_ERR 0x13
  else if f.op ≤ 2 then arriveFlit s r port f s.now
  else s

/-- The payload check of a packet at a router (R311): corrected, or forwarded as read; a struck write leaves
its unit unwritten, and the request's outcome is uncorrectable. -/
def checkPacket (s : State) (r port : Nat) (p : Packet) (noise : Flit) : State × Packet :=
  match noise.cls with
  | .clean => (s, struckPacket p noise.pay.toNat)
  | .dataBit k => (payCorr s r port, struckPacket p (noise.pay.toNat ^^^ 2 ^ k))
  | .checkBit _ => (payCorr s r port, struckPacket p noise.pay.toNat)
  | .uncorr =>
    (payUncorr s r port (struckFlit p noise),
     if p.data = [] then
       (if p.isReply then { (struckPacket p noise.pay.toNat) with status := 2 } else struckPacket p noise.pay.toNat)
     else { (struckPacket p noise.pay.toNat) with status := 2, badUnits := if p.badUnits.contains 0 then p.badUnits else 0 :: p.badUnits })

/-- A packet whose route meets a router that is not good (R319): a request is answered with status 1 from
where it stands, a reply is lost. -/
def routeBroken (s : State) (p : Packet) : State :=
  if p.isReply then dropPacket s p.id else replyPacket s p.id 1 [] [] s.now

/-- May a packet move or act: in the mesh, in a slot that carries it, and there by now (R65, R319)? -/
def packetOpen (s : State) (p : Packet) (late : Nat) : Bool :=
  (p.entered || p.isReply) && svcOpen s && decide (p.ready + late ≤ s.now)

/-- UNSCHEDULED_FLIT (R310, R311, R316, R318, R319): one step of a packet along the default route. -/
def execUnscheduledFlit (id : Nat) (noise : Flit) (s : State) : Host.Outcome State Fault Refusal :=
  .next (match packet? s id with
    | some p =>
      if packetOpen s p 0 && decide (p.here ≠ p.dest) then
        let out := routePort p.here p.dest
        match d2dAt p.here out with
        | some e =>
          let (nr, np) := d2dEnd (d2dPeer e)
          if !good s (rblk nr) then routeBroken s p
          else if !(dd s e).ready || (dd s e).width == 0 then s
          else if outputFull s p.here out then s
          else if noise.tag ≠ 0 then struckTag s nr np p noise
          else
            let (s, p) := checkPacket s nr np p noise
            setPacket s id (fun _ => { p with here := nr, ready := s.now + 8 })
        | none => routeBroken s p
      else s
    | none => s)

/-- An unscheduled access error at a facet (R10, R57). -/
def facetAccess (s : State) (addr : Nat) : State := match facetAt s (addr / 4096) with
  | some b => setErr s b 0
  | none => s

/-- A request performed on memory unit by unit (R19, R312): the data and the worse status. -/
def memUnits (s : State) (p : Packet) : State × List Byte × Status × List Nat :=
  (List.range (p.len + 1)).foldl (fun (s, d, st, bad) k =>
    let a := p.addr + 32 * k
    if p.write then
      if p.badUnits.contains k then (s, d, max st 2, bad)
      else
        let (s, t) := unitWrite s a p.aop ((p.data.drop (32 * k)).take 32)
        (s, d, max st t, if t = 2 then bad ++ [k] else bad)
    else
      let (s, x, t) := unitRead s a
      (s, d ++ x, max st t, if t = 2 then bad ++ [k] else bad)) (s, [], 0, p.badUnits)

/-- A request reaches its column (R229). -/
def columnReq (s : State) (p : Packet) : State :=
  match placeOf p.addr with
  | .dram c off =>
    if !populated s p.addr then replyPacket s p.id 1 [] p.badUnits s.now
    else
      colRequest (setPacket s p.id (fun x => { x with port := 31 })) c
        ⟨.router, false, p.write, p.aop, off / 32 * 32, p.len + 1, [(0, 32)], p.data, p.id, s.now, 0, [], p.badUnits, 0, 0⟩
  | _ => replyPacket s p.id 1 [] p.badUnits s.now

/-- A request reaches the SLM: each unit waits at its bank (R250); one for DRAM meets the general cache, and what is no read
passes on to its column (R247). -/
def slmReq (s : State) (p : Packet) : State :=
  let s := if isDram p.addr && !p.write then holdUnits s p else s
  let q := (List.range (p.len + 1)).map fun k =>
    ({ sched := false, write := p.write, aop := p.aop, addr := p.addr + 32 * k, data := (p.data.drop (32 * k)).take 32, packet := p.id, arrived := s.now, fill := false } : SlmReq)
  setSlm (setPacket s p.id (fun x => { x with port := 31 })) (fun x => { x with queue := x.queue ++ q })

/-- The M-core and the operand-store line of a unit, when it lies there (R112). -/
def storeLine (a : Nat) : Option (Nat × Nat) := match placeOf a with
  | .mstore g off => if off < accOff then some (g, off / 1024) else none
  | _ => none

/-- One unit that is held at a core's store (R148, R207), at the end of a cc (R112, R114, R141, R149, R207): an operand-store access waits for its
bank's port, and reads what the line held before the cc's writes, `old`; other stores are accessed after all writes of
the cc. -/
def coreUnit (s old : State) (p : Packet) (k : Nat) : State × Option (Nat × List Byte) :=
  let a := p.addr + 32 * k
  let d := (p.data.drop (32 * k)).take 32
  if isDram a then (s, none)
  else match storeLine a with
  | some (g, l) =>
    if !populated s a then (s, some (1, []))
    else if p.write then
      let u := l * 32 + a % 1024 / 32
      if writePortFree (mc s g) s.now (p.id + 1) u then
        let (s1, st) := unitWrite s a p.aop d
        (setMc s1 g (takeWrite s.now (p.id + 1) u), some (st, []))
      else (s, none)
    else if readPortFree (mc s g) s.now l then
      let (s1, x, st) := unitRead { s with mem := old.mem, synd := old.synd } a
      (setMc { s1 with mem := s.mem, synd := s.synd } g (takeRead s.now l), some (st, x))
    else (s, none)
  | none =>
    if p.write then
      let (s1, st) := unitWrite s a p.aop d
      (s1, some (st, []))
    else
      let (s1, x, st) := unitRead s a
      (s1, some (st, x))

/-- A write is accepted, or waits, in this cc at the bank of a granule (R112, R250, R261); a store whose banks the spec
does not lay out has none (log entry 63). -/
def bankWritten (s : State) (i : Nat) : Bool :=
  match placeOf (32 * i) with
  | .mstore g off =>
    if off < accOff then
      let l := off / 1024
      let m := mc s g
      writtenNow m s.now l
        || (rtr s (g / 4)).outq.any (fun x => x.port == 4 + g % 4 && decide (x.due ≤ s.now) && ((copyUnit (g / 4) x).elim false (fun y => sameBank (y / 32) l)))
        || s.coreReqs.any (fun q => q.got.isNone && ((packet? s q.packet).elim false (fun p =>
             p.write && ((storeLine (p.addr + 32 * q.unit)).elim false (fun y => decide (y.1 = g) && sameBank y.2 l)))))
    else false
  | .slm off =>
    slmUsed s (slmBank off) != 0
      || (rtr s 32).outq.any (fun x => x.port == 8 && x.data != [] && decide (x.due ≤ s.now) && (match placeOf x.addr with
          | .slm o => slmBank o == slmBank off
          | _ => false))
      || s.slm.queue.any (fun q => q.write && (match placeOf q.addr with
          | .slm o => slmBank o == slmBank off
          | _ => false))
  | _ =>
    let x := i % 2 ^ 43
    if i / 2 ^ 43 = 3 then decide ((mbx s (x / 512)).wroteAt = s.now + 1)
    else if i / 2 ^ 43 = 4 then slmUsed s (lineBank (x / 8 / 16) (x / 8 % 16) (32 * (x % 8))) != 0
    else false

/-- SRAM_WRITE_BACK (R261): the queued corrected granule at `a`, a device address or 32 times the index of a granule
beside device memory, is written back, unless a write of it came first or its bank accepts another write in this cc. -/
def execSramWriteBack (a : Nat) (s : State) : Host.Outcome State Fault Refusal :=
  .next (let i := if a < 2 ^ 48 then direct a / 32 else a / 32
    if s.writeBacks.contains i && !bankWritten s i then
      match granuleClass s i with
      | .uncorr => { s with writeBacks := s.writeBacks.filter (· != i) }
      | _ => granulePut (freshCheck s i) i (correctedBits s i)
    else s)

/-- Those of the waiting units that `now` names are served, oldest first. -/
def serveUnits (s old : State) (now : Packet → Nat → Bool) : State :=
  let (s, l) := s.coreReqs.foldl (fun (x : State × List CoreReq) q =>
    match q.got, packet? x.1 q.packet with
    | none, some p =>
      if now p q.unit then
        let (s1, r) := coreUnit x.1 old p q.unit
        (s1, x.2 ++ [{ q with got := r }])
      else (x.1, x.2 ++ [q])
    | _, _ => (x.1, x.2 ++ [q])) (s, [])
  { s with coreReqs := l }

/-- A read of an accumulator row. -/
def rowRead (p : Packet) (k : Nat) : Bool := !p.write && (match placeOf (p.addr + 32 * k) with
  | .mstore _ off => decide (accOff ≤ off)
  | _ => false)

/-- The units that wait at the cores' stores, oldest first (R112, R207); reads of accumulator rows follow every write of
the cc (R114). -/
def coreServe (s old : State) : State :=
  if s.coreReqs = [] ∨ !svcOpen s then s
  else serveUnits (serveUnits s old (fun p k => !rowRead p k)) old rowRead

/-- A packet all of whose units have been served turns into its reply (R312). -/
def coreReplies (s : State) : State :=
  let ids := (s.coreReqs.map CoreReq.packet).eraseDups
  ids.foldl (fun s id =>
    let mine := s.coreReqs.filter (fun q => q.packet == id)
    if mine.all (fun q => q.got.isSome) then
      let u := mine.map (fun q => q.got.getD (0, []))
      let bad := (u.zipIdx.filter (fun x => x.1.1 == 2)).map Prod.snd
      replyPacket { s with coreReqs := s.coreReqs.filter (fun q => q.packet != id) } id ((u.map Prod.fst).foldl max 0)
        (u.map Prod.snd).flatten bad s.now
    else s) s

/-- Writes of one hub channel are accepted in stream order (R400): an earlier one has reached its unit. -/
def writeTurn (s : State) (p : Packet) : Bool :=
  !p.write || p.replyRouter != 32 || p.replyPort != 11
    || s.packets.all (fun q => decide (p.id ≤ q.id) || q.isReply || !q.write || q.port == 31 || q.replyRouter != 32 || q.replyPort != 11 || q.replySub != p.replySub)

/-- REQ (R312): a request performed at the unit that its KEY names. -/
def execReq (id : Nat) (s : State) : Host.Outcome State Fault Refusal :=
  .next (match packet? s id with
    | some p =>
      if !p.isReply && packetOpen s p 3 && decide (p.here = p.dest) && decide (p.port ≠ 31) && !outputFull s p.here p.port && writeTurn s p then
        let reply (x : State × List Byte × Status × List Nat) : State := replyPacket x.1 id x.2.2.1 x.2.1 x.2.2.2 s.now
        if p.here < 32 ∧ p.port = 17 then columnReq s p
        else if p.here = 32 ∧ p.port = 8 then slmReq s p
        else if p.here = 32 ∧ p.port = 10 then
          let (s, u, st) := mbRequest s p
          reply (s, (u.map Prod.fst).flatten, st, (List.range u.length).filter (fun i => (u.getD i ([], false)).2))
        else if p.here = 32 ∧ p.port = 12 then
          let (s, st) := kvPacket s p
          reply (s, [], st, p.badUnits)
        else if p.here < 32 ∧ (p.port = 12 ∨ (4 ≤ p.port ∧ p.port ≤ 7)) then holdUnits s p
        else if p.here = 32 ∧ p.port = 9 then reply (memUnits s p)
        else reply (facetAccess s p.addr, [], 1, [])
      else s
    | none => s)

/-- RESP (R208, R312, R413): the reply reaches its requester. -/
def execResp (id : Nat) (s : State) : Host.Outcome State Fault Refusal :=
  .next (match packet? s id with
    | some p =>
      if p.isReply && packetOpen s p 3 && decide (p.here = p.dest) && !outputFull s p.here p.port then
        let s := dropPacket s id
        if p.here < 32 ∧ p.port = 12 then
          setVc s p.here (fun m => { m with remote := m.remote.map (fun r => { r with result := some (p.data, p.status) }) })
        else if p.here = 32 ∧ p.port = 11 then hmReply s p.sub id false p.status p.data s.now
        else if p.here = 32 ∧ p.port = 9 then zlFill s p
        else if p.here = 32 ∧ p.port = 8 then cacheReply s p
        else if p.here = 32 ∧ p.port = 12 then kvReply s p
        else s
      else s
    | none => s)

/-! ## Die-to-die connections -/

/-- Lanes good at both ends of an end's connection (R305). -/
def connMask (s : State) (e : Nat) : Nat := (dd s e).mask &&& (dd s (d2dPeer e)).mask

/-- Lanes of a half that a connection mask has bad. -/
def badLanes (m half : Nat) : List Nat := (List.range 23).filter (fun k => !m.testBit (23 * half + k))
/-- A half is usable when at most one of its lanes is bad (R305). -/
def halfUsable (m half : Nat) : Bool := decide ((badLanes m half).length ≤ 1)
/-- Width of a connection mask: 2 FULL, 1 HALF, 0 DOWN; the half in use when one is. -/
def connWidth (m : Nat) : Nat := b2n (halfUsable m 0) + b2n (halfUsable m 1)
def connHalf (m : Nat) : Nat := if halfUsable m 0 then 0 else 1
/-- Halves in use whose spare has taken a lane, bit by bit. -/
def connSpares (m : Nat) : Nat :=
  ((List.range 2).map (fun h => if halfUsable m h && (badLanes m h).any (fun k => decide (k < 22)) then 2 ^ h else 0)).sum

/-- Steps of 1/64 unit interval by which the sampling delay of wire `n` of an end stands off where it came up (R307): at
most one in each calibration, in a direction that is a free value (log entry 60). -/
def wireSteps (x : D2DEnd) (e n : Nat) : Int :=
  (x.cals.map (fun ctr =>
    match Config.freeBits (ctr + e + 512 * n) 2 % 3 with
    | 0 => (0 : Int)
    | 1 => 1
    | _ => -1)).sum

/-- Ends whose connection calibrates in this frame: j and the frame agree modulo 16, and it is up (R67). -/
def calEnds (s : State) : List Nat :=
  (List.range 112).filter (fun e => decide (e / 2 % 16 = s.ft.frame % 16) && (dd s e).ready && decide ((dd s e).width ≠ 0))

/-- CAL_D2D (R67, R307): in cc 0-39 of the CAL_D2D slot the connections of the frame calibrate, once; `weak` names the
lanes whose eyes fell below their limit, as (end, half, lane). -/
def execCalD2d (weak : List (Nat × Nat × Nat)) (s : State) : Host.Outcome State Fault Refusal :=
  if weak.all (fun x => decide (x.1 < 112) && decide (x.2.1 < 2) && decide (x.2.2 < 23)) then
    .next (if awake s && classNow s == 4 && decide (ccNow s ≤ 39) then
      let ctr := s.freeCtr
      let at_ := slotStart s (slotNow s) + 1
      let mine := (calEnds s).filter (fun e => decide ((dd s e).calAt ≠ at_))
      let s := mine.foldl (fun s e => setDd s e (fun x => { x with cals := x.cals ++ [ctr], calAt := at_ })) { s with freeCtr := s.freeCtr + 1 }
      weak.foldl (fun s (e, h, k) =>
        let x := dd s e
        if e / 2 % 16 = s.ft.frame % 16 ∧ x.ready ∧ x.width ≠ 0 ∧ x.mask.testBit (23 * h + k) then
          let s := setDd s e (fun x => { x with mask := x.mask ^^^ 2 ^ (23 * h + k) })
          let w := connWidth (connMask s e)
          setDd (setDd s e (fun x => { x with pendWidth := some w })) (d2dPeer e) (fun x => { x with pendWidth := some w })
        else s) s
    else s)
  else .fault .noSuchUnit

/-- A connection that has gone DOWN is fenced at both ends (R547, R577). -/
def d2dFence (s : State) (e : Nat) : State := deviceFence (deviceFence s (blk Ty.D2D e) .connection) (blk Ty.D2D (d2dPeer e)) .connection

/-- An end takes its pending width at cc 0 of a boundary slot (R307, R332): a spare that takes a lane sets
SPARE_USED; a narrower connection sets NARROWED or DOWN, with a frame fault while a program runs; a
connection that goes DOWN is fenced (R577). -/
def d2dApply (s : State) (e : Nat) : State :=
  let x := dd s e
  match x.pendWidth with
  | none => s
  | some w =>
    let m := connMask s e
    let b := blk Ty.D2D e
    let spares := connSpares m
    let s := setDd s e (fun x =>
      { x with pendWidth := none, width := w, half := if w = 1 then connHalf m else 0, ready := true, tstate := 3, resetEnd := false,
               disagreeRun := 0, spareUsed := spares })
    let s := setErrIf (decide (spares - (spares &&& x.spareUsed) ≠ 0)) s b Err.D2D_SPARE_USED
    if x.tstate = 3 then
      if w = 1 ∧ x.width = 2 then errFault s b Err.D2D_NARROWED 0x25
      else if w = 0 ∧ x.width ≠ 0 then d2dFence (errFault s b Err.D2D_DOWN 0x25) e
      else s
    else if w = 0 then d2dFence (setErr s b Err.D2D_DOWN) e
    else s

/-- All ends, at the tick. -/
def d2dBoundary (s : State) : State := s.d2d.foldl (fun s (e, _) => d2dApply s e) s

/-- Duration of the lane test, 849 ms in cc (R543). -/
def d2dTestCc : Nat := 679200000

/-- The lane test of an end begins (R332, R543): the connection carries nothing. -/
def d2dTest (x : D2DEnd) (now : Nat) (reset : Bool) : D2DEnd :=
  { (d2dDown x) with tstate := 1, resetEnd := reset, testAt := now + 1, spareUsed := 0 }

/-- D2D_QUALIFICATION_END (R332, R543, R545, R546): lanes marked bad before stay out of the mask,
and the reset end sends its marker, the far end its reply. -/
def execD2dQualificationEnd (e ownMask : Nat) (s : State) : Host.Outcome State Fault Refusal :=
  onUnit 112 e s fun s =>
    let x := dd s e
    if awake s && x.tstate == 1 && !x.fenced && decide (x.testAt - 1 + d2dTestCc ≤ s.now) then
      let known := (knownBad s (blk Ty.D2D e) 7).map (fun k => 23 * (k / 32) + k % 32)
      let m := maskWithout (ownMask % 2 ^ 46) known
      let s := lanesFail s (blk Ty.D2D e) 7 (((List.range 46).filter (fun n => !ownMask.testBit n)).map (fun n => 32 * (n / 23) + n % 23))
      let s := setDd s e (fun x => { x with mask := m, tstate := 2 })
      if x.resetEnd then setDd s (d2dPeer e) (fun y => { y with inMarker := some m })
      else setDd s (d2dPeer e) (fun y => { y with inReply := some (m, connWidth (m &&& x.peer)) })
    else s

/-- D2D_RETRAIN_MARKER (R332): the far end stops sending and tests its lanes. -/
def execD2dRetrainMarker (e : Nat) (s : State) : Host.Outcome State Fault Refusal :=
  onUnit 112 e s fun s =>
    match (dd s e).inMarker with
    | some m =>
      if awake s && !(dd s e).fenced then setDd s e (fun x => { (d2dTest x s.now false) with peer := m })
      else s
    | none => s

/-- An end records a disagreement of widths (R334); after four in a row the connection is DOWN. -/
def d2dDisagree (s : State) (e : Nat) : State :=
  let b := blk Ty.D2D e
  let s := setErr (countField s b Off.D2D_DISAGREE 7 0 1) b Err.D2D_WIDTH_DISAGREE
  setDd s e (fun x => { x with disagreeRun := x.disagreeRun + 1 })

/-- D2D_MASK_REPLY (R332): the reset end computes its width and sends it. -/
def execD2dMaskReply (e : Nat) (s : State) : Host.Outcome State Fault Refusal :=
  onUnit 112 e s fun s =>
    match (dd s e).inReply with
    | some (m, w) =>
      if awake s && !(dd s e).fenced then
        let mine := connWidth ((dd s e).mask &&& m)
        let s := setDd s e (fun x => { x with inReply := none, peer := m })
        let s := if mine = w then s else d2dDisagree s e
        setDd s (d2dPeer e) (fun y => { y with inWidth := some mine })
      else s
    | none => s

/-- D2D_WIDTH_CONFIRM (R332, R334): equal widths enable both ends at the next boundary slot; otherwise the
handshake restarts, or the connection is DOWN until the next bring-up and fenced (R577). -/
def execD2dWidthConfirm (e : Nat) (s : State) : Host.Outcome State Fault Refusal :=
  onUnit 112 e s fun s =>
    match (dd s e).inWidth with
    | some w =>
      if awake s && !(dd s e).fenced then
        let mine := connWidth ((dd s e).mask &&& (dd s e).peer)
        let s := setDd s e (fun x => { x with inWidth := none })
        let r := d2dPeer e
        if mine = w then
          setDd (setDd s e (fun x => { x with pendWidth := some w })) r (fun x => { x with pendWidth := some w })
        else
          let s := d2dDisagree s e
          if 4 ≤ (dd s e).disagreeRun then
            d2dFence s e
          else setDd s r (fun x => d2dTest x s.now true)
      else s
    | none => s

end Sys2Proof.Machine
end

