-- ==== Sys2Proof/Machine/LoadChecks.lean ====
section
/-! DEFINITION. What each unit checks of its section when a program is loaded (code 0x09 of R96): tile programs
(R139), V-core programs (R212), router tables (R322, R326, R436), column schedules (R226, R300), mover rings
(R406), port schedules (R442), barrier setups (R357) and the KV setup (R371). -/

namespace Sys2Proof.Machine

/-- All bytes of a span of a section are zero. -/
def zeroSpan (b : List Byte) (o n : Nat) : Bool := ((b.drop o).take n).all (fun x => x == 0)
/-- MAGIC of a section, its length for a header and `n` records. -/
def headerOk' (b : List Byte) (magic hdr size n : Nat) : Bool := bytesAt b 0 4 == magic && decide (hdr + size * n ≤ b.length)

/-! ## Tile programs (R139) -/

/-- Targets of a SYNC at load (R351, R354). -/
def syncOk (s : State) (stack kind target : Nat) : Bool :=
  match kind with
  | 0 => eventTarget target && blockState s target != 3
  | 1 => true
  | _ => decide (target ≤ 2303) && (decide (2048 ≤ target) || target / 64 == stack)

/-- The injection queue record that a FIN names, if the program has it. -/
def progQueue (p : Program) (g q : Nat) : Option QueueRec :=
  (p.sections.find? (fun x => x.kind == 2 && x.inst == g / 4)).bind (fun x => rtQueueOf x.body (g % 4) q)

/-- One tile operation's fields (R110, R119, R133-R138, R177, R189, R323). Of FIN, the bits of DOFF that DEST does not name and
DBASE where DEST is not 0 may hold anything: the spec does not say that they are zero (DESIGN CHOICE, log entry 58). -/
def tileOpOk (s : State) (p : Program) (g : Nat) (o : TileOp) : Bool :=
  match o with
  | .mac m =>
    (macDepth m.wfmt m.afmt).isSome && m.rumask != 0 && !(m.mode == 1 && m.wsrc == 1) && (m.mode == 1 || m.areg == 0)
      && (m.wsrc == 0 || (m.wbase == 0 && m.woff == 0))
      && (scaleBytes m.afmt == 0 || 32 * m.aoff % (4 * elemBits m.afmt) == 0)
  | .lda l => if l.side = 1 then l.dline == 0 && l.lines == 0 else decide (l.dline + l.lines + 1 ≤ 16)
  | .fin f =>
    decide (f.arow + f.rows + 1 ≤ 512) && (decide (f.ofmt ≤ 8) || f.ofmt == 10 || f.ofmt == 12)
      && !(decide (5 ≤ f.func) && decide (f.func ≤ 7)) && f.dest != 3 && !(f.smx == 1 && f.func != 0)
      && (f.dest != 2 || (match progQueue p g (f.doff % 32) with
        | some r => r.mode == 0 || f.ofmt == 12
        | none => false))
  | .clr row rows => decide (row + rows + 1 ≤ 512)
  | .wait slot _ => decide (1 ≤ slot) && decide (slot < p.slots)
  | .sync kind target _ => syncOk s (g / 4) kind target
  | .loop _ len => len != 0
  | .brf plog value skip => decide (value < 2 ^ plog) && skip != 0
  | .fill _ mask => mask != 0
  | _ => true

/-- Loops at most four deep, bodies and skips inside the program and the enclosing body. `ends` holds the ends
of the bodies around operation i, innermost first. -/
def tileNest : List TileOp → Nat → List Nat → Nat → Bool
  | [], _, _, _ => true
  | o :: r, i, ends, n =>
    let ends := ends.filter (fun e => decide (i < e))
    let lim := ends.headD n
    match o with
    | .loop _ len => decide (i + 1 + len ≤ lim) && decide (ends.length < 4) && tileNest r (i + 1) ((i + 1 + len) :: ends) n
    | .brf _ _ skip => decide (i + 1 + skip ≤ lim) && tileNest r (i + 1) ends n
    | _ => tileNest r (i + 1) ends n

/-- The greatest of some positions. -/
def maxPos (l : List Nat) : Option Nat := l.foldl (fun acc x => some (max x (acc.getD 0))) none

/-- One pass over the operations: the latest WAIT position (plus one) that can precede each, from the operation
before, from skips and from the loop ends of the pass before (`back`: body start, position). Answers whether
every WAIT is in order, and the positions at the ends of the loops that repeat. -/
def waitPass : List TileOp → Nat → Option Nat → List (Nat × Nat) → List (Nat × Nat) → List (Nat × Nat) → Bool × List (Nat × Nat)
  | ops, i, cur, jumps, loops, back =>
    let here := maxPos (cur.toList ++ ((jumps ++ back).filter (fun x => x.1 == i)).map Prod.snd)
    let ended := (loops.filter (fun x => x.2 == i)).filterMap (fun x => here.map (fun h => (x.1, h)))
    match ops with
    | [] => (true, ended)
    | o :: r =>
      let (ok, out) := match o, here with
        | _, none => waitPass r (i + 1) none jumps loops back
        | .wait slot cc, some h =>
          let x := 64 * slot + cc + 1
          let (ok, out) := waitPass r (i + 1) (some x) jumps loops back
          (ok && decide (h ≤ x), out)
        | .endFrame, some _ => waitPass r (i + 1) none jumps loops back
        | .brf _ _ skip, some h => waitPass r (i + 1) (some h) ((i + 1 + skip, h) :: jumps) loops back
        | .loop count len, some h => waitPass r (i + 1) (some h) jumps (if count = 1 then loops else (i + 1, i + 1 + len) :: loops) back
        | _, some h => waitPass r (i + 1) (some h) jumps loops back
      (ok, ended ++ out)

/-- WAIT positions ascend along every path (R139): a second pass follows the loops back. -/
def waitsAscend (ops : List TileOp) : Bool :=
  let (ok, back) := waitPass ops 0 (some 0) [] [] []
  ok && (waitPass ops 0 (some 0) [] [] back).1

/-- A tile program section (R126, R139). -/
def tileSectionOk (s : State) (p : Program) (g : Nat) (b : List Byte) : Bool :=
  let n := tileCount b
  headerOk' b 0x47504C54 32 8 n && decide (1 ≤ n) && decide (n ≤ 4096) && zeroSpan b 6 2 && zeroSpan b 0x18 8
    && (let ops := (List.range n).map (tileOpAt b)
        ops.all (fun o => match o with
          | some o => tileOpOk s p g o
          | none => false)
        && tileNest (ops.map (fun o => o.getD .nop)) 0 [] n && waitsAscend (ops.map (fun o => o.getD .nop)))

/-! ## V-core programs (R212) -/

/-- A branch target lies in the program. -/
def branchOk (pc n : Nat) (off : Int) : Bool := decide (0 ≤ (pc : Int) + off) && decide ((pc : Int) + off < n)

/-- One V-core instruction beyond what its word shows. -/
def vecInstrOk (s : State) (v pc n : Nat) (i : VInstr) : Bool :=
  match i with
  | .beq _ _ off => branchOk pc n off
  | .bne _ _ off => branchOk pc n off
  | .blt _ _ off => branchOk pc n off
  | .jmp off => branchOk pc n off
  | .sync kind target _ => syncOk s v kind target
  | .vcvt _ _ src t mod =>
    let a := 2048 / vWidth src
    let b := 2048 / vWidth t
    decide (mod % 4 < max a b / min a b)
  | _ => true

/-- A V-core program section (R211, R212). -/
def vecSectionOk (s : State) (v : Nat) (b : List Byte) : Bool :=
  let n := vecCount b
  headerOk' b 0x47504356 16 4 n && decide (1 ≤ n) && decide (n ≤ 16384) && zeroSpan b 8 8
    && (List.range n).all (fun pc => match vecAt b pc with
      | some i => vecInstrOk s v pc n i
      | none => false)

/-! ## Router slot tables (R322, R436) -/

/-- BASE in the range that R321 gives a local port; an SLM granule of a cache kind is no scratchpad (R246). -/
def baseOk (s : State) (r p base : Nat) : Bool :=
  if r < 32 then
    if 4 ≤ p ∧ p ≤ 7 then decide (base < 0x840000)
    else if p = 12 then decide (base < lmemSize)
    else if p = 17 then (match placeOf base with
      | .dram c _ => c / 16 == r
      | _ => false)
    else true
  else if p = 8 then (match placeOf base with
    | .slm _ => populated s base
    | _ => false)
  else true

/-- One flow record. -/
def flowOk (s : State) (r : Nat) (b : List Byte) (w : Flow) : Bool :=
  let outs := maskLanes 32 w.outs
  let hard (p : Nat) : Bool := meshPort r p || (decide (r < 32) && p == 18)
  decide (w.eject ≤ 4) && (w.eject == 4 || w.aop == 0) && decide (w.aop ≤ 11) && zeroSpan b (rtFlowBase b + 32 * w.idx + 0x18) 8
    && portExists r w.inp && outs.all (fun p => portExists r p && !(decide (r < 32) && decide (8 ≤ p) && decide (p ≤ 11)))
    && !outs.contains w.inp
    && decide (w.cc ≤ 63) && decide (1 ≤ w.len) && decide (w.len ≤ 64) && decide (w.cc + w.len ≤ 64) && decide (1 ≤ w.rate) && decide (w.rate ≤ 40)
    && decide (1 ≤ w.count) && decide (w.count ≤ w.len * w.rate)
    && (w.inp :: outs).all (fun p => !hard p || portRate s r p != 0)
    && (w.eject != 4 || outs.all (fun p => hard p || p == 31 || p == (if r = 32 then 8 else 17)))
    && (w.eject == 0 || outs.all (fun p => hard p || baseOk s r p w.base))

/-- Two flows of a slot with equal IN and KEY whose windows overlap. -/
def flowsClash (a b : Flow) : Bool := a.inp == b.inp && a.key == b.key && decide (a.cc < b.cc + b.len) && decide (b.cc < a.cc + a.len)

/-- One slot's flows together. -/
def slotFlowsOk (s : State) (r cls : Nat) (l : List Flow) : Bool :=
  let ports (w : Flow) : List Nat := w.inp :: maskLanes 32 w.outs
  let outs := ((l.map (fun w => maskLanes 32 w.outs)).flatten).eraseDups
  (!(cls == 0 || cls == 4 || cls == 6) || l.all (fun w => (ports w).all (fun p => !meshPort r p)))
    && (!(cls == 0 || cls == 3 || cls == 6) || decide (32 ≤ r) || l.all (fun w => !(ports w).contains 18))
    && l.all (fun a => l.all (fun b => a.idx == b.idx || !flowsClash a b))
    && outs.all (fun p => (List.range 64).all (fun c =>
      decide (((l.filter (fun w => w.outs.testBit p && decide (w.cc ≤ c) && decide (c < w.cc + w.len))).map Flow.rate).sum ≤ portRate s r p)))

/-- Injection queue records in range, each once (R323). -/
def queueRecsOk (b : List Byte) : Bool :=
  let n := rtQueues b
  let l := (List.range n).map (rtQueue b)
  l.all (fun q => decide (q.m ≤ 3) && decide (q.q ≤ 31) && decide (q.mode ≤ 2))
    && (List.range n).all (fun i => let o := rtFlowBase b + 32 * rtFlows b + 16 * i; zeroSpan b (o + 3) 1 && zeroSpan b (o + 0xE) 2)
    && ((l.map (fun q => 32 * q.m + q.q)).eraseDups).length == n

/-- A router slot table section (R320, R322, R436). -/
def routerSectionOk (s : State) (p : Program) (r : Nat) (b : List Byte) : Bool :=
  let n := rtFlows b
  bytesAt b 0 4 == 0x54535452 && rtSlots b == p.slots && zeroSpan b 0xA 22 && decide (rtQueues b ≤ (if r = 32 then 0 else 128))
    && decide (rtFlowBase b + 32 * n + 16 * rtQueues b ≤ b.length)
    && (List.range p.slots).all (fun k => decide ((rtSlot b k).1 + (rtSlot b k).2 ≤ n))
    && (List.range n).all (fun i => flowOk s r b (rtFlow b i))
    && (List.range p.slots).all (fun k => slotFlowsOk s r (nth p.map k) (rtFlowsOf b k))
    && queueRecsOk b

/-- A reduction descriptor table (R326). -/
def redSectionOk (r : Nat) (b : List Byte) : Bool :=
  let n := redCount b
  headerOk' b 0x42544452 16 16 n && decide (n ≤ 4095) && zeroSpan b 6 10
    && (List.range n).all (fun i =>
      let d := redDesc b i
      let o := 16 + 16 * i
      decide (1 ≤ d.kind) && decide (d.kind ≤ 3) && decide (2 ≤ d.n) && decide (d.n ≤ 8) && zeroSpan b (o + 12) 4
        && decide (d.next < 4096) && d.order.all (fun p => portExists r p) && d.order.eraseDups.length == d.n
        && ((b.drop (o + 4 + d.n)).take (8 - d.n)).all (fun x => x == 0xFF))

/-! ## Column schedules (R226, R300) -/

/-- Is a frame cc column-available in a slot class map (R219)? -/
def mapAvail (map : List Nat) (t : Nat) : Bool := decide (64 ≤ t) && decide (t / 64 < map.length) && colAvailClass (nth map (t / 64))

/-- The n-th column-available frame cc at or after `t`. -/
def mapNth : Nat → List Nat → Nat → Nat → Option Nat
  | 0, _, _, _ => none
  | k + 1, map, t, n =>
    if map.length ≤ t / 64 then none
    else if mapAvail map t then
      let room := 64 - t % 64
      if n ≤ room then some (t + n - 1) else mapNth k map (64 * (t / 64 + 1)) (n - room)
    else mapNth k map (64 * (t / 64 + 1)) n

/-- Last cc of a window. -/
def windowEnd (map : List Nat) (e : ColEntry) : Option Nat := mapNth (map.length + 1) map (64 * e.slot + e.cc) e.count

/-- A column's schedule as it runs, planned at load (R287, R295, R641): starts of the latest steps with their banks, the
banks, counts by bank, the last start plus one, the earliest cc of the next step, QUEUE places, the STREAM and PORT windows
to come with the transfers planned of the first and the cc that its next may take, and the slip so far. The ACTs of PORT
requests are not known at load and stand in no plan (DESIGN CHOICE, log entry 76). -/
structure RowPlan where
  run : List (Nat × List Nat)
  banks : List (Nat × Bank)
  cnt : List (Nat × Nat)
  last : Nat
  floor : Nat
  places : Nat
  wins : List ColEntry
  made : Nat
  data : Nat
  slip : Nat
deriving DecidableEq, Repr

/-- A bank of the plan at cc `t`: cc 40 of a withheld slot since its last ACT left it precharged (R220). -/
def RowPlan.bank (x : RowPlan) (map : List Nat) (t p : Nat) : Bank :=
  let b := Assoc.getD Bank.init p x.banks
  let shut (q : Nat) : Bool := !colAvailClass (nth map q) && decide (b.act ≤ 64 * q + 40) && decide (64 * q + 40 ≤ t)
  if (List.range (t / 64 + 1 - b.act / 64)).any (fun k => shut (b.act / 64 + k)) then Bank.init else b

/-- The cc of a planned stream's ACT (R219, R641). -/
def planAct : Nat → List Nat → RowPlan → Nat → Nat → Nat
  | 0, _, _, _, t => t
  | n + 1, map, x, p, t =>
    let t := bankTerms (x.bank map t) ((x.run.filter (fun r => r.2.contains p)).map Prod.fst) p 22 t
    let a := (mapNth (map.length + 1) map t 1).getD t
    planAct n map x p (if t + 24 < a then a - 24 else t)

/-- Stream transfers whose ACT, or whose place in an open row, falls before cc `t`: those of one row in one slot at a time
(R222, R641). -/
def streamsTo : Nat → List Nat → Nat → RowPlan → RowPlan
  | 0, _, _, x => x
  | n + 1, map, t, x =>
    match x.wins with
    | [] => x
    | e :: rest =>
      let avail (t : Nat) : Option Nat := mapNth (map.length + 1) map t 1
      match avail (if 0 < x.made then x.data else max (64 * e.slot + e.cc + x.slip) x.data) with
      | none => x
      | some d =>
        if e.kind = 2 then
          streamsTo n map t { x with wins := rest, data := (mapNth (map.length + 1) map d e.count).getD d + 1 }
        else
          let off := e.addr + 512 * x.made
          let p := bankPos off
          let plan := d - 22
          let b := x.bank map plan p
          let stays := b.openRow == some (rowOf off)
          let a := if stays then plan else planAct 16 map x p plan
          if t ≤ a then x
          else
            let d := if a = plan then d else (avail (d + (a - plan))).getD d
            let k := min (min (4 - off % 2048 / 512) (e.count - x.made)) (64 - d % 64)
            let b : Bank := { b with openRow := some (rowOf off), act := if stays then b.act else a + 1, cmd := d + k - 10 }
            let ends := decide (e.count ≤ x.made + k)
            streamsTo n map t
              { x with banks := Assoc.put p (some b) x.banks, wins := if ends then rest else x.wins,
                       made := if ends then 0 else x.made + k, data := d + k, slip := x.slip + (a - plan) }

/-- The first cc from `t` on that meets every term of R287, with the step's end inside the frame, and the plan with the
streams' ACTs before it. -/
def earliest : Nat → List Nat → RowPlan → List Nat → Nat → Option (RowPlan × Nat)
  | 0, _, _, _, _ => none
  | n + 1, map, x, banks, t =>
    let x := streamsTo (64 * map.length) map t x
    let live := x.run.filter (fun r => decide (t < r.1 + 152))
    let busy := live.filter (fun r => r.2.any banks.contains)
    if 64 * map.length < t + 152 then none
    else if 8 ≤ live.length then earliest n map x banks ((live.getLastD (t, [])).1 + 152)
    else match busy with
      | r :: _ => earliest n map x banks (r.1 + 152)
      | [] =>
        let a := banks.foldl (fun m p =>
          let y := (x.bank map t p).act
          if y = 0 then m else max m (y + 35)) t
        if t < a then earliest n map x banks a
        else match [0, 64, 128, 151].find? (fun d => !mapAvail map (t + d)) with
          | some d => earliest n map x banks (64 * ((t + d) / 64 + 1))
          | none => some (x, t)

/-- One step planned: it leaves its banks precharged (R286). -/
def planStep (map : List Nat) (p : Nat) (x : Option RowPlan) (rows : List Nat) : Option RowPlan := do
  let x ← x
  let held := banksOf rows
  let (x, t) ← earliest (64 * map.length + 5000) map x held (max (max p x.floor) (x.last + 3))
  pure { x with run := ((t, held) :: x.run).take 8,
                banks := held.foldl (fun l b => Assoc.put b (some { Bank.init with act := t + 1 }) l) x.banks,
                cnt := held.foldl (fun l b => Assoc.put b (some (Assoc.getD 0 b l + 1)) l) x.cnt, last := t + 1, floor := t }

/-- Words of a ROWENG entry (R283, R284, R300). -/
def rowEntryOk (e : ColEntry) : Bool :=
  let w := rowWork e.count e.addr e.arg
  if w.op = 7 then w.stride == 0 && e.addr == 0 && e.arg == 0 && w.b == 0 else requestLegal e.count e.addr e.arg

/-- One entry planned (R287, R299, R300); `wins` holds the windows of the column. -/
def planEntry (map : List Nat) (wins : List (Nat × Nat)) (x : Option RowPlan) (e : ColEntry) : Option RowPlan :=
  if e.kind ≠ 3 then x
  else if !rowEntryOk e then none
  else
    let w := rowWork e.count e.addr e.arg
    let p := 64 * e.slot + e.cc
    if w.op = 7 then
      match x with
      | none => none
      | some x =>
        let stop := queueSpan p w.rows - 1
        if x.last + 3 ≤ p ∧ x.floor ≤ p ∧ stop < 64 * map.length ∧ (List.range (stop / 64 + 1 - p / 64)).all (fun k => mapAvail map (64 * (p / 64 + k)))
            ∧ wins.all (fun v => decide (v.2 < p) || decide (stop < v.1)) then
          some { x with last := placeCc p (w.rows - 1) + 1, floor := stop + 1, places := x.places + w.rows }
        else none
    else (List.range w.rows).foldl (fun x j => planStep map p x (w.stepRows j)) x

/-- The STREAM entries of a schedule: position and COUNT (R223). -/
def streamsOf (b : List Byte) : List (Nat × Nat × Nat) :=
  (((List.range (colCount b)).map (colEntry b)).filter (fun e => e.kind == 1)).map (fun e => (e.slot, e.cc, e.count))

/-- Entries ascend, and windows neither overlap nor leave the frame. `pos` is the entry before's position,
`stop` the last cc, plus one, of the window before. -/
def windowsOk : List ColEntry → List Nat → Nat → Nat → Bool
  | [], _, _, _ => true
  | e :: r, map, pos, stop =>
    let p := 64 * e.slot + e.cc
    decide (1 ≤ e.slot) && decide (e.slot < map.length) && decide (e.cc ≤ 63) && decide (1 ≤ e.kind) && decide (e.kind ≤ 3)
      && decide (pos ≤ p) && e.count != 0
      && (if e.kind = 3 then windowsOk r map p stop
          else
            e.arg == 0 && (if e.kind = 1 then e.addr % 512 == 0 && decide (e.addr + 512 * e.count ≤ 2 ^ 30) else e.addr == 0)
              && mapAvail map p && decide (stop ≤ p)
              && (match windowEnd map e with
                | some t => windowsOk r map p (t + 1)
                | none => false))

/-- A column schedule section (R221, R223, R226, R300); of the two counts either alone is held against the budget
(DEDUCED, log entry 84). -/
def columnSectionOk (p : Program) (c : Nat) (b : List Byte) : Bool :=
  let n := colCount b
  let l := (List.range n).map (colEntry b)
  let wins := (l.filter (fun e => e.kind != 3)).map (fun e => (64 * e.slot + e.cc, (windowEnd p.map e).getD 0))
  let other (k : Nat) : List Byte := ((p.sections.find? (fun x => x.kind == 7 && x.inst == k)).map Section.body).getD []
  headerOk' b 0x43534C43 16 16 n && decide (1 ≤ n) && decide (n ≤ 4096) && zeroSpan b 6 10 && windowsOk l p.map 0 0
    && (List.range 4).all (fun q => streamsOf (other (c / 4 * 4 + q)) == streamsOf b)
    && (match l.foldl (planEntry p.map wins) (some ⟨[], [], [], 0, 0, 0, l.filter (fun e => e.kind != 3), 0, 0, 0⟩) with
      | some x => x.places ≤ 64 * p.refreshAct && x.cnt.all (fun y => decide (y.2 ≤ 64 * p.refreshAct))
      | none => false)

/-! ## Mover rings (R406) -/

/-- Every address of a MEM side, over all loop indices and frames, lies in populated direct DRAM of the stack:
its extremes do, and where a column between them is missing, each address is looked at. -/
def memSideOk (s : State) (stack : Nat) (d : Desc) (dest : Bool) : Bool :=
  let st := if dest then d.dstep else d.sstep
  let n0 := if dest then d.m0 else d.n0
  let w := if dest then d.dw else d.sw
  let fs := if dest then d.fstrD else d.fstrS
  let base : Int := if dest then d.dst else d.src
  let period := 2 ^ fieldOf d.ctrl 9 6
  let terms : List (Int × Nat) := [(st.getD 0 0, n0), (st.getD 1 0, d.n1), (st.getD 2 0, d.n2), (fs, period)]
  let lo := terms.foldl (fun x t => x + min 0 (t.1 * ((t.2 : Int) - 1))) base
  let hi := terms.foldl (fun x t => x + max 0 (t.1 * ((t.2 : Int) - 1))) base
  let first : Int := dramAddr (16 * stack) 0
  let inside := decide (first ≤ lo) && decide (hi + w ≤ first + 2 ^ 34)
  let c0 := lo.toNat / 2 ^ 30
  let whole := (List.range (hi.toNat / 2 ^ 30 + 1 - c0)).all (fun k => populated s ((c0 + k) * 2 ^ 30))
  n0 == 0 || (inside && (whole || (List.range period).all (fun f => (List.range (n0 * d.n1 * d.n2)).all (fun e => populated s (d.addrOf dest f e)))))

/-- A stack mover's descriptor (R395-R399, R406). -/
def smoverDescOk (s : State) (p : Program) (m : Nat) (b : List Byte) : Bool :=
  let d := descOf b
  let sc := fieldOf d.ctrl 23 21
  let dc := fieldOf d.ctrl 20 18
  let side (dest : Bool) : Bool :=
    let kind := if dest then d.dkind else d.skind
    let addr := if dest then d.dst else d.src
    let code := if dest then dc else sc
    let w := if dest then d.dw else d.sw
    let st := if dest then d.dstep else d.sstep
    let fs := if dest then d.fstrD else d.fstrS
    if kind = 0 then decide (addr < 2 ^ 48) && addr % w == 0 && stepsOk (fs :: st) w && memSideOk s (m / 4) d dest
    else kind == 1 && code == 5 && st.all (fun x => decide (x = 0)) && decide (fs = 0) && decide (addr < 2 ^ 40)
  decide (sc ≤ 5) && decide (dc ≤ 5) && decide (fieldOf d.ctrl 5 4 ≤ 2) && decide (d.aop ≤ 11) && fieldOf d.ctrl 3 0 == 0 && bytesAt b 7 1 == 0
    && decide (1 ≤ d.startSlot) && decide (d.startSlot < p.slots) && decide (d.startCc ≤ 63) && d.n1 != 0 && d.n2 != 0
    && d.n0 * d.sw % d.dw == 0 && (d.aop == 0 || (d.dkind == 0 && dc == 5))
    && eventTarget d.target && blockState s d.target != 3 && side false && side true

/-- A mover ring image section (R402, R406). -/
def moverSectionOk (s : State) (p : Program) (m : Nat) (b : List Byte) : Bool :=
  let n := ringCount b
  headerOk' b 0x4752564D 16 64 n && decide (1 ≤ n) && decide (n ≤ 4096) && zeroSpan b 6 10
    && (List.range n).all (fun i => smoverDescOk s p m ((b.drop (16 + 64 * i)).take 64))

/-! ## Port schedules, barrier setups, the KV setup -/

/-- A port schedule section (R438, R442). -/
def portSectionOk (s : State) (p : Program) (port : Nat) (b : List Byte) : Bool :=
  let n := gpEntryCount b
  let l := (List.range n).map (gpEntry b)
  let pos (e : PortEntry) : Nat := 64 * e.slot + e.cc
  let rate (e : PortEntry) (t : Nat) : Nat :=
    if pos e ≤ t ∧ t < pos e + ceilDiv e.count e.rate then min e.rate (e.count - e.rate * (t - pos e)) else 0
  headerOk' b 0x43535047 16 8 n && decide (n ≤ 4096) && zeroSpan b 6 10
    && l.all (fun e => decide (1 ≤ e.slot) && decide (e.slot < p.slots) && decide (e.cc ≤ 63) && decide (1 ≤ e.rate) && decide (e.rate ≤ 8)
      && decide (1 ≤ e.count) && decide (e.count ≤ 512) && decide (e.cc + ceilDiv e.count e.rate ≤ 64)
      && !([0, 3, 6].contains (nth p.map e.slot)))
    && (l.zip (l.drop 1)).all (fun x => decide (pos x.1 ≤ pos x.2))
    && l.all (fun e => (List.range (ceilDiv e.count (max 1 e.rate))).all (fun k => decide ((l.map (fun x => rate x (pos e + k))).sum ≤ 8)))
    && (n == 0 || portRate s (gpRouter port) 18 != 0)

/-- A barrier and event setup section (R357): 64 counters at a stack node, 256 at the root. -/
def barrierSectionOk (node : Nat) (b : List Byte) : Bool :=
  let n := bytesAt b 4 2
  let most := if node = 32 then 256 else 64
  let ks := (List.range n).map (fun i => bytesAt b (16 + 8 * i) 1)
  headerOk' b 0x53424843 16 8 n && decide (n ≤ most) && zeroSpan b 6 10
    && (List.range n).all (fun i => let o := 16 + 8 * i
        decide (bytesAt b o 1 < most) && zeroSpan b (o + 1) 1 && decide (1 ≤ bytesAt b (o + 2) 2) && decide (bytesAt b (o + 2) 2 ≤ 1023) && zeroSpan b (o + 4) 4)
    && ks.eraseDups.length == n

/-- A span of direct DRAM whose columns are all populated. -/
def dramSpan (s : State) (a n : Nat) : Bool :=
  n == 0 || (decide (dramBase ≤ a) && decide (a + n ≤ dramBase + dramSize)
    && (List.range ((a + n - 1) / 2 ^ 30 + 1 - a / 2 ^ 30)).all (fun k => populated s (max a ((a / 2 ^ 30 + k) * 2 ^ 30))))

/-- Do two spans share a byte? -/
def spansMeet (a n b m : Nat) : Bool := decide (a < b + m) && decide (b < a + n) && n != 0 && m != 0

/-- The KV and prefix setup section (R370, R371). -/
def kvSectionOk (s : State) (b : List Byte) : Bool :=
  let g := kvCfgOf b
  let dirSize := 16 * g.handles
  let ptSize := 256 * 2 ^ g.ptBits
  let pools := g.cols.map (fun c => dramAddr c (g.rowFirst * 0x10000))
  let poolSize := g.rowCount * 0x10000
  let resSize := 16 * 2 ^ g.resLog
  b.length == 128 && bytesAt b 0 4 == 0x5553564B && zeroSpan b 7 1 && zeroSpan b 0x2C 20
    && decide (g.lag ≤ 15) && decide (4 ≤ g.resLog) && decide (g.resLog ≤ 16) && decide (8 ≤ g.ptBits) && decide (g.ptBits ≤ 24)
    && decide (1 ≤ g.rowCount) && decide (g.rowFirst + g.rowCount ≤ 16384) && decide (g.handles ≤ 4194304)
    && g.dir % 4096 == 0 && g.pt % 4096 == 0 && g.res % 16 == 0
    && g.cols.all (fun c => populated s (dramAddr c 0))
    && dramSpan s g.dir dirSize && dramSpan s g.pt ptSize
    && pools.all (fun a => !spansMeet a poolSize g.dir dirSize && !spansMeet a poolSize g.pt ptSize) && !spansMeet g.dir dirSize g.pt ptSize
    && decide (slmBase ≤ g.res) && decide (g.res + resSize ≤ slmBase + 0x10000000)
    && populated s g.res && populated s (g.res + resSize - 1)

/-! ## All sections -/

/-- UNIT_TYPE of a section kind; 0 for package-wide kinds (R92). -/
def kindType (kind : Nat) : Option Nat :=
  match kind with
  | 1 => some 0 | 2 => some Ty.ROUTER | 3 => some Ty.ROUTER | 4 => some Ty.MCORE | 5 => some Ty.VCORE | 6 => some Ty.SMOVER
  | 7 => some Ty.COLCTL | 8 => some Ty.GPORT | 9 => some Ty.CHORD | 10 => some Ty.PREFIX | 11 => some 0 | _ => none

/-- Does the owning unit take its section? -/
def sectionOk (s : State) (p : Program) (x : Section) : Bool :=
  match x.kind with
  | 2 => routerSectionOk s p x.inst x.body
  | 3 => redSectionOk x.inst x.body
  | 4 => tileSectionOk s p x.inst x.body
  | 5 => vecSectionOk s x.inst x.body
  | 6 => moverSectionOk s p x.inst x.body
  | 7 => columnSectionOk p x.inst x.body
  | 8 => portSectionOk s p x.inst x.body
  | 9 => barrierSectionOk x.inst x.body
  | 10 => kvSectionOk s x.body
  | _ => true

end Sys2Proof.Machine
end

