-- ==== Sys2Proof/Machine/Frames.lean ====
section
/-! DEFINITION. Frames and programs (03): the boundary slot (R70), the start and end of a program (R87), the
overrun check (R97), signatures (R588, R589), refresh (R231, R232), loading (R95, R96), tick markers (R74-R85,
R640) and delay probes (R77, R478). -/

namespace Sys2Proof.Machine

/-- The FTIMER block's entry. -/
def ftBlk : Nat := blk Ty.FTIMER 0

/-! ## Places in the frame -/

/-- The frame numbers before and after (R84). -/
def prevFrame (n : Nat) : Nat := (n + 2 ^ 48 - 1) % 2 ^ 48
def nextFrame (n : Nat) : Nat := (n + 1) % 2 ^ 48

/-- The package is the frame master (R73, R83). -/
def isMaster (s : State) : Bool := match s.prog with
  | some p => decide (2 ≤ s.ft.pstate) && p.tickParent == 0xFE
  | none => false

/-- LOCKED (R81, R83). -/
def locked (s : State) : Bool := decide (2 ≤ s.ft.pstate) && (isMaster s || decide (16 ≤ s.ft.goodRun))

/-- HALT_N is low (R362, R567): the package holds it low, or another does. -/
def haltNLow (s : State) : Bool := s.pins.haltOwn || s.ft.haltLow

/-- FAULT_INFO.VALID. -/
def faultValid (s : State) : Bool := bitOf (getReg s ftBlk Off.FTIMER_FAULT_INFO) 31

/-- A value for a field of `w` bits; one that does not fit is a free value (log entry 5). -/
def fitField (s : State) (w x : Nat) : Nat × State := if x < 2 ^ w then (x, s) else draw s w

/-! ## Units of the program -/

/-- Block entries of the units with a section, ascending (R92, R97). -/
def unitBlocks (p : Program) : List Nat :=
  sortNats ((p.sections.filterMap (fun x => match kindType x.kind with
    | some ty => if ty = 0 then none else some (blk ty x.inst)
    | none => none)).eraseDups)

/-- Has the unit marked its frame work done (R97)? The prefix engine has, once every request it holds for the
frame is staged (R377); barrier setups have no end-of-frame point. -/
def unitDone (s : State) (n b : Nat) : Bool :=
  let i := instOf b
  match typeOf b with
  | 3 => (mc s i).done
  | 4 => (vc s i).done
  | 5 => (sectionOf s 2 i).isNone || (rtr s i).done
  | 6 => (smv s i).done
  | 7 => (col s i).done
  | 9 => (gp s i).done
  | 14 => (kvOf s n).all (fun r => r.staged != 0 && decide (r.staged ≤ s.now))
  | _ => true

/-- The value U of a unit (R588); a unit that makes no records keeps 0. -/
def unitSig (s : State) (b : Nat) : DWord :=
  let i := instOf b
  match typeOf b with
  | 3 => (mcSigFlush (mc s i)).sig
  | 4 => (vc s i).sig
  | 5 => (rtr s i).sig
  | 7 => (col s i).sig
  | 14 => s.kv.sig
  | _ => 0

/-- The signature of the frame that ends (R589). -/
def signature (s : State) (p : Program) : Nat :=
  (unitBlocks p).foldl (fun x b => x ^^^ crc64 0 (leBytes 2 b ++ leBytes 8 (unitSig s b).toNat)) 0

/-- FRAME_OVERRUN (R97) for frame `n`. -/
def overrunCheck (s : State) (n : Nat) : State :=
  match s.prog with
  | some p =>
    let s := match (unitBlocks p).find? (fun b => !unitDone s n b) with
      | some b => errFault (setReg s ftBlk Off.FTIMER_OVERRUN_UNIT (2 ^ 31 + b)) ftBlk Err.FTIMER_OVERRUN 0x01
      | none => s
    setFt s (fun f => { f with sigNext := some (n, signature s p) })
  | none => s

/-- Counts of the frame that ends go to their registers, and every unit starts the new frame (R150, R181, R252,
R295, R301, R335, R428, R588). GATE.RATIO is rounded down, and 0 for a frame with no products (DESIGN CHOICE, log entry
76). -/
def rollCores (s : State) : State :=
  let s := s.mcores.foldl (fun s (g, m) =>
    let b := blk Ty.MCORE g
    let ratio := if m.products = 0 then 0 else min 0xFFFF (m.gatedN * 65536 / m.products)
    setReg (setReg s b Off.MCORE_ACTIVITY (min 0xFFFF m.fillCc * 65536 + min 0xFFFF m.steps)) b Off.MCORE_GATE ratio) s
  { s with
      mcores := s.mcores.map (fun (g, m) =>
        (g, { m with done := false, running := false, smx := [], steps := 0, fillCc := 0, gatedN := 0, products := 0,
                     linesRead := 0, sig := 0, sigCc := [] })),
      vcores := s.vcores.map (fun (v, m) => (v, { m with done := false, running := false, sig := 0 })) }
def rollMesh (s : State) : State :=
  let s := s.routers.foldl (fun s (r, x) => setReg s (blk Ty.ROUTER r) Off.ROUTER_FLITS (min (2 ^ 32 - 1) x.sent)) s
  let s := s.smovers.foldl (fun s (m, x) => setReg s (blk Ty.SMOVER m) Off.SMOVER_MOVED x.moved) s
  let s := setKv s (fun k => { k with sig := 0 })
  { s with
      routers := s.routers.map (fun (r, x) => (r, { x with passed := [], sent := 0, done := false, sig := 0 })),
      smovers := s.smovers.map (fun (m, x) => (m, { x with moved := 0, done := false })),
      gports := s.gports.map (fun (p, x) => (p, { x with released := [], done := false })) }
def rollColumns (s : State) : State :=
  let s := s.cols.foldl (fun s (c, k) =>
    let b := blk Ty.COLCTL c
    let s := setReg (setReg s b Off.COLCTL_SLIP (min 0xFFFF k.slip)) b Off.COLCTL_ADDER k.adds
    setReg s b Off.COLCTL_RE_STEPS (min 0xFFFF k.stepsRefused * 65536 + min 0xFFFF k.stepsRun)) s
  { s with cols := s.cols.map (fun (c, k) =>
      (c, { k with entry := 0, window := none, fly := [], cmdNext := (0, 0), cmdLast := 0, reserved := 0, rowEntry := (0, 0), slip := 0, adds := 0, stepsRun := 0, stepsRefused := 0,
                   done := false, sig := 0, banks := k.banks.map (fun (p, b) => (p, { b with charged := 0 })) })) }

/-! ## Refresh (R231, R232, R236, R296) -/

/-- Interval code of a layer for the new frame (R231): it shortens at once, and lengthens after eight
consecutive reads at or below the limit less 2 °C. -/
def intervalCode (s : State) (st l old : Nat) : Nat :=
  let i := 256 + 8 * st + l
  if !sensorLive s i then 2
  else
    let x := sensor s i
    let need := if x.value ≤ 1360 then 0 else if x.value ≤ 1520 then 1 else 2
    let low (t : Int) : Bool := decide (8 ≤ x.hist.length) && (x.hist.take 8).all (fun v => decide (v ≤ t))
    if old ≤ need then need else if low 1328 then 0 else if low 1488 then min old 1 else old

/-- Refresh owed for the frame just ended, in 2^-16 of an operation (R232). -/
def debtOf (slots code : Nat) : Nat :=
  ceilDiv (65536 * 8192 * slots * 80) (if code = 0 then 32000000 else if code = 1 then 16000000 else 8000000)

/-- A layer is hot for the new frame (R296): above 92 °C, or its sensor is dead. -/
def layerHot (s : State) (st l : Nat) : Bool :=
  let i := 256 + 8 * st + l
  !sensorLive s i || decide (1472 < (sensor s i).value)

/-- A column at the tick: intervals, debts and hot layers, and the scrub rate that PASS_S asks for, whose first step falls
due one whole period later (R264; DESIGN CHOICE, log entry 76). -/
def columnTick (s : State) (c slots : Nat) : Column :=
  let k := col s c
  let st := c / 16
  let rate := getReg s (blk Ty.COLCTL c) Off.COLCTL_SCRUB_RATE % 2 ^ 24
  { k with
      scrubRate := rate, scrubAt := if scrubPeriod k.scrubRate = scrubPeriod rate then k.scrubAt else s.now,
      layers := (List.range 8).map (fun l =>
        let y := Assoc.getD Layer.init l k.layers
        let i := intervalCode s st l y.interval
        (l, { y with interval := i, debt := y.debt + debtOf slots i })),
      hot := ((List.range 8).map (fun l => b2n (layerHot s st l) * 2 ^ l)).sum }

/-- Refresh for the new frame, with REFRESH_DEBT at four operations (R236). -/
def refreshTick (s : State) : State :=
  let slots := fSlots s + s.ft.stretchPrev
  let s := { s with cols := (List.range columnCount).map (fun c => (c, columnTick s c slots)) }
  s.cols.foldl (fun s (c, k) =>
    setErrIf (k.layers.any (fun x => decide (4 * 65536 ≤ x.2.debt)) && blockState s (blk Ty.COLCTL c) != 3) s
      (blk Ty.COLCTL c) Err.COLCTL_REFRESH_DEBT) s

/-! ## SLM granules (R245, R248) -/

/-- PART_NEXT applied while PSTATE is 0, granule by granule; every general-cache line becomes invalid, and the tree bits
are cleared with them. A granule that was the cache's shows as scratchpad what it held before (DESIGN CHOICE, log entry 76). -/
def partitionTick (s : State) : State :=
  let next := getReg s slmBlk Off.SLM_PART_NEXT
  let now := s.slm.partNow
  let kind (g : Nat) : Nat :=
    let n := fieldOf next (2 * g + 1) (2 * g)
    if s.ft.pstate = 0 ∧ n ≠ 3 then n else fieldOf now (2 * g + 1) (2 * g)
  let new := ((List.range 16).map (fun g => kind g * 4 ^ g)).sum
  setErrIf (new != next) (setSlm s (fun m => { m with partNow := new, lines := [], plru := [] })) slmBlk Err.SLM_PART_HELD

/-! ## Programs begin and end (R87, R106) -/

/-- PSTATE 0, and power state Ready after Run (R537). -/
def toIdle (s : State) : State :=
  let s := setFt s (fun f => { f with pstate := 0, unloadReq := false, ending := false, onProg := false })
  if s.power = .run then setPower s .ready else s

/-- An M-core without a frame program's progress: only its stores and tables keep their contents (R127). -/
def mcoreClear (m : MCore) : MCore :=
  { MCore.init with
      areg := m.areg, stream := m.stream, streamAt := m.streamAt, halves := m.halves, strLine := m.strLine % 2,
      tabActive := m.tabActive, tabStaged := m.tabStaged, events := m.events, held := m.held,
      winWork := m.winWork, winFill := m.winFill, winProd := m.winProd, winGated := m.winGated, winLines := m.winLines,
      fenceAt := m.fenceAt }
/-- A V-core likewise (R196); an access on its way completes. -/
def vcoreClear (m : VCore) : VCore :=
  { VCore.init with csrSat := m.csrSat, events := m.events, held := m.held, fenced := m.fenced, remote := m.remote }

/-- A report of the end of a page copy (R382). -/
def isCopyEnd (m : ChordMsg) : Bool := match m.kind with
  | .copyEnd .. => true
  | _ => false

/-- Every unit without a frame program's progress. Row-engine requests are dropped, and the end of one in progress is
reported to no copy pin of a later program (R382; DEDUCED, log entry 82). -/
def unitsClear (s : State) : State :=
  { s with
      chord := { s.chord with msgs := s.chord.msgs.filter (fun m => !isCopyEnd m) },
      mcores := s.mcores.map (fun (g, m) => (g, mcoreClear m)),
      vcores := s.vcores.map (fun (v, m) => (v, vcoreClear m)),
      cols := s.cols.map (fun (c, k) =>
        (c, { k with entry := 0, window := none, fly := [], cmdNext := (0, 0), cmdLast := 0, reserved := 0, rowEntry := (0, 0), done := false, sig := 0, queue := k.queue.filter (fun r => !r.sched),
                     reqs := [], steps := k.steps.map (fun r => { r with queued := false }) })),
      routers := s.routers.map (fun (r, x) => (r, { x with passed := [], red := [], outq := [], done := false, sig := 0 })),
      smovers := s.smovers.map (fun (m, x) => (m, { SMover.init with moved := x.moved, fenced := x.fenced })),
      gports := s.gports.map (fun (p, x) => (p, { x with rx := [], tx := [], released := [], done := false })) }

/-- The program is unloaded (R106, R565): no program, PSTATE 0, the cores run again. -/
def unloadNow (s : State) : State :=
  let ramp := s.th.fillPhase == 1
  let s := unitsClear (toIdle { s with prog := none })
  let s := setFt s fun f =>
    { f with halted := false, gated := f.haltLow, stops := [], reached := [], goodRun := 0, missRun := 0, matched := [], lastE := none, early := none,
             resyncLeft := 0, out := [], stretchFor := [] }
  let s := setTh s (fun t => { t with fillPhase := if ramp then 2 else t.fillPhase })
  setKv s (fun k => { k with reqs := [], waiting := [], stagedAt := 0, framePins := [], log := [] })

/-- A pin halt by level (R562). -/
def levelHalt (s : State) : State := if s.ft.haltLow && running s then pinHaltAct s else s

/-- What PSTATE and the program become at cc 0 of the boundary slot that ends frame `n`: a load stops, the armed
program starts or fails to, the running one ends (R87, R106). -/
def programTurn (s : State) (n : Nat) : State :=
  match s.ft.pstate with
  | 0 => setFt s (fun f => { f with unloadReq := false })
  | 1 => if s.ft.unloadReq then toIdle (loadCode s 0x10) else s
  | 2 => match s.prog with
    | some p =>
      if s.ft.unloadReq then setFt s (fun f => { f with ending := true })
      else if s.ft.frame = p.start then
        if locked s then
          levelHalt (fillStart (setFt s (fun f => { f with pstate := 3, onProg := true, missRun := 0 })))
        else localHalt s ftBlk 0x06 (faultFrame s) s.now 5
      else s
    | none => s
  | 3 => match s.prog with
    | some p =>
      if s.ft.unloadReq || (p.stop != 0 && p.stop == n) then
        fillEnd (setFt s (fun f => { f with ending := true, onProg := false }))
      else levelHalt s
    | none => s
  | _ => setFt s (fun f => { f with onProg := false, ending := f.unloadReq })

/-- The cores of a package halted in PSTATE 0 run again (R566). -/
def coresRun (s : State) : State :=
  if s.ft.pstate = 0 ∧ (s.ft.halted ∨ s.ft.gated ∨ s.ft.stops ≠ []) ∧ !faultValid s ∧ !haltNLow s then
    setFt s (fun f => { f with halted := false, gated := false, stops := [], reached := [] })
  else s

/-! ## Skew (R79-R82) -/

/-- e in tenths of a cc to the nearest cc, ties away from zero (R80). -/
def nearestCc (e : Int) : Int := if e < 0 then -((5 - e) / 10) else (e + 5) / 10
/-- Trim of the boundary slot that follows a frame of skew e (R80). -/
def trimOf (e : Int) : Int := max (-8) (min 8 (nearestCc e))

/-- The marker for frame `fr` is matched, with skew e, delay d and its STRETCH (R79-R81, R88). -/
def judgeSkew (s : State) (fr : Nat) (e : Int) (d stretch : Nat) : State :=
  let inRange := decide (-32768 ≤ e) && decide (e ≤ 32767)
  let (sk, s) := if inRange then (unsignedOf 16 e, s) else draw s 16
  let (dv, s) := fitField s 20 d
  let s := setReg (setReg s ftBlk Off.FTIMER_SKEW sk) ftBlk Off.FTIMER_TICK_DELAY dv
  let warn := decide (200 < e.natAbs)
  let s := setFt s fun f =>
    { f with matched := (fr :: f.matched).take 4, lastE := some (fr, e), goodRun := if warn then 0 else min 16 (f.goodRun + 1),
             stretchFor := (nextFrame fr, stretch) :: (f.stretchFor.filter (fun x => x.1 == f.frame)) }
  let s := if warn then setErr (setRegField s ftBlk Off.FTIMER_TICK_STATUS 1 1 1) ftBlk Err.FTIMER_SKEW_WARN else s
  if 640 < e.natAbs then errFault s ftBlk Err.FTIMER_SKEW_FAULT 0x03 else s

/-! ## The tick -/

/-- Markers of the master for a new frame (R74, R85): its markers carry no stretch. -/
def masterMarker (s : State) : State :=
  match s.prog with
  | some p =>
    if isMaster s then
      setFt s fun f =>
        { f with out := f.out ++ [⟨f.tickAt + 24, 0, p.masterId, f.frame, 240, 0, f.resyncLeft != 0⟩], resyncLeft := f.resyncLeft - 1 }
    else s
  | none => s

/-- Frames from the present one to START_FRAME of an armed program (R521). -/
def framesLeft (s : State) : Option Nat :=
  if s.ft.pstate = 2 ∧ !s.ft.ending then s.prog.map (fun p => frameAhead s.ft.frame p.start) else none

/-- Lane changes that are decided in this boundary slot show in the port capacity vector (R33, R457). -/
def portBoundary (s : State) : State :=
  if s.gports.any (fun (_, g) => swapDecided s g && (match g.swapTo with
      | some (_, _, t) => decide (s.ft.prevTick < t + 128)
      | none => false)) then gnomonBump s
  else s

/-- The actions of cc 0 that follow the change of frame (R70): programs, partitions, refresh, clamp, fill, marker. -/
def tickActions (s : State) (n : Nat) : State :=
  let s := if stacksUp s then refreshTick s else s
  let s := kvTick (coresRun (programTurn s n)) n
  let s := portBoundary (d2dBoundary (partitionTick s))
  let s := clampApply s
  masterMarker (fillAdjust s (framesLeft s))

/-- The frame number, the tick and the trim of the new frame (R70, R80). -/
def newFrame (s : State) (t : Nat) : State :=
  setFt s fun f =>
    { f with tickAt := t, prevTick := f.tickAt, frame := nextFrame f.frame,
             trim := match f.lastE with
               | some (n, e) => if n = f.frame ∧ 2 ≤ f.pstate ∧ !isMaster s then trimOf e else 0
               | none => 0,
             stretchPrev := f.stretch, doneStage := 0, faultedPrev := f.faulted, faulted := false }

/-- A marker that came before its frame's tick is judged at that tick (R79). -/
def earlyMarker (s : State) : State :=
  match s.ft.early with
  | some (fr, arr, d, st) =>
    let s := setFt s (fun f => { f with early := none })
    if fr = s.ft.frame ∧ 2 ≤ s.ft.pstate then judgeSkew s fr ((arr : Int) - d - 10 * s.ft.tickAt) d st else s
  | none => s

/-- Pins that TICK_OUT owns go low for 8 cc at a local tick (R364). -/
def tickOut (s : State) : State := (List.range 4).foldl (fun s k => if evtOwner s k = 3 then pulsePin s k else s) s

/-- LOCAL_TICK (R70) once the frame has run its length. -/
def execLocalTick (s : State) : Host.Outcome State Fault Refusal :=
  .next (if awake s && decide (frameLen s ≤ pos s) then
    let n := s.ft.frame
    let s := tickOut (newFrame s (s.ft.tickAt + frameLen s))
    let s := if running s && s.ft.onProg && !s.ft.halted then overrunCheck s n else s
    let s := rollColumns (rollMesh (rollCores s))
    tickActions (earlyMarker s) n
  else s)

/-! ## cc 44 and cc 45 -/

/-- A marker not matched by cc 44 is missing (R82, R640). -/
def tickMiss (s : State) : State :=
  let s := setFt s (fun f => { f with doneStage := 44 })
  if s.ft.pstate < 2 ∨ isMaster s ∨ s.prog.isNone then s
  else if s.ft.matched.contains (prevFrame s.ft.frame) then setFt s (fun f => { f with missRun := 0 })
  else
    let s := countField s ftBlk Off.FTIMER_TICK_STATUS 31 16 1
    let s := setFt s (fun f => { f with missRun := if f.pstate = 3 then min 8 (f.missRun + 1) else f.missRun })
    if running s ∧ s.ft.missRun = 8 then errFault s ftBlk Err.FTIMER_TICK_LOST 0x05 else s

/-- TICK_MISS (R640): once in a boundary slot, at cc 44. -/
def execTickMiss (s : State) : Host.Outcome State Fault Refusal :=
  .next (if awake s && inBoundary s 44 && decide (s.ft.doneStage < 44) then tickMiss s else s)

/-- The stretch of the frame is fixed (R88, R89, R510, R512): the marker's, the clamp's, or with neither that of the
frame before; at the master, which receives no marker, that is the frame's own of before (DESIGN CHOICE, log entry 57). -/
def stretchFix (s : State) : State :=
  let f := s.ft
  let found := if f.pstate < 2 then some 0 else (f.stretchFor.find? (fun x => x.1 == f.frame)).map Prod.snd
  let mark := found.getD f.markStretch
  let want := if s.th.clamped then max s.th.sReq mark else found.getD f.stretch
  let top := match s.prog with
    | some p => if 2 ≤ f.pstate then p.stretchMax else 200
    | none => 200
  let s := setFt s fun f =>
    { f with stretch := min want top, markStretch := mark, stretchFor := f.stretchFor.filter (fun x => x.1 != f.frame) }
  let s := setTh s fun t =>
    { t with met := t.request && decide (t.sReq ≤ min mark top), graceWon := if t.graceWon = nextFrame f.frame + 1 then t.graceWon else 0 }
  if top < want then setRegField s ftBlk Off.FTIMER_TICK_STATUS 2 2 1 else s

/-- Staged user tables become active (R192). -/
def tablesActivate (s : State) : State :=
  { s with mcores := s.mcores.map (fun (g, m) =>
      (g, { m with tabActive := m.tabStaged.foldl (fun l x => Assoc.put x.1 (some x.2) l) m.tabActive, tabStaged := [] })) }

/-- The actions of cc 45-52 (R70). A program that ended at this tick is unloaded after its last commit, unless a
halt met it first (R565). -/
def boundaryApply (s : State) : State :=
  let s := setFt s (fun f => { f with doneStage := 45 })
  let s := if s.ft.ending then
      if s.ft.unloadReq ∨ s.ft.pstate = 3 then unloadNow s else setFt s (fun f => { f with ending := false })
    else s
  stretchFix (tablesActivate (setFt { s with heldEnable := [] } (fun f => { f with roles := f.frame })))

/-- BOUNDARY_ENABLE_APPLY (R70): once in a boundary slot, from cc 45. -/
def execBoundaryEnableApply (s : State) : Host.Outcome State Fault Refusal :=
  .next (if awake s && inBoundary s 45 && decide (s.ft.doneStage < 45) then boundaryApply s else s)

/-! ## Slot 1 (R127, R196, R403) -/

/-- An M-core starts its program. -/
def mcoreFrameStart (s : State) (g : Nat) : State :=
  match sectionOf s 4 g with
  | some b =>
    setMc s g fun m =>
      let m' := mcoreClear m
      { m' with running := true, bases := tileBases b }
  | none => s
/-- A V-core starts its program. -/
def vcoreFrameStart (s : State) (v : Nat) : State :=
  setVc s v fun m =>
    let m' := vcoreClear m
    { m' with running := true }

/-- A unit that is good and enabled starts its frame program; any other starts nothing. -/
def unitStart (s : State) (b : Nat) : State :=
  if good s b && enabled s b then
    match typeOf b with
    | 3 => mcoreFrameStart s (instOf b)
    | 4 => vcoreFrameStart s (instOf b)
    | 6 => moverFrameStart s (instOf b)
    | _ => s
  else s

/-- The Zeleri delay probe of slot 1 (R478). -/
def zlProbe (s : State) : State :=
  if zlUp s && s.ft.frame % 16 == 0 then setZl s (fun z => { z with ctrl := probeBlock :: z.ctrl }) else s

/-- SLOT1_START (R127, R196, R403): once in a frame, from cc 0 of slot 1. -/
def execSlot1Start (s : State) : Host.Outcome State Fault Refusal :=
  .next (if awake s && decide (1 ≤ slotNow s) && decide (s.ft.doneStage < 64) then
    let s := zlProbe (setFt s (fun f => { f with doneStage := 64 }))
    match s.prog with
    | some p => if running s && s.ft.onProg && !s.ft.halted then (unitBlocks p).foldl unitStart s else s
    | none => s
  else s)

/-- SERVICE_SLOT_ENTRY (R65): what is held at its entry point enters, in arrival order. While the hub works and no frame
runs, as in Tripped and in recovery, every slot lets it in (R517, R604; DEDUCED, log entry 80). -/
def execServiceSlotEntry (s : State) : Host.Outcome State Fault Refusal :=
  .next (if hubUp s && (serviceOpen s || !awake s) then
    let s := { s with packets := s.packets.map (fun p => if p.ready ≤ s.now then { p with entered := true } else p) }
    setChord s fun c =>
      { c with msgs := c.msgs.map (fun m =>
          if m.held && decide (m.ready ≤ s.now) then
            { m with held := false, ready := s.now + 1,
                     landed := if m.src = m.node then some (s.now + 3 + 2 * (m.id - m.pkt)) else none }
          else m) }
  else s)

/-! ## Loading (R90-R96) -/

/-- The image's address (R106). -/
def progBase (s : State) : Nat := getReg s ftBlk Off.FTIMER_PROG_BASE_LO + 2 ^ 32 * getReg s ftBlk Off.FTIMER_PROG_BASE_HI

/-- Begin a load (R96, R566). -/
def loadAct (s : State) : State :=
  if !awake s then s
  else if s.ft.pstate ≠ 0 then loadCode s 0x0A
  else if faultValid s || haltNLow s then loadCode s 0x0D
  else
    let s := setFt s (fun f => { f with pstate := 1 })
    if s.power = .ready then setPower s .run else s

/-- LOAD (R96). -/
def execLoad (s : State) : Host.Outcome State Fault Refusal := .next (loadAct s)

/-- PROG_CMD 2 (R106). -/
def unloadAct (s : State) : State := if s.ft.pstate = 0 then s else setFt s (fun f => { f with unloadReq := true })

/-- UNLOAD (R106). -/
def execUnload (s : State) : Host.Outcome State Fault Refusal := .next (if awake s then unloadAct s else s)

/-- Addresses that stand for a span: its ends, and each 16 MiB boundary within it. -/
def spanPoints (a n : Nat) : List Nat :=
  a :: (a + max n 1 - 1) :: (List.range ((a + n) / 2 ^ 24 - a / 2 ^ 24)).map (fun k => (a / 2 ^ 24 + k + 1) * 2 ^ 24 - 1)
/-- The span lies in populated direct DRAM or SLM scratchpad (R96, code 0x0F). -/
def imageSpan (s : State) (a n : Nat) : Bool :=
  (spanPoints a n).all fun x => populated s x && (match placeOf x with
    | .slm _ => true
    | .dram _ _ => true
    | _ => false)

/-- The range of R95 that an address lies in. -/
def dataPart (a : Nat) : Option (Nat × Nat) :=
  match placeOf a with
  | .slm _ => some (0, 0)
  | .dram _ _ => some (1, 0)
  | .mstore g o => some (2, 2 * g + b2n (decide (accOff ≤ o)))
  | .vmem v _ => some (3, v)
  | _ => none
/-- A data image that R95 allows. -/
def dataOk (s : State) (b : List Byte) : Bool :=
  let a := bytesAt b 0 8
  let n := b.length - 8
  decide (8 ≤ b.length) && decide (n % 32 = 0) && decide (a < 2 ^ 48) && decide (a % 32 = 0) && (dataPart a).isSome
    && (spanPoints a n).all (fun x => populated s x && dataPart x == dataPart a)

/-- The smallest refresh reservation (R69). -/
def nRef (f stretchMax refreshAct : Nat) : Nat := ceilDiv (8192 * (f + stretchMax)) 100000 + refreshAct

/-- Positions of a class in a map. -/
def classSlots (map : List Nat) (c : Nat) : List Nat := (List.range map.length).filter (fun k => nth map k == c)
/-- Distances from each SERVICE slot to the next, on into the following frame (R68). -/
def serviceGaps : List Nat → Nat → Nat → List Nat
  | [], _, _ => []
  | [x], first, f => [first + f - x]
  | x :: y :: r, first, f => (y - x) :: serviceGaps (y :: r) first f
/-- The slot class map meets R68. -/
def mapOk (map : List Nat) (stretchMax refreshAct : Nat) : Bool :=
  let cal := classSlots map 3
  let svc := classSlots map 6
  map.all (fun c => decide (c ≤ 6)) && classSlots map 0 == [0] && cal.length == 2 && nth cal 1 == nth cal 0 + 1
    && (classSlots map 4).length == 1 && (classSlots map 5).length == 1
    && decide (1 ≤ refreshAct) && decide (nRef map.length stretchMax refreshAct ≤ (classSlots map 2).length)
    && decide (svc ≠ []) && (serviceGaps svc (nth svc 0) map.length).all (fun g => decide (g ≤ 50))

/-- A directory entry (R91). -/
structure DirEntry where
  kind : Nat
  ty : Nat
  inst : Nat
  off : Nat
  len : Nat
deriving DecidableEq, Repr
def dirOf (img : List Byte) (k : Nat) : DirEntry :=
  let o := 128 + 16 * k
  ⟨bytesAt img o 2, bytesAt img (o + 2) 2, bytesAt img (o + 4) 2, bytesAt img (o + 8) 4, bytesAt img (o + 12) 4⟩
def dirEntries (img : List Byte) : List DirEntry := (List.range (bytesAt img 0x0E 2)).map (dirOf img)
/-- Contents of a section. -/
def dirBody (img : List Byte) (e : DirEntry) : List Byte := (img.drop e.off).take e.len

/-- Code 0x01 (R96). -/
def headerBad (img : List Byte) : Bool :=
  let total := bytesAt img 8 4
  bytesAt img 0 4 != 0x47504D46 || bytesAt img 0x0C 2 != 0x80 || decide (total < 0x80) || decide (0x40000000 < total)
    || !zeroSpan img 0x1A 6 || !zeroSpan img 0x38 8 || !zeroSpan img 0x55 3 || !zeroSpan img 0x60 32
    || decide (2 ^ 48 ≤ bytesAt img 0x20 8) || decide (2 ^ 48 ≤ bytesAt img 0x28 8)
    || decide (total < 128 + 16 * bytesAt img 0x0E 2)
    || crc32 (splice img 0x5C (List.replicate 4 0)) != bytesAt img 0x5C 4

/-- Code 0x08 for one entry (R92, R96). -/
def entryBad (s : State) (img : List Byte) (e : DirEntry) : Bool :=
  let total := bytesAt img 8 4
  decide (e.off % 64 ≠ 0) || decide (e.off < 128 + 16 * bytesAt img 0x0E 2) || decide (total < e.off + e.len) ||
    (match kindType e.kind with
      | none => true
      | some ty => e.ty != ty || (if ty = 0 then e.inst != 0 else decide (typeCount ty ≤ e.inst) || !good s (blk ty e.inst)))
/-- Two entries that may not stand together. -/
def entriesClash (a b : DirEntry) : Bool :=
  spansMeet a.off a.len b.off b.len || (a.kind == b.kind && a.inst == b.inst && a.kind != 11)
def noClash : List DirEntry → Bool
  | [] => true
  | e :: r => r.all (fun x => !entriesClash e x) && noClash r

/-- The program of an image whose header and map are good. -/
def programOf (img : List Byte) (map : List Nat) : Program where
  slots := bytesAt img 0x14 2
  stretchMax := bytesAt img 0x16 2
  refreshAct := bytesAt img 0x18 2
  start := bytesAt img 0x20 8
  stop := bytesAt img 0x28 8
  programId := bytesAt img 0x30 8
  domainId := bytesAt img 0x50 2
  masterId := bytesAt img 0x52 2
  tickParent := bytesAt img 0x54 1
  tickChildren := bytesAt img 0x58 4
  map := map
  sections := (dirEntries img).map (fun e => ⟨e.kind, e.ty, e.inst, dirBody img e⟩)

/-- The checks of R96 on an image read whole, in their order, up to the data images: the first code that fails,
with the refusing unit of code 0x09, or the program. -/
def checkImage (s : State) (img : List Byte) : Sum (Nat × Option Nat) Program :=
  let f := bytesAt img 0x14 2
  let tp := bytesAt img 0x54 1
  let kids := bytesAt img 0x58 4
  let dir := dirEntries img
  let maps := dir.filter (fun e => e.kind == 1)
  let map := ((maps.map (dirBody img)).flatten).map BitVec.toNat
  let p := programOf img map
  let bad := (p.sections.filter (fun x => !sectionOk s p x)).map (fun x => blk x.ty x.inst)
  let total := bytesAt img 8 4
  if headerBad img then .inl (0x01, none)
  else if bytesAt img 6 2 ≠ 1 then .inl (0x02, none)
  else if (img.drop 0x10).take 2 ≠ siliconSet then .inl (0x03, none)
  else if s.shape.level < max 1 (bytesAt img 0x12 2) then .inl (0x04, none)
  else if f < 50 ∨ 3200 < f ∨ f < p.stretchMax then .inl (0x06, none)
  else if !(decide (tp ≤ 19) || tp == 0x40 || tp == 0xFE) ∨ 2 ^ 20 ≤ kids ∨ (tp ≤ 19 ∧ kids.testBit tp) then .inl (0x0C, none)
  else if maps.length ≠ 1 ∨ !maps.all (fun e => e.len == f) ∨
      (maps.all (fun e => decide (e.off + e.len ≤ total)) ∧ !mapOk map p.stretchMax p.refreshAct) then .inl (0x07, none)
  else if (img.drop 0x40).take 16 ≠ shapeDigest s then .inl (0x05, none)
  else if dir.any (entryBad s img) ∨ !noClash dir then .inl (0x08, none)
  else match sortNats bad with
    | b :: _ => .inl (0x09, some b)
    | [] =>
      if (p.sections.filter (fun x => x.kind == 11)).any (fun x => !dataOk s x.body) then .inl (0x0E, none)
      else if p.stop ≠ 0 ∧ frameLater p.stop p.start then .inl (0x0B, none)
      else .inr p

/-- The load ends with a code other than 0 (R96, R107). -/
def loadRefused (s : State) (code : Nat) (unit : Option Nat) : State :=
  let s := match unit with
    | some b => setReg s ftBlk Off.FTIMER_OVERRUN_UNIT (2 ^ 31 + b)
    | none => s
  toIdle (loadCode s code)

/-- One data image written (R95): no scheduled traffic, no signature record. -/
def writeData (s : State) (b : List Byte) : State := (memWrite s (direct (bytesAt b 0 8)) (b.drop 8) true).1

/-- The program is armed (R83, R106, R213, R372): units at their starting state, tables and directory taken. -/
def armProgram (s : State) (p : Program) : State :=
  let s := unitsClear { s with prog := some p, ctrlWords := s.ctrlWords.filter (fun w => !sectionBlock p w.1) }
  let s := setFt s fun f =>
    { f with pstate := 2, code := 0, goodRun := 0, missRun := 0, matched := [], lastE := none, early := none, resyncLeft := 0,
             out := [], stretchFor := [], markStretch := 0 }
  let s := (p.sections.filter (fun x => x.kind == 5)).foldl (fun s x =>
    let (s, d, _) := memRead s (vmemAddr x.inst 0x3FFFF8) 8
    setVc s x.inst (fun m => { m with csrSat := bitOf (leNat d) 0 })) s
  match kvCfg s with
  | some g =>
    let s := dirRead s g
    let pinned := (liveCandidates s g).eraseDups.filter (fun h => decide (h < g.handles) && entPinned (kvEntry s g h) && entState (kvEntry s g h) == 1)
    setKv s (fun _ => { Prefix.init with framePins := sortNats pinned })
  | none => setKv s (fun _ => Prefix.init)

/-- The image as loading reads it: header, then the whole when TOTAL_SIZE is in range (R96, code 0x0F). -/
def readImage (s : State) : State × Option (List Byte) :=
  let base := progBase s
  if !imageSpan s base 128 then (s, none)
  else
    let (s, h, _) := memRead s base 128
    let total := bytesAt h 8 4
    if total < 0x80 ∨ 0x40000000 < total then (s, some h)
    else if !imageSpan s base total then (s, none)
    else
      let (s, img, _) := memRead s base total
      (s, some img)

/-- LOAD_COMPLETE (R95, R96): in a SERVICE slot of the idle schedule. -/
def execLoadComplete (s : State) : Host.Outcome State Fault Refusal :=
  .next (if awake s && decide (s.ft.pstate = 1) && classNow s == 6 then
    let (s, img) := readImage s
    match img with
    | none => loadRefused s 0x0F none
    | some b => match checkImage s b with
      | .inl (code, unit) => loadRefused s code unit
      | .inr p =>
        let s := (p.sections.filter (fun x => x.kind == 11)).foldl (fun s x => writeData s x.body) s
        if frameLater s.ft.frame p.start then armProgram s p else loadRefused s 0x0B none
  else s)

/-! ## Tick markers -/

/-- A marker (R75): HOPS past 255 stays 255 (DESIGN CHOICE, log entry 57). -/
def markerBlock (kind : Nat) (m : MarkerOut) : BitVec 128 :=
  let x := kind * 2 ^ 120 + min 255 m.hops * 2 ^ 112 + m.masterId % 2 ^ 16 * 2 ^ 96 + m.frame % 2 ^ 48 * 2 ^ 48
    + m.delay % 2 ^ 20 * 2 ^ 28 + m.stretch % 2 ^ 12 * 2 ^ 16 + b2n m.resync * 2 ^ 8
  BitVec.ofNat 128 (x + crc8 x 127 8)

/-- The block's CHECK is good. -/
def checkGood (m : BitVec 128) : Bool := crc8 m.toNat 127 8 == fieldOf m.toNat 7 0

/-- Links that carry markers: the Garlet ports, and 0x40 for Zeleri (R75, R478). -/
def linkThere (link : Nat) : Bool := decide (link < gportCount) || link == 0x40
/-- The link is up. -/
def linkUp (s : State) (link : Nat) : Bool :=
  if link = 0x40 then zlUp s else gpLive s link && decide (5 ≤ (gp s link).tstate)
/-- Stored one-way delay of a link (R77, R478). -/
def storedDelay (s : State) (link : Nat) : Nat :=
  if link = 0x40 then regField s zlBlk Off.ZLINK_DELAY 19 0 else regField s (gpBlk link) Off.GPORT_DELAY 19 0
/-- A received block's row has come. -/
def takeBlock (s : State) (link : Nat) (m : BitVec 128) : State :=
  if link = 0x40 then setZl s (fun z => { z with ctrlIn := z.ctrlIn.erase m }) else takeCtrl s link m

/-- A command on a link that the package does not have stops. -/
def onLink (link : Nat) (s : State) (f : State → State) : Host.Outcome State Fault Refusal :=
  if linkThere link then .next (f s) else .fault .noSuchUnit

/-- A marker that was matched goes on to the children (R74, R78): 24 cc after the cc that holds its arrival (DESIGN
CHOICE, log entry 57). -/
def forwardMarker (s : State) (x arr d : Nat) : State :=
  let (dv, s) := fitField s 20 (d + 240)
  setFt s fun f =>
    { f with out := f.out ++ [⟨arr / 10 + 24, fieldOf x 119 112 + 1, fieldOf x 111 96, fieldOf x 95 48, dv, fieldOf x 27 16,
                               bitOf x 8⟩] }

/-- A valid marker on the tick parent (R79-R81, R640): matched to the frame before, the present or the next one, or
a mismatch. One whose STRETCH meets the clamp's request may win against the grace timer (R511). -/
def matchMarker (s : State) (x arr d : Nat) : State :=
  let fr := fieldOf x 95 48
  let st := fieldOf x 27 16
  let cur := s.ft.frame
  let s := graceArrival s (nextFrame fr) st
  if fr = nextFrame cur then forwardMarker (setFt s (fun f => { f with early := some (fr, arr, d, st) })) x arr d
  else if fr = cur then forwardMarker (judgeSkew s fr ((arr : Int) - d - 10 * s.ft.tickAt) d st) x arr d
  else if fr = prevFrame cur ∧ arr < 10 * (s.ft.tickAt + 45) then
    let e : Int := (arr : Int) - d - 10 * s.ft.prevTick
    forwardMarker (setFt (judgeSkew s fr e d st) (fun f => { f with trim := trimOf e })) x arr d
  else if running s then errFault s ftBlk Err.FTIMER_FRAME_MISMATCH 0x04
  else s

/-- Does the link carry this program's markers (R76, R640)? -/
def parentMarker (s : State) (link x : Nat) : Bool := match s.prog with
  | some p => decide (2 ≤ s.ft.pstate) && p.tickParent == link && p.masterId == fieldOf x 111 96
  | none => false

/-- TICK_MARKER (R76, R640): `arr` in units of 0.125 ns; a marker of a replayed group is missing (R586). -/
def execTickMarker (link : Nat) (m : BitVec 128) (arr : Nat) (replay : Bool) (s : State) : Host.Outcome State Fault Refusal :=
  onLink link s fun s =>
    let x := m.toNat
    if awake s && linkUp s link && fieldOf x 127 120 == 1 && checkGood m && !bitOf x 8 then
      let s := takeBlock s link m
      if !replay && parentMarker s link x then matchMarker s x arr (fieldOf x 47 28 + storedDelay s link) else s
    else s

/-- TICK_MARKER_SEND (R74): markers whose cc has come leave on every child port. -/
def execTickMarkerSend (s : State) : Host.Outcome State Fault Refusal :=
  .next (if awake s then
    let due := s.ft.out.filter (fun m => decide (m.due ≤ s.now))
    let s := setFt s (fun f => { f with out := f.out.filter (fun m => decide (s.now < m.due)) })
    if s.ft.pstate < 2 then s
    else due.foldl (fun s m => (childPorts s).foldl (fun s k => sendCtrlNow s k (markerBlock 1 m)) s) s
  else s)

/-! ## RESYNC (R85) -/

/-- The boundary-slot actions that a moved tick places in the past, in their order. -/
def pastActions (s : State) : State :=
  let at_ (cc : Nat) (s : State) : Bool := decide (cc ≤ pos s) && decide (s.ft.doneStage < cc)
  let s := if at_ 21 s then skewClose s else s
  let s := if at_ 28 s then eventSettle s else s
  let s := if at_ 29 s then commitNow s else s
  if at_ 45 s then boundaryApply s else s

/-- The package takes a frame number and a tick (R85): an armed program whose START_FRAME it reaches is cancelled, and
the actions of a new frame number are performed. -/
def moveTick (s : State) (fr tick : Nat) : State :=
  let same := decide (fr = s.ft.frame)
  let s := setFt s fun f =>
    { f with frame := fr, tickAt := tick, prevTick := tick - 64 * fSlots s, trim := 0, doneStage := if same then f.doneStage else 0,
             early := none, matched := [prevFrame fr], lastE := none, stretchFor := [] }
  let s := match s.prog with
    | some p => if s.ft.pstate = 2 ∧ !frameLater fr p.start then unloadNow (loadCode s 0x0B) else s
    | none => s
  pastActions (if same then s else tickActions (if tick = s.now then tickOut s else s) (prevFrame fr))

/-- A marker of frame `fr` and its tick, in 0.125 ns, agree with the package's own, within the skew bound (R85): those of the
present frame, the next, or the frame just ended. -/
def tickAgrees (s : State) (fr : Nat) (t : Int) : Bool :=
  let near (f tick : Nat) : Bool := decide (fr = f) && decide ((t - 10 * tick).natAbs ≤ 200)
  near s.ft.frame s.ft.tickAt || near (nextFrame s.ft.frame) (s.ft.tickAt + frameLen s) || near (prevFrame s.ft.frame) s.ft.prevTick

/-- The marker carries the MASTER_ID of the loaded program; with none loaded every marker does (R76, R85). -/
def masterMatch (s : State) (x : Nat) : Bool := match s.prog with
  | some p => p.masterId == fieldOf x 111 96
  | none => true

/-- RESYNC_MARKER (R85): a tick place between two cc is taken at the nearest, and never later than now (DESIGN CHOICE,
log entry 57). In PSTATE 3 and 4 a valid one is counted. -/
def execResyncMarker (link : Nat) (m : BitVec 128) (arr : Nat) (s : State) : Host.Outcome State Fault Refusal :=
  onLink link s fun s =>
    let x := m.toNat
    if awake s && linkUp s link && fieldOf x 127 120 == 1 && checkGood m && bitOf x 8 then
      let s := takeBlock s link m
      let d := fieldOf x 47 28 + storedDelay s link
      let fr := fieldOf x 95 48
      let tick := (nearestCc ((arr : Int) - d)).toNat
      let agrees := tickAgrees s fr ((arr : Int) - d)
      if s.ft.pstate < 2 then
        if agrees then s else moveTick s fr (min s.now tick)
      else if 3 ≤ s.ft.pstate then (if masterMatch s x then countField s ftBlk Off.FTIMER_TICK_STATUS 15 8 1 else s)
      else if !parentMarker s link x then s
      else if agrees then matchMarker s x arr d
      else
        let s := moveTick s fr (min s.now tick)
        if s.ft.pstate = 2 then matchMarker s x arr d else s
    else s

/-- RESYNC_CMD (R85, R106): the master only. -/
def resyncAct (s : State) (count : Nat) : State :=
  if isMaster s && decide (count % 64 ≠ 0) then setFt s (fun f => { f with resyncLeft := 32 }) else s
def execResyncCmd (count : Nat) (s : State) : Host.Outcome State Fault Refusal := .next (if awake s then resyncAct s count else s)

/-! ## Delay probes and echoes (R77, R446, R478) -/

/-- DELAY_PROBE: the echo is due 24 cc later. -/
def execDelayProbe (port : Nat) (m : BitVec 128) (s : State) : Host.Outcome State Fault Refusal :=
  onUnit gportCount port s fun s =>
    if linkUp s port && fieldOf m.toNat 127 120 == 2 && checkGood m then
      setGp (takeCtrl s port m) port (fun g => { g with echoDue := some (s.now + 24) })
    else s

/-- DELAY_ECHO_SEND: in its cc, unless a tick marker holds it. -/
def execDelayEchoSend (port : Nat) (s : State) : Host.Outcome State Fault Refusal :=
  onUnit gportCount port s fun s =>
    match (gp s port).echoDue with
    | some t =>
      if t = s.now then
        let s := setGp s port (fun g => { g with echoDue := none })
        if ctrlHeld s port || !linkUp s port then s else sendCtrlNow s port (markerBlock 3 ⟨0, 0, 0, 0, 0, 0, false⟩)
      else s
    | none => s

/-- DELAY_ECHO (R77): the one-way delay of the link, in units of 0.125 ns; half of an odd figure is rounded down (DESIGN
CHOICE, log entry 57). -/
def execDelayEcho (link : Nat) (m : BitVec 128) (arr : Nat) (s : State) : Host.Outcome State Fault Refusal :=
  onLink link s fun s =>
    if linkUp s link && fieldOf m.toNat 127 120 == 3 && checkGood m then
      let s := takeBlock s link m
      if link = 0x40 then
        match s.zl.probeAt with
        | some t =>
          let (d, s) := fitField s 20 ((arr - t - fieldOf m.toNat 47 28) / 2)
          setReg (setZl s (fun z => { z with probeAt := none })) zlBlk Off.ZLINK_DELAY d
        | none => s
      else
        match (gp s link).probeAt with
        | some t =>
          let (d, s) := fitField s 20 ((arr - 10 * t - 240) / 2)
          setReg (setGp s link (fun g => { g with probeAt := none })) (gpBlk link) Off.GPORT_DELAY d
        | none => s
    else s

end Sys2Proof.Machine
end

