-- ==== Sys2Proof/Machine/BringUp.lean ====
section
/-! DEFINITION. Bring-up (17): PERST_N, the way out of retention hold, the merge of the defect lists and the
repair of bad units (R545-R551), readiness (R556) and the publication of the Gnomon (R539). -/

namespace Sys2Proof.Machine

/-! ## PERST_N and Hold -/

/-- VAUX stands within its tolerance by one of its paths (R496, R537). -/
def vauxGood (s : State) : Bool := (rail s 40).mainGood || (rail s 40).backupGood

/-- PERST_RISE (R537, R620, R623, R632): with VAUX there the straps are sampled, a cold bring-up begins with RAIL_REQ_0
high, and the boundary instructions act as BYPASS; a package that samples FACTORY high stays in reset. -/
def execPerstRise (addrStraps : Nat) (factory : Bool) (s : State) : Host.Outcome State Fault Refusal :=
  .next (if s.power == .off && !s.pins.perstHigh && vauxGood s then
    let s := setPins s (fun p => { p with straps := addrStraps % 4, factory := factory, perstHigh := !factory,
                                          jtag := if factory || decide (p.jtag < 2) then p.jtag else 0 })
    if factory then s
    else
      let s := setSup s (fun u => { u with rails := u.rails.filter (fun x => decide (32 < x.1)), coreOff := true })
      { (setShape s (fun h => { h with step := 1, warm := false })) with power := .aux }
  else s)

/-- PACKAGE_RESET (R536, R624). -/
def execPackageReset (s : State) : Host.Outcome State Fault Refusal :=
  .next (packageOff (setPins s (fun p => { p with perstHigh := false })))

/-- The cause of Hold has cleared (R541): after a rail loss every VCORE and VHUB has stood within tolerance for 10 ms, and
after an activation RAIL_REQ_0 has been high as long. -/
def holdOver (s : State) : Bool :=
  if s.sup.holdCause = 1 then (List.range 33).all (fun r => (rail s r).mainGood && decide ((rail s r).switchedAt + 10 * cc1ms ≤ s.now))
  else decide (s.sup.holdAt + 10 * cc1ms ≤ s.now)

/-- WARM_BRING_UP (R541): out of Hold once its cause has cleared; warm when DRAM was retained. -/
def execWarmBringUp (s : State) : Host.Outcome State Fault Refusal :=
  .next (if s.power == .hold && s.sup.selfRefresh && !s.sup.ended && holdOver s then
    let s := setSup s (fun u => { u with coreOff := true })
    { (setShape s (fun h => { h with step := 1, warm := s.sup.retained })) with power := .aux }
  else s)

/-! ## The defect list -/

/-- Rows of a column. A bad spare row n is noted as row 524,288 + n: it has no place in the map (DESIGN CHOICE, log entry
78). -/
def rowPlaces : Nat := 524288

/-- A defect names a unit that exists (R551), or a spare row. -/
def defectOk (d : Defect) : Bool :=
  let t := typeOf d.block
  decide (d.block < blockCount) && (match d.unit with
    | 1 => d.pos == 0
    | 2 => t == Ty.MCORE && decide (d.pos < 1024) && decide (d.pos % 256 < 130)
    | 3 => t == Ty.COLCTL && decide (d.pos < 2048)
    | 4 => t == Ty.COLCTL && decide (d.pos < 256)
    | 5 => t == Ty.COLCTL && decide (d.pos < 96)
    | 6 => t == Ty.COLCTL && decide (d.pos < rowPlaces + 1024)
    | 7 => t == Ty.D2D && decide (d.pos < 64) && decide (d.pos % 32 < 23)
    | 8 => t == Ty.GPORT && decide (d.pos < 9)
    | 9 => t == Ty.ZLINK && decide (d.pos < 16)
    | 10 => (t == Ty.STACK || t == Ty.HUB) && decide (d.pos < 524)
    | _ => false)

/-- A defect joins the list under its source, unless an earlier source has named it (R545, R546, R550). -/
def addKnown (src : Nat) (l : List DefectEntry) (d : Defect) : List DefectEntry :=
  if !defectOk d || l.any (fun x => x.block == d.block && x.unit == d.unit && x.pos == d.pos) then l
  else insertDefect ⟨d.block, d.unit, src, d.pos, 0xFFFF, 2⟩ l

/-- Value of a sensor's first read. -/
def firstRead (s : State) (reads : List Int) (i : Nat) : Option Int :=
  reads[i]?.map (fun v => v + sensorOffset s i)

/-- Block that holds a sensor. -/
def sensorBlk (i : Nat) : Nat := if sensorStack i < 32 then blk Ty.STACK (sensorStack i) else blk Ty.HUB 0

/-- What the tests of this bring-up found (R542-R544): the DRAM row test runs only cold. -/
def testDefects (s : State) (i : BringUpIn) : List Defect :=
  i.fails.filter (fun d => !(s.shape.warm && d.unit == 6))
    ++ i.d2dBad.map (fun (e, h, k) => ⟨blk Ty.D2D e, 7, 32 * h + k⟩)
    ++ i.peers.flatMap (fun p => if p.port < gportCount then
        ((List.range 9).filter (fun k => !p.ownMask.testBit k)).map (fun k => ⟨blk Ty.GPORT p.port, 8, k⟩) else [])
    ++ (List.range 524).filterMap (fun k => match firstRead s i.reads k with
        | some v => if v < -320 ∨ 2400 < v then some ⟨sensorBlk k, 10, k⟩ else none
        | none => none)

/-- The union of the three sources, in map order. -/
def knownDefects (s : State) (i : BringUpIn) : List DefectEntry :=
  let l := s.shape.fuseDefects.foldl (addKnown 1) []
  let l := ((s.shape.fieldDefects ++ s.shape.heldDefects).map FieldEntry.defect).foldl (addKnown 3) l
  (testDefects s i).foldl (addKnown 2) l

/-- Positions of one kind of unit that a block's entries name, ascending. -/
def unitsBad (l : List DefectEntry) (b unit : Nat) : List Nat :=
  (l.filter (fun x => x.block == b && x.unit == unit)).map DefectEntry.pos

/-! ## Repairs (R549) -/

/-- The spare at a rank among those that are good. -/
def spareAt (spares : List Nat) (rank : Nat) : Nat × Nat :=
  match spares[rank]? with
  | some n => (n, 0)
  | none => (0xFFFF, 1)

/-- Connection mask of a Garlet port before its training ends: the lanes not listed, and the peer's. -/
def gpOwnMask (l : List DefectEntry) (p : Nat) : Nat :=
  (unitsBad l (blk Ty.GPORT p) 8).foldl (fun m k => if m.testBit k then m - 2 ^ k else m) 0x1FF
def gpConnMask (l : List DefectEntry) (i : BringUpIn) (p : Nat) : Nat :=
  gpOwnMask l p &&& ((i.peers.find? (fun x => x.port == p)).map GarletPeer.peerMask).getD 0x1FF

/-- Lanes that a die-to-die end holds good: bit 23 × half + lane; none for an end that is itself bad. -/
def d2dOwnMask (l : List DefectEntry) (e : Nat) : Nat :=
  let b := blk Ty.D2D e
  if unitsBad l b 1 = [] then
    (unitsBad l b 7).foldl (fun m k => let n := 23 * (k / 32) + k % 32; if m.testBit n then m - 2 ^ n else m) (2 ^ 46 - 1)
  else 0
def d2dConnMask (l : List DefectEntry) (e : Nat) : Nat := d2dOwnMask l e &&& d2dOwnMask l (d2dPeer e)

/-- Has the entry a place in the defect map (R551)? -/
def inMap (x : DefectEntry) : Bool := !(x.unit == 6 && decide (rowPlaces ≤ x.pos))
/-- Spare rows of a column found bad (R269). -/
def spareRowsBad (l : List DefectEntry) (b : Nat) : List Nat := ((unitsBad l b 6).filter (fun p => decide (rowPlaces ≤ p))).map (· - rowPlaces)

/-- SPARE and OUTCOME of an entry (R111, R269, R305, R452, R549). -/
def repairOf (l : List DefectEntry) (i : BringUpIn) (d : DefectEntry) : Nat × Nat :=
  let peers := unitsBad l d.block d.unit
  match d.unit with
  | 1 => (0xFFFF, 1)
  | 2 =>
    let ru := peers.filter (fun p => p / 256 == d.pos / 256)
    if 128 ≤ d.pos % 256 then (0xFFFF, 2)
    else spareAt ([128, 129].filter (fun n => !ru.contains (256 * (d.pos / 256) + n))) (ru.filter (· < d.pos)).length
  | 3 | 4 =>
    let g := if d.unit = 3 then d.pos / 256 else d.pos / 32
    let bad := unitsBad l d.block 5
    let data := (unitsBad l d.block 3).filter (fun p => p / 256 == g)
    let rank := if d.unit = 3 then (data.filter (· < d.pos)).length
      else data.length + ((unitsBad l d.block 4).filter (fun p => p / 32 == g && decide (p < d.pos))).length
    spareAt (((List.range 12).map (fun j => 12 * g + j)).filter (fun n => !bad.contains n)) rank
  | 6 =>
    if rowPlaces ≤ d.pos then (0xFFFF, 2)
    else spareAt (((List.range 32).map (fun j => 32 * (d.pos % 32) + j)).filter (fun n => !(spareRowsBad l d.block).contains n)) (peers.filter (fun p => p % 32 == d.pos % 32 && decide (p < d.pos))).length
  | 7 =>
    let e := instOf d.block
    if badLanes (d2dConnMask l e) (d.pos / 32) = [d.pos % 32] ∧ d.pos % 32 < 22 then (22, 0) else (0xFFFF, 2)
  | 8 => if maskWidth (gpConnMask l i (instOf d.block)) = 2 ∧ d.pos ≠ 8 then (0xFFFF, 0) else (0xFFFF, 2)
  | _ => (0xFFFF, 2)

/-- The list with its repairs. -/
def repaired (l : List DefectEntry) (i : BringUpIn) : List DefectEntry :=
  l.map (fun d => let (sp, o) := repairOf l i d; { d with spare := sp, outcome := o })

/-! ## Blocks that are not good (R549, R550, R504) -/

/-- M-core that owns a column (R14). -/
def colOwner (c : Nat) : Nat := 4 * (c / 16) + c % 16 / 4

/-- Entries by which a block is not good: its own, and for an M-core those of a column of its own that is
not good and of a sensor pair that is dead. -/
def badCauses (l : List DefectEntry) (b : Nat) : List DefectEntry :=
  let own := l.filter (fun x => x.block == b)
  let g := instOf b
  let own := if own.any (fun x => x.outcome == 1) then own else []
  if typeOf b = Ty.MCORE then
    let cols := l.filter (fun x => typeOf x.block == Ty.COLCTL && colOwner (instOf x.block) == g)
    let gone := ((cols.filter (fun x => x.outcome == 1)).map DefectEntry.block).eraseDups
    let pair := l.filter (fun x => x.unit == 10 && (x.pos == 2 * g || x.pos == 2 * g + 1))
    let cause := own ++ cols.filter (fun x => gone.contains x.block) ++ (if 2 ≤ pair.length then pair else [])
    if cause = [] then [] else cause ++ l.filter (fun x => x.block == b)
  else own

/-- STATE_DETAIL of a block not good (R550); 0 for a good block. -/
def badDetail (l : List DefectEntry) (b : Nat) : Nat :=
  let c := (badCauses l b).map DefectEntry.source
  if c = [] then 0 else if c.contains 1 then 1 else if c.contains 3 then 3 else 2

/-- Blocks that some entry may make not good. -/
def suspects (l : List DefectEntry) : List Nat :=
  (l.flatMap (fun x =>
    if typeOf x.block = Ty.COLCTL then [x.block, blk Ty.MCORE (colOwner (instOf x.block))]
    else if x.unit = 10 ∧ x.pos < 256 then [x.block, blk Ty.MCORE (x.pos / 2)] else [x.block])).eraseDups

/-- The blocks not good with their detail. -/
def badBlocks (l : List DefectEntry) : List (Nat × Nat) :=
  ((suspects l).map (fun b => (b, badDetail l b))).filter (fun x => x.2 != 0)

/-- A block not good carries a UNIT 1 entry (R551). -/
def withWhole (l : List DefectEntry) (bad : List (Nat × Nat)) : List DefectEntry :=
  bad.foldl (fun l (b, det) =>
    if l.any (fun x => x.block == b && x.unit == 1) then l else insertDefect ⟨b, 1, det, 0, 0xFFFF, 1⟩ l) l

/-! ## The cold plate (R523-R528) -/

/-- A record of 64 bytes whose CRC holds. -/
def crcHolds (r : List Byte) : Bool := r.length == 64 && crc32 (r.take 60) == bytesAt r 0x3C 4

/-- The plate's memory read (R528); counts held in the hub stay with their plate (R526), and with no valid wear record
there are none. -/
def readPlate (s : State) (i : Option PlateRead) : State :=
  let r := i.getD ⟨[], [], []⟩
  let va := crcHolds r.recA
  let vb := crcHolds r.recB
  let slotB := vb && (!va || decide (bytesAt r.recA 0 4 < bytesAt r.recB 0 4))
  let rec_ := if slotB then r.recB else if va then r.recA else []
  let ok := crcHolds r.ident && bytesAt r.ident 0 4 == 0x4C48524F && (va || vb)
  let keep := s.plate.present && !s.plate.badRecord && ok && s.plate.ident == r.ident
  let s := setPlate s fun p =>
    { p with present := i.isSome, worn := !ok, badRecord := !ok, ident := r.ident, recA := if va then r.recA else [], recB := if vb then r.recB else [],
             seq := bytesAt rec_ 0 4, slotB := slotB,
             minutes := if keep then p.minutes else bytesAt rec_ 4 4,
             swings := if keep then p.swings else bytesAt rec_ 8 4,
             sinceWrite := if keep then p.sinceWrite else 0, writeDue := keep && p.writeDue,
             warned := bitOf (bytesAt rec_ 0x1C 4) 0, ended := bitOf (bytesAt rec_ 0x1C 4) 1,
             dirUp := true, extreme := (hottest s).getD 0, minuteAt := s.now }
  if ok then
    let s := setPlate s (fun p => { p with worn := decide (1000 ≤ plateLife s) })
    lifeCheck s
  else setErr s plateBlk Err.PLATE_RECORD_BAD

/-! ## The units at the end of a bring-up -/

/-- Supply set points (R491): the fused value and the trim in 2.5 mV; where the sum is no whole mV the
rounding is free. -/
def setPoint (s : State) (r : Nat) : Nat × State :=
  let trim : Int := Assoc.getD 0 (524 + r) s.th.ucal
  let base : Int := if r = 32 then 750 else Config.fusedMv r
  let (up, s) := if trim % 2 = 0 then (0, s) else draw s 1
  let v := (base + 5 * trim / 2 + up).toNat
  (if r = 32 then v else max 600 (min 850 v), s)

/-- Every set point. -/
def setPoints (s : State) : State :=
  (List.range 33).foldl (fun s r =>
    let (v, s) := setPoint s r
    setSup s (fun u => { u with setMv := u.setMv ++ [(r, v)] })) (setSup s (fun u => { u with setMv := [] }))

/-- What a die-to-die end comes to (R305, R543). -/
def d2dAtBringUp (l : List DefectEntry) (e : Nat) : D2DEnd :=
  let own := d2dOwnMask l e
  let m := d2dConnMask l e
  let w := connWidth m
  let x := { D2DEnd.init with mask := own, peer := d2dOwnMask l (d2dPeer e) }
  if w = 0 then x
  else { x with width := w, half := if w = 1 then connHalf m else 0, ready := true, tstate := 3, spareUsed := connSpares m }

/-- What a Garlet port comes to (R451-R455, R544), with the transmit preset of its training (R529). -/
def gportAtBringUp (l : List DefectEntry) (i : BringUpIn) (bad : Bool) (now : Nat) (preset : Int) (p : Nat) : GPort :=
  let own := gpOwnMask l p
  let x := { GPort.init with ownMask := own, tstate := 1, preset := preset }
  if bad then { x with tstate := 0 }
  else match i.peers.find? (fun y => y.port == p) with
    | none => x
    | some y =>
      let m := own &&& y.peerMask
      if maskWidth m = 0 then { x with tstate := 0 }
      else { x with tstate := 7, width := maskWidth m, peerMask := y.peerMask % 512, peerPort := y.peerPort % 32,
                    peerTag := y.peerTag % 2 ^ 32, lanes := maskInUse m, rxLanes := maskInUse m, rxWidth := maskWidth m, rxAt := now,
                    groupAt := now, connMask := m % 512 }

/-- The first delay probe of every port that has come to READY (R451): the delay it measured is free (DESIGN CHOICE, log
entry 57). -/
def firstProbes (s : State) : State :=
  ((List.range gportCount).filter (fun p => (gp s p).tstate == 7)).foldl (fun s p =>
    let (d, s) := draw s 20
    setReg s (blk Ty.GPORT p) Off.GPORT_DELAY d) s

/-- A column with its repairs; refresh and scrub pointers survive a warm bring-up (R237, R263, R541). -/
def columnAtBringUp (l : List DefectEntry) (old : Column) (warm : Bool) (now c : Nat) : Column :=
  let own := l.filter (fun x => x.block == blk Ty.COLCTL c)
  let pick (unit base : Nat) (m : List (Nat × Nat)) : List (Nat × Nat) :=
    (own.filter (fun x => x.unit == unit && x.outcome == 0)).foldl (fun m x => Assoc.put (base + x.pos) (some x.spare) m) m
  { Column.init with
    layers := if warm then old.layers.map (fun (k, y) => (k, { Layer.init with pointer := y.pointer })) else [],
    scrubPtr := if warm then old.scrubPtr else 0, scrubDue := if warm then old.scrubDue else 0, scrubAt := now,
    badRows := spareRowsBad l (blk Ty.COLCTL c), rowMap := pick 6 0 [], bondMap := pick 4 2048 (pick 3 0 []), badBonds := unitsBad l (blk Ty.COLCTL c) 5 }

/-- Columns that differ from reset. -/
def columnsAtBringUp (s : State) (l : List DefectEntry) : List (Nat × Column) :=
  (List.range 512).map (fun c => (c, columnAtBringUp l (col s c) s.shape.warm s.now c))

/-- Registers at the end of a bring-up (R49, R539, R606): LOCK as the management firmware sets it, and ENABLE
set in every good block that can be enabled but the hub movers (log entry 30). -/
def regsAtBringUp (s : State) (bad : List Nat) : State :=
  let lock := [Ty.BOOTP, Ty.MGMTP, Ty.SECENG, Ty.FUSE, Ty.FLASH, Ty.PLATE, Ty.PMBUS].map (fun t => blk t 0)
  (List.range blockCount).reverse.foldl (fun s b =>
    let s := if lock.contains b then setReg s b Off.LOCK 1 else s
    if canEnable (typeOf b) && typeOf b != Ty.HMOVER && !bad.contains b then setReg s b Off.CONTROL 1 else s) s

/-- LOCKs that stand: all but a package reset and the restart of an activation leave them (R55). -/
def locksKept (s : State) : List (Nat × Word) :=
  if s.sup.holdCause = 3 then [] else s.regs.filter (fun r => r.1 % 4096 == Off.LOCK)

/-- The facet places are admissible (R637). -/
def placeOk (l : List Nat) : Bool :=
  l.length == blockCount && l.all (fun p => decide (0x100 ≤ p) && decide (p < 0x100000)) && decide (l.eraseDups.length = blockCount)

/-- Readiness (R556). -/
def fitPackage (s : State) (entries : Nat) : Bool :=
  let blocks := List.range blockCount
  decide (120 ≤ goodMcores s) && decide (30 ≤ goodVcores s)
    && blocks.all (fun b => good s b || !([Ty.STACK, Ty.ROUTER, Ty.CHORD].contains (typeOf b) || stackOf b == 255))
    && (List.range 112).all (fun e => decide ((dd s e).width ≠ 0))
    && diesAgree s && decide (entries ≤ 16384)

/-- The floors of the units without a trial rise when the package reaches Ready (R601). -/
def raiseFloors (s : State) : State :=
  (List.range 4).foldl (fun s k =>
    let u := k + 3
    raiseFloor s u ((fwUnit s u).slotA.elim 0 (imageRollback u))) s

/-! ## The bring-up -/

/-- DRAM bytes of memory. -/
def dramCells (m : List Host.Cell) : List Host.Cell := m.filter (fun c => decide (dramBase ≤ c.1) && decide (c.1 < dramBase + dramSize))

/-- Check-bit errors of DRAM granules. -/
def dramErrors (l : List (Nat × Word)) : List (Nat × Word) := l.filter (fun c => decide (dramBase ≤ 32 * c.1) && decide (32 * c.1 < dramBase + dramSize))

/-- The package as step 1 finds it: only what a bring-up keeps (R541, R546, R548). -/
def bringUpBase (s : State) : State :=
  { State.reset with
      now := s.now, pending := s.pending, freeCtr := s.freeCtr, outs := s.outs, power := .aux,
      mem := if s.shape.warm then dramCells s.mem else [],
      synd := if s.shape.warm then dramErrors s.synd else [],
      regs := locksKept s,
      ft := { FTimer.init with tickAt := s.now, haltLow := s.ft.haltLow, gated := s.ft.haltLow },
      mcores := if s.shape.warm then
          s.mcores.map (fun (g, m) => (g, { MCore.init with tabActive := m.tabActive, tabStaged := m.tabStaged })) else [],
      shape := { s.shape with
        published := false, unfit := false, place := [], states := [], mcoreMap := [], vcoreMap := [], colsOut := [],
        defects := [], level := 0 },
      fw := s.fw, plate := s.plate,
      th := { Thermal.init with
        ucal := if s.fw.heldUcal then s.th.ucal else s.fw.ucalFlash,
        ucalNow := (if s.fw.heldUcal then s.th.ucal else s.fw.ucalFlash).filter (fun x => decide (x.1 < 524)),
        windowAt := s.now, fillAt := s.now, swingAt := s.now, readAt := s.now },
      sup := { s.sup with holdCause := 0, coreOff := true, loadNotice := false, pollAt := 0, holdAt := 0 },
      pins := { Pins.init with perstHigh := s.pins.perstHigh, straps := s.pins.straps, factory := s.pins.factory } }

/-- Step 7: the sensors' first reads; SENSOR_DEAD and CORE_FENCED of those found dead (R504, R505). -/
def sensorsAtBringUp (s : State) (l : List DefectEntry) (reads : List Int) : State :=
  let dead := ((l.filter (fun x => x.unit == 10)).map DefectEntry.pos).eraseDups
  let first (k : Nat) : Option (Nat × Sensor) := match firstRead s reads k with
    | some v => some (k, { Sensor.init with value := v, shown := v, valid := true, state := if dead.contains k then 2 else 0 })
    | none => if dead.contains k then some (k, { Sensor.init with state := 2 }) else none
  let s := setTh s (fun t => { t with sensors := (List.range 524).filterMap first })
  let s := setErrIf (dead != []) s sensagg Err.SENSAGG_SENSOR_DEAD
  setErrIf (dead.any (fun k => decide (k < 256) && k % 2 == 0 && dead.contains (k + 1))) s sensagg Err.SENSAGG_CORE_FENCED

/-- Steps 3 to 10: the defect list, the repairs and the units. -/
def bringUpUnits (old s : State) (i : BringUpIn) : State :=
  let l := repaired (knownDefects s i) i
  let bad := badBlocks l
  let badIs (b : Nat) : Bool := bad.any (fun x => x.1 == b)
  let all := withWhole l bad
  let s := sensorsAtBringUp (setPoints s) l i.reads
  let s := { s with
    cols := columnsAtBringUp { s with cols := old.cols } l,
    d2d := (List.range 112).map (fun e => (e, d2dAtBringUp l e)),
    gports := (List.range gportCount).map (fun p => (p, gportAtBringUp l i (badIs (blk Ty.GPORT p)) s.now (presetNow s p) p)),
    zl := { Zeleri.init with tstate := b2n (!badIs zlBlk) } }
  let s := setShape s fun h =>
    { h with
        states := bad.foldl (fun m (b, det) => Assoc.put b (some (1, det)) m) [],
        mcoreMap := (List.range 128).filter (fun g => !badIs (blk Ty.MCORE g)),
        vcoreMap := (List.range 32).filter (fun v => !badIs (blk Ty.VCORE v)),
        colsOut := (List.range 512).filter (fun c => badIs (blk Ty.COLCTL c)),
        defects := (all.filter inMap).take 16384 }
  let s := firstProbes (regsAtBringUp s (bad.map Prod.fst))
  let s := (List.range gportCount).foldl (fun s p =>
    if badIs (blk Ty.GPORT p) then s else setReg s (blk Ty.GPORT p) Off.GPORT_TRAIN_COUNT 0x10000) s
  let s := (all.filter (fun x => x.source == 2)).foldl (fun s x => fieldDefect s ⟨x.block, x.unit, x.pos⟩ .test) s
  setShape s (fun h => { h with unfit := !fitPackage s (all.filter inMap).length })

/-- Step 11 (R36, R539, R554, R557). -/
def publish (s : State) (i : BringUpIn) : State :=
  let s := setShape s fun h =>
    { h with
        published := true, step := 12, gen := (h.gen + 2) % 2 ^ 32, buildCount := (h.buildCount + 1) % 2 ^ 32,
        place := if placeOk i.place then i.place else [],
        level := if h.unfit || decide (packageFeatures s % 2 ^ 11 ≠ 0x7FF) then 0 else 1 }
  if s.shape.unfit then s else raiseFloors { s with power := .ready }

/-- Quadrants whose VDRAM rail has neither path (R498). -/
def quadrantsOut (s : State) : Nat :=
  ((List.range 4).map (fun q => if (rail s (33 + q)).mainGood || (rail s (33 + q)).backupGood then 0 else 2 ^ q)).sum

/-- BRING_UP (R539): its steps as one command. A unit without a valid image ends it in recovery (R600,
R604): the Gnomon stays unpublished, DRAM stays in self-refresh. -/
def execBringUp (i : BringUpIn) (s : State) : Host.Outcome State Fault Refusal :=
  .next (if s.power == .aux && decide (s.shape.step = 1) && !s.sup.ended && !s.ft.tripGate && !(decide (s.sup.holdCause = 2) && !s.sup.selfRefresh) then
    let t := bootFirmware (bringUpBase s)
    if t.fw.recovery then
      setZl (setShape { t with mem := dramCells s.mem, synd := dramErrors s.synd,
                               cols := s.cols, mcores := s.mcores.map (fun (g, m) => (g, { MCore.init with tabActive := m.tabActive, tabStaged := m.tabStaged })) }
        (fun h => { h with step := 2 })) (fun z => { z with tstate := 1 })
      |> (fun t => setReg t zlBlk Off.CONTROL 1)
    else
      let t := setSup t (fun u => { u with coreOff := false, selfRefresh := false, retained := false, lost := (if s.shape.warm then u.lost else 0) ||| quadrantsOut s })
      publish (readPlate (bringUpUnits s t i) i.plate) i
  else s)

end Sys2Proof.Machine
end

