-- ==== Sys2Proof/Machine/Facets.lean ====
section
/-! DEFINITION. Register facets as their requesters see them: what a read returns (R46-R52 and the register
tables of the chapters), what a write does by the access codes (R8, R9, R55-R59), block reset and enable
(R49, R51), and the Zeleri transactions RRD and RWR (R473). -/

namespace Sys2Proof.Machine

/-! ## Reads: views of structural state -/

/-- Does a reset of the block last (R49, DEDUCED, log entry 54)? That of a die-to-die end does, until its connection
is enabled again (R332, R334); every other is over in the cc of the write. -/
def inReset (s : State) (b : Nat) : Bool := typeOf b == Ty.D2D && (dd s (instOf b)).resetEnd

/-- The common header (R47-R52); `none` for a stored register. -/
def headerView (s : State) (b off : Nat) : Option Nat :=
  let t := typeOf b
  if off = 0 then some (t * 65536 + instOf b)
  else if off = 4 then some (0x010000 + Config.blockRev t % 256 * 256 + (dieOf s (dieIndex b)).compat % 256)
  else if off = 8 then some (facetSize t)
  else if off = 0xC then some (facetCaps s b)
  else if off = Off.STATE then
    let st := blockState s b
    let mode := if st = 1 then 3 else if st = 2 then 6 else if inReset s b then 4 else if !enabled s b then 0 else if running s && runsProgram s b then 2 else 1
    some (blockDetail s b % 16 * 2 ^ 12 + getReg s b Off.LOCK % 2 * 2 ^ 9 + b2n (errActive s b) * 2 ^ 8 + mode)
  else none

/-- The governing values of a list of sensor indices: the highest, and its first index; 0 before any reading (R533). -/
def hottestOf (s : State) (l : List Nat) : Int × Nat :=
  match l.foldl (fun m i => match m, govOf s i with
    | none, some g => some (g, i)
    | some (v, j), some g => if v < g then some (g, i) else some (v, j)
    | m, none => m) (none : Option (Int × Nat)) with
  | some x => x
  | none => (0, 0)
def hotLogic (s : State) : Int × Nat := if s.th.sensors = [] then (0, 0) else hottestOf s (govIndices.filter (fun i => decide (i < 256) || decide (512 ≤ i)))
def hotDram (s : State) : Int × Nat := hottestOf s (govIndices.filter (fun i => decide (256 ≤ i) && decide (i < 512)))

/-- STATE of a sensor as the sensor map gives it (R531). -/
def sensorState (s : State) (i : Nat) : Nat :=
  if (sensor s i).state = 2 then 2 else if i < 256 ∧ (sensor s (i / 2 * 2)).state = 1 then 1 else 0

/-- Lane substitutions of a physical row unit (R150). -/
def laneMap (s : State) (b ru : Nat) : Nat :=
  let l := s.shape.defects.filter (fun d => d.block == b && d.unit == 2 && d.pos / 256 == ru && d.outcome == 0)
  let part (n sh : Nat) : Nat := match l.find? (fun d => d.spare == n) with
    | some d => (128 + d.pos % 128) * 2 ^ sh
    | none => 0
  part 129 24 + part 128 16

/-- Flits of an unscheduled packet (R312). -/
def packetFlits (p : Packet) : Nat := if p.isReply = p.write then 1 else p.len + 2

/-- Live and free pages (R369, R373). -/
def kvPages (s : State) : Nat × Nat :=
  match kvCfg s with
  | some g =>
    let l := (liveCandidates s g).eraseDups.filter (fun h => decide (h < g.handles))
    ((l.filter (fun h => entState (kvEntry s g h) == 1)).length, g.handles - (l.filter (fun h => entState (kvEntry s g h) != 0)).length)
  | none => (0, 0)

/-- FTIMER (R106, R590, R573). -/
def viewFtimer (s : State) (off : Nat) : Option Nat :=
  if off = Off.FTIMER_FRAME_LO then some s.ft.frame
  else if off = Off.FTIMER_FRAME_HI then some s.ft.latchHi
  else if off = Off.FTIMER_SLOT then some (s.ft.stretch % 4096 * 65536 + slotNow s % 8192)
  else if off = Off.FTIMER_PROG_STATUS then some (s.ft.code * 2 ^ 24 + s.ft.pstate)
  else if off = Off.FTIMER_SKEW ∧ isMaster s then some 0
  else if off = Off.FTIMER_TICK_STATUS then some (getReg s ftBlk off / 2 * 2 + b2n (locked s))
  else if off = Off.FTIMER_FAULT_FRAME_HI then some s.ft.latchFaultHi
  else if off = Off.FTIMER_SIG_HI then some s.ft.latchSigHi
  else if off = Off.FTIMER_SIG_FRAME then some s.ft.latchSigFrame
  else none

/-- MCORE (R150): STREAM.LINES counts whole lines (DESIGN CHOICE, log entry 76); the roles are those that cc 45-52 of the
boundary slot rotated (R70, R145). -/
def viewMcore (s : State) (g off : Nat) : Option Nat :=
  let m := mc s g
  if off = Off.MCORE_MC_STATUS then
    some (b2n m.done * 2 ^ 31 + b2n m.running * 2 ^ 30 + s.ft.roles % 4 * 2 ^ 28 + s.ft.roles % 16 * 2 ^ 24 + m.pc % 4096)
  else if Off.MCORE_LANE_MAP_0 ≤ off ∧ off < Off.MCORE_LANE_MAP_0 + 16 then some (laneMap s (blk Ty.MCORE g) ((off - Off.MCORE_LANE_MAP_0) / 4))
  else if off = Off.MCORE_STREAM then some (m.stream.length % 128)
  else none

/-- VCORE (R214). -/
def viewVcore (s : State) (v off : Nat) : Option Nat :=
  let m := vc s v
  if off = Off.VCORE_VC_STATUS then
    some (b2n m.done * 2 ^ 31 + b2n m.running * 2 ^ 30 + b2n m.remote.isSome * 2 ^ 29 + m.pc % 16384)
  else none

/-- The next schedule entry of a column, of any kind (R252); with none left, their number (DESIGN CHOICE, log entry 76). -/
def nextEntry (s : State) (c : Nat) (k : Column) : Nat :=
  let body := colBody s c
  let at_ (x : Option (Nat × ColEntry)) : Nat := (x.map Prod.fst).getD (colCount body)
  min (at_ (entryFrom body k.entry false))
    (match entryFrom body k.rowEntry.1 true with
      | some (i, _) => if i = k.rowEntry.1 ∧ 0 < k.rowEntry.2 then at_ (entryFrom body (i + 1) true) else i
      | none => colCount body)

/-- COLCTL (R252, R279, R301). -/
def viewColctl (s : State) (c off : Nat) : Option Nat :=
  let k := col s c
  if off = Off.COLCTL_CC_STATUS then
    let y := col (colSync s c) c
    let w := match y.window with
      | some w => (colEntry (colBody s c) w.entry).kind % 8
      | none => 0
    some (b2n k.done * 2 ^ 31 + w * 2 ^ 28 + nextEntry s c y % 4096)
  else if Off.COLCTL_LAYER_0 ≤ off ∧ off < Off.COLCTL_LAYER_0 + 32 then
    let i := (off - Off.COLCTL_LAYER_0) / 4
    let y := layerAt k i
    let owed := joinNat 4 ((List.range 4).map (fun q => (bankAt k (4 * i + q)).owed))
    some (y.interval % 4 * 2 ^ 30 + min 15 (y.debt / 65536) * 2 ^ 26 + owed)
  else if off = Off.COLCTL_PORT_Q then some (portHeld k % 128)
  else if off = Off.COLCTL_SCRUB_PTR then some (k.scrubDue % 16 * 2 ^ 28 + k.scrubPtr % 2 ^ 19)
  else if off = Off.COLCTL_SCRUB_PASS then some k.scrubPasses
  else if off = Off.COLCTL_REPAIR then some (k.bondMap.length * 65536 + k.rowMap.length)
  else if off = Off.COLCTL_RE_QUEUE then some (k.reqs.length % 128)
  else if off = Off.COLCTL_RE_HOT then some (k.hot % 256)
  else none

/-- D2D (R337). -/
def viewD2d (s : State) (e off : Nat) : Option Nat :=
  let x := dd s e
  if off = Off.D2D_D2D_STATUS then some (x.width * 2 ^ 30 + x.half * 2 ^ 29 + b2n x.ready * 2 ^ 28 + x.tstate * 2 ^ 24)
  else if off = Off.D2D_MASK_H0 then some (x.mask % 2 ^ 23)
  else if off = Off.D2D_MASK_H1 then some (x.mask / 2 ^ 23 % 2 ^ 23)
  else if off = Off.D2D_PEER_H0 then some (x.peer % 2 ^ 23)
  else if off = Off.D2D_PEER_H1 then some (x.peer / 2 ^ 23 % 2 ^ 23)
  else none

/-- An unscheduled packet is held at a router (R335). -/
def routerHolds (s : State) (r : Nat) (p : Packet) : Bool :=
  p.here == r && (p.entered || p.isReply) && p.port != 31 && decide (p.ready ≤ s.now)

/-- ROUTER (R335). -/
def viewRouter (s : State) (r off : Nat) : Option Nat :=
  if off = Off.ROUTER_RT_STATUS then some (b2n (rtr s r).done * 2 ^ 31 + (rtr s r).red.length % 2048)
  else if off = Off.ROUTER_UNSCHED then
    some (min 65535 ((s.packets.filter (routerHolds s r)).map packetFlits).sum * 65536)
  else none

/-- GPORT (R463). -/
def viewGport (s : State) (p off : Nat) : Option Nat :=
  let g := gp s p
  if off = Off.GPORT_GP_STATUS then
    some (g.width * 2 ^ 30 + b2n g.done * 2 ^ 29 + g.tstate % 8 * 2 ^ 21 + g.peerPort % 32 * 2 ^ 16 + gpMask g % 512)
  else if off = Off.GPORT_PEER_TAG then some g.peerTag
  else if off = Off.GPORT_RX_HELD then some (g.rx.length % 8192)
  else none

/-- ZLINK (R488). -/
def viewZlink (s : State) (off : Nat) : Option Nat :=
  let z := s.zl
  if off = Off.ZLINK_ZL_STATUS then
    some (z.width * 2 ^ 30 + z.half * 2 ^ 29 + b2n (retrying z) * 2 ^ 28 + z.tstate % 8 * 2 ^ 25 + z.lanes % 65536)
  else if off = Off.ZLINK_RX_HELD then some (rxHeld s % 65536)
  else none

/-- MBOX (R429): the hub-side flags. -/
def viewMbox (s : State) (q off : Nat) : Option Nat :=
  let x := mbx s q
  if off = Off.MBOX_MB_PTR then some (hubCommit q x % 2048 * 65536 + hubRd q x % 2048)
  else if off = Off.MBOX_MB_STATE then
    some (b2n (decide (hubHeld q x = 0)) * 2 ^ 31 + b2n (hubFull q x) * 2 ^ 30 + b2n x.isOpen * 2 ^ 29 + b2n (inbound q) * 2 ^ 28 + hubResv q x % 2048)
  else none

/-- SMOVER and HMOVER (R428). -/
def viewMover (s : State) (hub : Bool) (i off : Nat) : Option Nat :=
  if off = Off.SMOVER_MV_STATUS then
    if hub then
      let x := hmv s i
      some (b2n x.running * 2 ^ 30 + b2n x.halted * 2 ^ 29 + b2n x.waiting * 2 ^ 28 + x.head % 4096)
    else
      let x := smv s i
      some (b2n x.done * 2 ^ 31 + b2n x.active * 2 ^ 30 + b2n x.halted * 2 ^ 29 + x.desc % 4096)
  else if off = Off.SMOVER_MOVED ∧ hub then some (min (2 ^ 32 - 1) (hmv s i).moved)
  else none

/-- PREFIX (R394). -/
def viewPrefix (s : State) (off : Nat) : Option Nat :=
  if off = Off.PREFIX_STATUS then
    some (b2n (running s && unitDone s s.ft.frame prefixBlk) * 2 ^ 31 + b2n s.kv.flushed * 2 ^ 30 + s.kv.reqs.length % 32768)
  else if off = Off.PREFIX_LIVE then some (kvPages s).1
  else if off = Off.PREFIX_FREE then some (kvPages s).2
  else if off = Off.PREFIX_MISSES then some s.kv.misses
  else none

/-- CHORD (R365). -/
def viewChord (s : State) (n off : Nat) : Option Nat :=
  if off = Off.CHORD_CH_STATUS then some (b2n (n == 32) * 2 ^ 31 + chordDepth n * 2 ^ 28 + chordParent n * 2 ^ 22)
  else if off = Off.CHORD_BAR_VAL then
    let k := regField s (blk Ty.CHORD n) Off.CHORD_BAR_SEL 7 0
    if n < 32 ∧ 64 ≤ k then some 0
    else
      let c := if n = 32 then 2048 + k else 64 * n + k
      let l := if running s then counterLimit s c else 0
      some (b2n (l != 0) * 2 ^ 31 + l % 1024 * 2 ^ 16 + (Assoc.getD ⟨0, 0⟩ c s.chord.bars).count % 1024)
  else none

/-- BOOTP and MGMTP (R611). -/
def viewProc (s : State) (p off : Nat) : Option Nat :=
  let x := procOf s p
  if off = Off.BOOTP_FW_STATUS then
    some (b2n x.trial * 2 ^ 31 + b2n x.healthy * 2 ^ 30 + b2n x.fellBack * 2 ^ 29 + b2n x.slotB * 2 ^ 28)
  else if off = Off.BOOTP_FW_VERSION then some (fwUnit s (p + 1)).version
  else none

/-- SECENG (R612). -/
def viewSeceng (s : State) (off : Nat) : Option Nat :=
  if off = Off.SECENG_ATT_STATUS then some (b2n s.fw.attBusy * 2 ^ 31 + s.fw.attCode % 256 * 2 ^ 16)
  else if off = Off.SECENG_ATT_LEN then some s.fw.attLen
  else none

/-- FLASH (R610). -/
def viewFlash (s : State) (off : Nat) : Option Nat :=
  if off = Off.FLASH_FL_STATUS then some (b2n s.fw.busy * 2 ^ 31 + b2n s.fw.armed * 2 ^ 30 + s.fw.code % 256 * 2 ^ 16)
  else if off = Off.FLASH_SLOTS then
    some (((List.range 6).map (fun k =>
      let u := fwUnit s (k + 1)
      (b2n u.activeB * 8 + (if u.other = 4 then 1 else u.other % 4)) * 2 ^ (4 * k))).sum)
  else none

/-- SENSAGG (R533). -/
def viewSensagg (s : State) (off : Nat) : Option Nat :=
  let t := s.th
  if off = Off.SENSAGG_TH_STATUS then
    some (b2n t.request * 2 ^ 31 + b2n t.clamped * 2 ^ 30 + b2n t.tripped * 2 ^ 29 + b2n t.met * 2 ^ 28 + t.sReq % 4096 * 2 ^ 12 + s.ft.stretch % 4096)
  else if off = Off.SENSAGG_GRACE then
    some (min 511 (t.graceCc / cc1ms) * 2 ^ 16 + regField s sensagg off 8 0)
  else if off = Off.SENSAGG_HOT then some (unsignedOf 16 (hotLogic s).1 * 65536 + unsignedOf 16 (hotDram s).1)
  else if off = Off.SENSAGG_HOT_WHERE then some ((hotLogic s).2 * 65536 + (hotDram s).2)
  else if off = Off.SENSAGG_COOLANT then some (unsignedOf 16 (tIn s) * 65536 + t.flow % 65536)
  else if off = Off.SENSAGG_POWER then some (min 65535 (t.p / 1000) * 65536 + min 65535 (t.e / 1000))
  else if off = Off.SENSAGG_FILL then some (min 65535 (t.fill / 10))
  else none

/-- PMBUS (R534): CORE_OFF is 0 in power state Off, its reset value, although the level that stands there then is high
(R623, R635). -/
def viewPmbus (s : State) (off : Nat) : Option Nat :=
  if off = Off.PMBUS_SUPPLY then
    let backup := ((List.range 6).map (fun k => b2n (rail s (nth backupRails k)).onBackup * 2 ^ k)).sum
    some (b2n s.sup.retained * 2 ^ 31 + b2n (backup != 0) * 2 ^ 30 + b2n (s.sup.coreOff && s.power != .off) * 2 ^ 29 + b2n s.sup.loadNotice * 2 ^ 28 + backup)
  else none

/-- PLATE (R535). -/
def viewPlate (s : State) (off : Nat) : Option Nat :=
  if off = Off.PLATE_PL_STATUS then some (plStatus s)
  else if off = Off.PLATE_MINUTES then some s.plate.minutes
  else if off = Off.PLATE_SWINGS then some s.plate.swings
  else none

/-- ALERT_N is low (R622). -/
def alertLow (s : State) : Bool := s.th.request || s.th.clamped || faultValid s || (s.shape.published && s.shape.unfit)

/-- PINS (R635). -/
def viewPins (s : State) (off : Nat) : Option Nat :=
  if off = Off.PINS_PIN_LEVEL then
    let onBackup := backupRails.any (fun r => (rail s r).onBackup)
    some (b2n s.sup.loadNotice * 64 + b2n s.sup.coreOff * 32 + b2n onBackup * 16 + b2n s.pins.perstHigh * 8 + b2n (!haltNLow s) * 4
      + b2n (!alertLow s) * 2 + b2n (!s.pins.thermLow))
  else if off = Off.PINS_STRAPS then some (b2n s.pins.factory * 4 + s.pins.straps)
  else if off = Off.PINS_I2CS then some (s.pins.i2cReads % 65536 * 65536 + 0x58 + s.pins.straps)
  else if off = Off.PINS_HALT_IN then some s.pins.haltCount
  else none

/-- The view of a register that shows structural state; `none` for a register read as it is stored. -/
def regView (s : State) (b off : Nat) : Option Nat :=
  let i := instOf b
  if off < 0x40 then headerView s b off
  else match typeOf b with
    | 3 => viewMcore s i off
    | 4 => viewVcore s i off
    | 5 => viewRouter s i off
    | 6 => viewMover s false i off
    | 7 => viewColctl s i off
    | 8 => viewD2d s i off
    | 9 => viewGport s i off
    | 10 => viewZlink s off
    | 11 => if off = Off.SLM_PART_NOW then some s.slm.partNow else none
    | 12 => viewMbox s i off
    | 13 => viewMover s true i off
    | 14 => viewPrefix s off
    | 15 => viewChord s i off
    | 16 => viewFtimer s off
    | 17 => viewProc s 0 off
    | 18 => viewProc s 1 off
    | 19 => viewSeceng s off
    | 20 => viewSensagg s off
    | 22 => viewFlash s off
    | 23 => viewPlate s off
    | 24 => viewPmbus s off
    | 25 => viewPins s off
    | _ => none

/-! ## Reads that depend on a selector or a free value -/

/-- A register selected by an index: past the last index its value is free. -/
def selected (s : State) (k n : Nat) (f : Nat → Nat) (w : Nat) : Nat × State := if k < n then (f k, s) else draw s w

/-- Level of an EVT pin at its land (R364): a pin that no one drives or that EVENT_IN owns shows what stands outside:
high from reset until an edge has been seen there, a free value after. -/
def evtLevel (s : State) (k : Nat) : Nat × State :=
  let outside : Nat × State := if s.pins.evtSeen.testBit k then draw s 1 else (1, s)
  match evtOwner s k with
  | 0 => outside
  | 2 => outside
  | 4 => (b2n (!s.pins.haltOwn), s)
  | _ => (b2n (decide (Assoc.getD 0 k s.pins.lowUntil ≤ s.now)), s)

/-- Registers whose value needs more than a view; `none` for every other. -/
def drawnReg (s : State) (b off : Nat) : Option (Nat × State) :=
  let t := typeOf b
  if t = Ty.SENSAGG then
    if off = Off.SENSAGG_SENSOR_VAL then
      let (v, s') := selected s (regField s b Off.SENSAGG_SENSOR_SEL 9 0) 524 (fun k => unsignedOf 16 (sensor s k).shown * 65536 + sensorState s k) 32
      some (v &&& 0xFFFF0003, s')
    else if off = Off.SENSAGG_UCAL_VAL then
      some (selected s (regField s b Off.SENSAGG_UCAL_SEL 9 0) 578 (fun k => unsignedOf 16 (Assoc.getD 0 k s.th.ucal)) 16)
    else none
  else if t = Ty.PMBUS then
    let k := regField s b Off.PMBUS_RAIL_SEL 5 0
    if off = Off.PMBUS_RAIL_V then some (selected s k 41 (fun r => (rail s r).status * 65536 + (rail s r).mv) 32)
    else if off = Off.PMBUS_RAIL_I then some (selected s k 41 (fun r => (rail s r).deciamps) 16)
    else none
  else if t = Ty.PINS then
    if Off.PINS_EVT_PIN_0 ≤ off ∧ off < Off.PINS_EVT_PIN_0 + 16 then
      let (v, s') := evtLevel s ((off - Off.PINS_EVT_PIN_0) / 4)
      some (putField (getReg s b off) 26 26 v, s')
    else none
  else none

/-- What a read latches (R106, R573, R590). -/
def readLatch (s : State) (b off : Nat) : State :=
  if b ≠ ftBlk then s
  else if off = Off.FTIMER_FRAME_LO then setFt s (fun f => { f with latchHi := f.frame / 2 ^ 32 })
  else if off = Off.FTIMER_FAULT_FRAME_LO then setFt s (fun f => { f with latchFaultHi := getReg s b Off.FTIMER_FAULT_FRAME_HI })
  else if off = Off.FTIMER_SIG_LO then
    setFt s (fun f => { f with latchSigHi := getReg s b Off.FTIMER_SIG_HI, latchSigFrame := getReg s b Off.FTIMER_SIG_FRAME })
  else s

/-- A read of a facet register (R8, R46): its value and the state after. -/
def readReg (s : State) (b off : Nat) : Nat × State :=
  if facetSize (typeOf b) ≤ off then (0, s)
  else match drawnReg s b off with
    | some (v, s') => (v % 2 ^ 32, s')
    | none => (((regView s b off).getD (getReg s b off)) % 2 ^ 32, readLatch s b off)

/-! ## Block reset (R49) -/

/-- The facet's registers at reset, but for LOCK, FENCE, which only a bring-up clears, and DISAGREE, which counts since
bring-up (R337). -/
def facetReset (s : State) (b : Nat) : State :=
  let fence := getReg s b Off.CONTROL &&& 2
  let s := { s with regs := s.regs.filter (fun r => r.1 / 4096 != b || r.1 % 4096 == Off.LOCK
                                                         || (typeOf b == Ty.D2D && r.1 % 4096 == Off.D2D_DISAGREE)),
                    heldEnable := Assoc.put b none s.heldEnable }
  setReg s b Off.CONTROL fence

/-- What the reset of a block does to the state that its unit holds (R49): memories, repair tables and fences stay (DEDUCED,
log entry 38). -/
def unitReset (s : State) (b : Nat) : State :=
  let i := instOf b
  match typeOf b with
  | 3 => setMc s i (fun m => { MCore.init with fenceAt := m.fenceAt })
  | 4 => setVc s i (fun v => { VCore.init with fenced := v.fenced })
  | 5 => setRtr { s with packets := s.packets.filter (fun p => !routerHolds s i p) } i (fun _ => Router.init)
  | 6 => setSmv s i (fun m => { SMover.init with fenced := m.fenced })
  | 7 => setCol s i (fun k =>
      { Column.init with
        entry := 65536, cmdNext := (65536, 0), rowEntry := (65536, 0),
        scrubAt := s.now, scrubRate := k.scrubRate, deadBonds := k.deadBonds, cals := k.cals, spareCals := k.spareCals, rowMap := k.rowMap, bondMap := k.bondMap, badRows := k.badRows, badBonds := k.badBonds,
        hardBonds := k.hardBonds, hardCells := k.hardCells, calAt := k.calAt, fenced := k.fenced })
  | 8 => setDd s i (fun x => if x.fenced then d2dDown x else d2dTest x s.now true)
  | 9 => setGp s i (fun p => { GPort.init with ownMask := p.ownMask, preset := p.preset, fenced := p.fenced, tstate := b2n (!p.fenced) })
  | 10 => { (hmLinkFail s) with zl := { Zeleri.init with preset := s.zl.preset } }
  | 12 => setMbx s i (fun q => { (mboxClear q) with noticed := false })
  | 13 => setHmv s i (fun h => { HMover.init with fenced := h.fenced })
  | 14 => setKv s (fun _ => Prefix.init)
  | _ => s

/-- CONTROL.RESET of a block (R49) whose requester meets this LOCK: ignored while LOCK is set. A STACK facet resets the whole
die: every block that stands on it and can be reset (R332). -/
def resetUnder (s : State) (lock : Bool) (b : Nat) : State :=
  if !canReset (typeOf b) || lock then s
  else portWatch s <|
    let s := facetReset (unitReset s b) b
    if typeOf b = Ty.STACK then
      ((List.range blockCount).filter (fun x => x != b && stackOf x == instOf b && canReset (typeOf x))).foldl
        (fun s x => facetReset (unitReset s x) x) s
    else s

/-- CONTROL.RESET of a block. -/
def resetAct (s : State) (b : Nat) : State := resetUnder s (bitOf (getReg s b Off.LOCK) 0) b

/-- CONTROL_RESET (R49, R332, R415, R416, R427). -/
def execControlReset (b : Nat) (s : State) : Host.Outcome State Fault Refusal :=
  onUnit blockCount b s fun s => if hubUp s then resetAct s b else s

/-! ## Enable and lock -/

/-- A write of ENABLE (R51, R56) whose requester meets this LOCK: one that changes a unit at work waits for cc 45-52 of the boundary slot; a
fenced block takes no 1; a hub channel starts or stops (R408). -/
def enableUnder (s : State) (lock : Bool) (b : Nat) (v : Bool) : State :=
  if !canEnable (typeOf b) || v == bitOf (getReg s b Off.CONTROL) 0 then s
  else if lock then setErr s b Err.LOCKED_WRITE
  else if v && blockState s b == 1 then s
  else
    let was := enabled s b
    let s := setRegField s b Off.CONTROL 0 0 (b2n v)
    if running s && runsProgram s b then { s with heldEnable := Assoc.put b (if v == was then none else some was) s.heldEnable }
    else if typeOf b = Ty.HMOVER then (if v then hmEnable s (instOf b) else hmDisable s (instOf b))
    else s

/-- A write of ENABLE. -/
def enableAct (s : State) (b : Nat) (v : Bool) : State := enableUnder s (bitOf (getReg s b Off.LOCK) 0) b v

/-- CONTROL_ENABLE (R51). -/
def execControlEnable (b : Nat) (value : Bool) (s : State) : Host.Outcome State Fault Refusal :=
  onUnit blockCount b s fun s => if hubUp s then enableAct s b value else s

/-- A write of 1 to LOCK (R55). -/
def lockAct (s : State) (b : Nat) : State := setReg s b Off.LOCK 1

/-- LOCK (R55). -/
def execLock (b : Nat) (s : State) : Host.Outcome State Fault Refusal :=
  onUnit blockCount b s fun s => if hubUp s then lockAct s b else s

/-- FAULT_INFO.VALID cleared (R567, R573): the record is free for the next halt, HALT_N and FAULT_OUT are
released. -/
def faultClearAct (s : State) : State :=
  setPins (setRegField s ftBlk Off.FTIMER_FAULT_INFO 31 31 0) (fun p => { p with haltOwn := false })

/-- FAULT_INFO_CLEAR. -/
def execFaultInfoClear (s : State) : Host.Outcome State Fault Refusal := .next (if hubUp s then faultClearAct s else s)

/-! ## Writes -/

/-- Node and local unit of a requester (R344, R346). -/
def requesterUnit (who : Requester) : Nat × Nat :=
  match who with
  | .mgmt => (32, 0)
  | .boot => (32, 1)
  | .zeleri => (32, 2)
  | .vcore v => (v, 4)

/-- Access masks of a register (R8): the header's, or the table's. -/
def regDef (b off : Nat) : RegDef :=
  if off = Off.ERR_SUMMARY then ⟨off, 0, 0, blockErrMask (typeOf b) + 15, 0, 0, 0⟩
  else if off = Off.ERR_MASK then ⟨off, 0xFFFFFFFF, 0, 0, 0, 0, 0⟩
  else if off = Off.EVT_ROUTE then ⟨off, 0, 0xC01FFFFF, 0, 0, 0, 0⟩
  else if off = Off.SCRATCH then ⟨off, 0xFFFFFFFF, 0, 0, 0, 0, 0⟩
  else ((blockRegs (typeOf b)).find? (fun r => r.off == off)).getD ⟨off, 0, 0, 0, 0, 0, 0⟩

/-- `x` with the bits of `m` cleared. -/
def clearBits (x m : Nat) : Nat := x - (x &&& m)

/-! ## The order of one cc (R57) -/

/-- A requester's place among those whose accesses reach a facet in one cc (R57). -/
def rankOf (who : Requester) : Nat :=
  match who with
  | .mgmt => 0
  | .boot => 1
  | .zeleri => 2
  | .vcore v => 3 + v

/-- The writes of the present cc to a register, in the order made. -/
def writesAt (s : State) (b off : Nat) : List Access := (regCcNow s).writes.filter (fun a => a.block == b && a.off == off)
/-- A write among those of its register, after those of its requester and of the requesters before (R57). -/
def rankInsert (x : Access) : List Access → List Access
  | [] => [x]
  | y :: r => if x.rank < y.rank then x :: y :: r else y :: rankInsert x r
/-- LOCK as a requester of this rank meets it: one that a later requester has set in this cc has not been set yet. -/
def lockFor (s : State) (b rank : Nat) : Bool :=
  let set := writesAt s b Off.LOCK
  bitOf (getReg s b Off.LOCK) 0 && (set.any (fun a => decide (a.rank ≤ rank)) || !set.any (fun a => a.base == 0))
/-- A write recorded. -/
def noteWrite (s : State) (a : Access) : State :=
  let r := regCcNow s
  { s with regCc := { r with writes := r.writes ++ [a] } }

/-- A stored register after a write (R8, R9, R56). -/
def maskedWrite (d : RegDef) (lock : Bool) (old v : Nat) : Nat :=
  let set := if lock then d.rw else d.rw ||| d.rwl
  (clearBits (clearBits old set ||| (v &&& set)) (v &&& d.w1c)) ||| (v &&& d.w1s)

/-- The bits of a register that a write can change. -/
def writtenBits (d : RegDef) : Nat := d.rw ||| d.rwl ||| d.w1c ||| d.w1s

/-- A register after the writes `l` of this cc, the first of which met the value `x` (R57): bits that no write changes
stay as they are now, and bits of ERR_SUMMARY that the device has set in this cc stay set (R54). -/
def foldWrites (s : State) (b off x : Nat) (l : List Access) : Nat :=
  let m := writtenBits (regDef b off)
  let v := (l.foldl (fun x a => maskedWrite (regDef b off) a.locked x a.value) x &&& m) ||| clearBits (getReg s b off) m
  if off = Off.ERR_SUMMARY then v ||| setsNow s b else v

/-- The bits stored: a locked write that would change an RWL field is reported (R56), and a mask that lets an
error through sends the notice of R53. Writes of one cc count in the order of their requesters (R57). -/
def storeWrite (s : State) (who : Requester) (b off v : Nat) : State :=
  let d := regDef b off
  let lock := lockFor s b (rankOf who)
  let was := errActive s b
  let old := getReg s b off
  let s := if lock && ((v ^^^ old) &&& d.rwl != 0) then setErr s b Err.LOCKED_WRITE else s
  let s := noteWrite s ⟨b, off, rankOf who, v, getReg s b off, lock⟩
  let l := writesAt s b off
  let first := (l.head?.map Access.base).getD old
  let s := setReg s b off (foldWrites s b off first (l.foldl (fun acc a => rankInsert a acc) []))
  if off = Off.ERR_MASK && !was && errActive s b then routeNotice s b else s

/-- A write of CONTROL: RESET, FENCE, ENABLE act in this order (DEDUCED, R49-R51, R359, log entry 38); the FENCE message of
a Zeleri write has left the link before (`zlAccess`). A write to
ENABLE in this cc by a later requester stands (R57). -/
def controlWrite (s : State) (who : Requester) (b v : Nat) : State :=
  let later := (writesAt s b Off.CONTROL).any (fun a => decide (rankOf who < a.rank))
  let s := noteWrite s ⟨b, Off.CONTROL, rankOf who, v, getReg s b Off.CONTROL, false⟩
  let lock := lockFor s b (rankOf who)
  let s := if bitOf v 2 then resetUnder s lock b else s
  let s := if bitOf v 1 && canFence (typeOf b) && who != .zeleri then
      let (n, u) := requesterUnit who
      chordSend s (.fence b) n u (chordUnit b).1 0 false
    else s
  if later then s else enableUnder s lock b (bitOf v 0)

/-- A write of 1 to LOCK (R55): RWL writes that later requesters have made in this cc are undone by it (R56, R57). -/
def lockWrite (s : State) (who : Requester) (b : Nat) : State :=
  let k := rankOf who
  let s := noteWrite (lockAct s b) ⟨b, Off.LOCK, k, 1, getReg s b Off.LOCK, false⟩
  let r := regCcNow s
  let after (a : Access) : Bool := a.block == b && decide (k < a.rank) && a.off != Off.LOCK && a.off != Off.CONTROL && !a.locked
  let changed := r.writes.filter (fun a => after a && ((a.value ^^^ a.base) &&& (regDef b a.off).rwl != 0))
  let s := { s with regCc := { r with writes := r.writes.map (fun a => if after a then { a with locked := true } else a) } }
  let s := (changed.map Access.off).eraseDups.foldl (fun s off =>
    let l := writesAt s b off
    setReg s b off (foldWrites s b off ((l.head?.map Access.base).getD 0) (l.foldl (fun acc a => rankInsert a acc) []))) s
  if changed = [] then s else setErr s b Err.LOCKED_WRITE

/-- A write of a mailbox queue's NOTICE (R424, R426): LEVEL_EN is ignored in normal service; a stale timer
enabled on a queue that is not empty starts. -/
def noticeWrite (s : State) (who : Requester) (q v : Nat) : State :=
  let b := mbBlk q
  let starts := bitOf v 31 && !bitOf (getReg s b Off.MBOX_NOTICE) 31 && decide (hubHeld q (mbx s q) ≠ 0)
  let s := storeWrite s who b Off.MBOX_NOTICE v
  let s := if starts then setMbx s q (fun x => { x with timer := s.now + 1 }) else s
  setErrIf (mbNormal s && bitOf v 30) s b Err.MBOX_LEVEL_IGNORED

/-- A write of EVT_PIN_k (R363, R364): with others of this cc it counts in the order of their requesters (R57). -/
def evtPinWrite (s : State) (who : Requester) (k v : Nat) : State :=
  let b := blk Ty.PINS 0
  let off := Off.PINS_EVT_PIN_0 + 4 * k
  let s := noteWrite s ⟨b, off, rankOf who, v, getReg s b off, false⟩
  let l := writesAt s b off
  (l.foldl (fun acc a => rankInsert a acc) []).foldl (fun s a => evtPinAct s k a.value) (setReg s b off ((l.head?.map Access.base).getD 0))

/-- Writes that act (the WO fields and the rows of their own), by block type and offset; `none` for every
other register. -/
def actingWrite (s : State) (who : Requester) (b off v : Nat) : Option State :=
  let i := instOf b
  match typeOf b with
  | 9 => if off = Off.GPORT_TRAIN_CMD then some (if bitOf v 0 then gpRetrainAct s i else s) else none
  | 10 => if off = Off.ZLINK_TRAIN_CMD then some (if bitOf v 0 then zlRetrainAct s else s) else none
  | 12 => if off = Off.MBOX_NOTICE then some (noticeWrite s who i v) else none
  | 13 =>
    if off = Off.HMOVER_DOORBELL then some (doorbellAct s i)
    else if off = Off.HMOVER_CMD then some (if v % 4 = 1 then retryAct s i else if v % 4 = 2 then skipAct s i else s)
    else none
  | 16 =>
    if off = Off.FTIMER_PROG_CMD then some (if v % 4 = 1 then loadAct s else if v % 4 = 2 ∧ awake s then unloadAct s else s)
    else if off = Off.FTIMER_RESYNC_CMD then some (if awake s then resyncAct s v else s)
    else if off = Off.FTIMER_FAULT_INFO then some (if bitOf v 31 then faultClearAct s else s)
    else none
  | 17 =>
    if off = Off.BOOTP_HEALTH then some (healthAct s who 0 v)
    else if off = Off.BOOTP_WDOG_KICK then some (kickAct s 0) else none
  | 18 =>
    if off = Off.BOOTP_HEALTH then some (healthAct s who 1 v)
    else if off = Off.BOOTP_WDOG_KICK then some (kickAct s 1) else none
  | 19 => if off = Off.SECENG_ATT_CMD then some (if v % 4 = 0 then s else attStart s (v % 4)) else none
  | 20 =>
    if off = Off.SENSAGG_TRIP_CLEAR then some (if bitOf v 0 then tripClearAct s else s)
    else if off = Off.SENSAGG_UCAL_VAL then some (ucalAct s (signedOf 16 v)) else none
  | 22 =>
    if off = Off.FLASH_FL_CMD then
      let op := v % 16
      some (if op = 1 then stageAct s (fieldOf v 11 8) else if op = 2 then armAct s else if op = 3 then disarmAct s else s)
    else none
  | 25 =>
    if Off.PINS_EVT_PIN_0 ≤ off ∧ off < Off.PINS_EVT_PIN_0 + 16 then some (evtPinWrite s who ((off - Off.PINS_EVT_PIN_0) / 4) v) else none
  | _ => none

/-- A watchdog period is stored clamped (R611). -/
def writtenValue (b off v : Nat) : Nat :=
  if (typeOf b = Ty.BOOTP ∨ typeOf b = Ty.MGMTP) ∧ off = Off.BOOTP_WDOG then max 10 (min 10000 (v % 65536)) else v

/-- A write of a facet register (R8, R46, R59). -/
def writeReg (s : State) (who : Requester) (b off v : Nat) : State :=
  if facetSize (typeOf b) ≤ off then s
  else if off = Off.CONTROL then controlWrite s who b v
  else if off = Off.LOCK then (if bitOf v 0 then lockWrite s who b else s)
  else match actingWrite s who b off v with
    | some t => t
    | none => storeWrite s who b off (writtenValue b off v)

/-- The answer to a register write sets out for its requester, from the facet's node or, when no facet is there, from
the requester's own (R58, R346): WR_RSP, held for a SERVICE slot (R347). That of the Zeleri link is RWR's own. -/
def answerWrite (s : State) (who : Requester) (addr status : Nat) : State :=
  let home := requesterUnit who
  let from_ := match facetAt s (addr / 4096) with
    | some b => chordUnit b
    | none => home
  if who = .zeleri then s else chordSend s (.answer who true 0 addr status 0) from_.1 from_.2 home.1 2 true

/-- REGISTER_WRITE (R8, R10, R57, R58): a misaligned access is an access error at its facet, one where no facet is, the
Gnomon's range among it (R31), an access error to its requester. -/
def execRegisterWrite (who : Requester) (addr : Nat) (value : Word) (s : State) : Host.Outcome State Fault Refusal :=
  .next (if hubUp s then
    match facetAt s (addr / 4096) with
    | some b =>
      if addr % 4 = 0 then answerWrite (writeReg s who b (addr % 4096) value.toNat) who addr 0
      else answerWrite (setErr s b Err.ACCESS) who addr 1
    | none => answerWrite s who addr 1
  else s)

/-! ## RRD and RWR (R473, R475) -/

/-- What a facet answers to an access of the Zeleri link: status and data. A read returns the value after the accesses
applied before it, so not the writes that V-cores have made in this cc (R57). -/
def zlRead (s : State) (b off : Nat) : State × Nat :=
  let l := writesAt s b off
  let (v, s) := readReg s b off
  if l.any (fun a => decide (2 < a.rank)) && (regView s b off).isNone && (drawnReg s b off).isNone then
    (s, foldWrites s b off ((l.head?.map Access.base).getD 0) ((l.foldl (fun acc a => rankInsert a acc) []).filter (fun a => decide (a.rank ≤ 2))) % 2 ^ 32)
  else (s, v)
def facetServe (s : State) (write : Bool) (addr data : Nat) : State × Nat × Nat :=
  match facetAt s (addr / 4096) with
  | some b =>
    if addr % 4 ≠ 0 then (setErr s b Err.ACCESS, 1, 0)
    else if write then (writeReg s .zeleri b (addr % 4096) data, 0, 0)
    else let (s, v) := zlRead s b (addr % 4096); (s, 0, v)
  | none => (s, 1, 0)

/-- The packet of an admitted RRD or RWR (R346, R473). -/
def accessMsg (s : State) (write : Bool) (tag addr : Nat) : Option ChordMsg :=
  s.chord.msgs.find? (fun m => match m.kind with
    | .access .zeleri w t a _ => w == write && t == tag && a == addr
    | _ => false)

/-- An RRD or RWR whose packet has come to its facet: the answer goes back as a SERVICE packet, which enters the network in
a SERVICE or stretch slot (R346, R347). -/
def accessServe (s : State) (m : ChordMsg) (write : Bool) (tag addr data : Nat) : State :=
  let s := setZl (packetDrop s m) (fun z =>
    { z with admitted := z.admitted.eraseP (fun t => t.ttype == (if write then 4 else 3) && t.tag == tag && t.addr == addr),
             arrivals := Assoc.put (256 * (if write then 4 else 3) + tag) none z.arrivals })
  let (n, u) := match facetAt s (addr / 4096) with
    | some b => chordUnit b
    | none => (m.node, 0)
  let (s, st, v) := facetServe s write addr data
  chordSend s (.answer .zeleri write tag addr st v) n u 32 2 true

/-- An RRD or RWR that its row brings, with the link READY and its slot open (R474): to a facet it sets out as a packet. -/
def zlSetOut (s : State) (t : Transaction) : State :=
  if zlUp s && svcOpen s && !admitBlocked s t then zlAccess s t else s

/-- RRD: a facet register, or a word of the Gnomon. -/
def execRrd (tag addr : Nat) (s : State) : Host.Outcome State Fault Refusal :=
  .next (match accessMsg s false tag addr with
    | some m => if hubUp s && (landedMsg s m.id).isSome then accessServe s m false tag addr 0 else s
    | none =>
      if (facetAt s (addr / 4096)).isSome then zlSetOut s ⟨3, tag, 0, 0, false, 0, addr, 0, 0, 0, [], []⟩
      else match zlTake s 3 tag addr with
        | none => s
        | some s =>
          if addr < 0x100000 ∧ addr % 4 = 0 then zlComplete s tag 0 (leNat (gnomonRead s addr 4)) 0 [] [] else zlComplete s tag 1 0 0 [] [])

/-- RWR. -/
def execRwr (tag addr : Nat) (data : Word) (s : State) : Host.Outcome State Fault Refusal :=
  .next (match accessMsg s true tag addr with
    | some m => if hubUp s && (landedMsg s m.id).isSome then accessServe s m true tag addr data.toNat else s
    | none =>
      if (facetAt s (addr / 4096)).isSome then zlSetOut s ⟨4, tag, 0, 0, false, 0, addr, data.toNat, 0, 0, [], []⟩
      else match zlTake s 4 tag addr with
        | none => s
        | some s => zlComplete s tag 1 0 0 [] [])

/-- Register packets that their rows brought are served where they have landed whole; an admitted one waits for its row. -/
def accessesLand (s : State) : State :=
  (s.chord.msgs.filter (fun m => m.id == m.pkt && (landedMsg s m.id).isSome)).foldl (fun s m =>
    match m.kind with
    | .access .zeleri w tag addr v =>
      if s.zl.admitted.any (fun t => t.ttype == (if w then 4 else 3) && t.tag == tag && t.addr == addr) then s
      else accessServe s m w tag addr v
    | _ => s) s

/-- An answer that has reached its requester (R346): the Zeleri link completes the transaction, a processor or V-core
is told; an access error of a V-core is an access fault (R19, R58). -/
def answerLand (s : State) (m : ChordMsg) : State :=
  match m.kind with
  | .answer who write tag addr st v =>
    let s := packetDrop s m
    match who with
    | .zeleri => zlComplete (zlLost s (if write then 4 else 3) tag) tag st v 0 [] []
    | .vcore k =>
      let s := addOut s (.regAnswer who addr st)
      if st = 0 then s else accessFault s k (vc s k).pc addr
    | _ => addOut s (.regAnswer who addr st)
  | _ => s

/-- The answers that have landed whole by now, in the order of R342. -/
def answersLand (s : State) : State :=
  let s := accessesLand s
  (s.chord.msgs.filter (fun m => m.id == m.pkt && (landedMsg s m.id).isSome)).foldl answerLand s

/-! ## Sideband (20) -/

/-- The I2C slave answers (R630): from step 4 of a bring-up, and in every power state but Off and Hold. -/
def i2cUp (s : State) : Bool := hubUp s || s.power == .tripped

/-- The status block (R630). -/
def statusBlock (s : State) : List Byte :=
  let p := match s.power with
    | .ready => 3
    | .run => 4
    | .tripped => 5
    | _ => 1
  let flags := if s.shape.published then 1 + 2 * b2n s.shape.unfit + 4 * b2n (narrowPort s) else 0
  fit s.shape.serial 16 ++ leBytes 1 p ++ leBytes 1 flags ++ leBytes 2 (unsignedOf 16 (hotLogic s).1)
    ++ leBytes 2 (unsignedOf 16 (hotDram s).1) ++ leBytes 2 (min 65535 (s.th.p / 1000)) ++ leBytes 4 (getReg s ftBlk Off.FTIMER_FAULT_INFO)
    ++ leBytes 4 (getReg s ftBlk Off.FTIMER_FAULT_FRAME_LO) ++ List.replicate 224 0

/-- I2C_OFFSET_WRITE (R630). -/
def execI2cOffsetWrite (byte : Byte) (s : State) : Host.Outcome State Fault Refusal :=
  .next (if i2cUp s then setPins s (fun p => { p with i2cOff := byte.toNat }) else s)

/-- I2C_READ (R630): consecutive bytes from the read offset, wrapping after 0xFF. -/
def execI2cRead (count : Nat) (s : State) : Host.Outcome State Fault Refusal :=
  .next (if i2cUp s then
    let snap := if s.pins.i2cBlock = [] then statusBlock s else s.pins.i2cBlock
    let d := (List.range count).map (fun i => snap.getD ((s.pins.i2cOff + i) % 256) 0)
    addOut (setPins s (fun p => { p with i2cOut := snap, i2cReads := satAdd 65535 p.i2cReads 1 })) (.i2c d)
  else s)

/-- I2C_BLOCK_REFRESH (R630): every 10 ms. -/
def execI2cBlockRefresh (s : State) : Host.Outcome State Fault Refusal :=
  .next (if i2cUp s && decide (s.pins.i2cAt = 0 ∨ s.pins.i2cAt - 1 + 10 * cc1ms ≤ s.now) then
    setPins s (fun p => { p with i2cBlock := statusBlock s, i2cAt := s.now + 1 })
  else s)

/-- JTAG_INSTRUCTION (R632), by the place of its name in R632: 0 BYPASS, 1 SAMPLE/PRELOAD, 2 EXTEST,
3 EXTEST_PULSE, 4 EXTEST_TRAIN, 5 CLAMP, 6 HIGHZ; the last five act only while PERST_N is low, and every
other code acts as BYPASS. -/
def execJtagInstruction (code : Nat) (s : State) : Host.Outcome State Fault Refusal :=
  .next (setPins s (fun p => { p with jtag := if code = 1 then 1 else if 2 ≤ code ∧ code ≤ 6 ∧ !p.perstHigh then code else 0 }))

end Sys2Proof.Machine
end

