-- ==== Sys2Proof/Machine/ChordWords.lean ====
section
/-! DEFINITION. The words of the Chord network (R344-R346): what a message, or the first word of a SERVICE packet,
carries on its lane, and the words that follow a header. -/

namespace Sys2Proof.Machine

/-- The fields of a first word (R344): TYPE, NODE, UNIT, ARG. -/
structure ChordWord where
  ty : Nat
  node : Nat
  unit : Nat
  arg : Nat
deriving DecidableEq, Repr

/-- The 32 bits of the fields. -/
def ChordWord.bits (w : ChordWord) : Word :=
  BitVec.ofNat 32 (w.ty % 16 * 2 ^ 28 + w.node % 64 * 2 ^ 22 + w.unit % 64 * 2 ^ 16 + w.arg % 65536)

/-- The fields of 32 bits. -/
def chordFields (w : Word) : ChordWord :=
  ⟨fieldOf w.toNat 31 28, fieldOf w.toNat 27 22, fieldOf w.toNat 21 16, fieldOf w.toNat 15 0⟩

/-- Code of the valid wires in the first cc on lane A (R344): URGENT, notice, SERVICE; lane S has none. -/
def validCode (lane : Nat) : Nat := match lane with
  | 0 => 1
  | 1 => 2
  | 2 => 3
  | _ => 0

/-- Requester codes of the register packets (R346). -/
def requesterCode (who : Requester) : Nat := match who with
  | .mgmt => 0
  | .boot => 1
  | .zeleri => 2
  | .vcore v => 16 + v

/-- A word for the unit of a block. -/
def wordFor (ty b arg : Nat) : ChordWord := ⟨ty, (chordUnit b).1, (chordUnit b).2, arg⟩

/-- The first word of a message that local unit `unit` of its source node sent (R344, R345). A message for NODE 63
names no unit. A notice of CLASS 0, a SERVICE packet of one word, carries the TYPE of a notice (DESIGN CHOICE, log
entry 55). None for the end report of a page copy, which R382 gives no message of its own. -/
def headWord (s : State) (unit : Nat) (k : ChordKind) : Option ChordWord :=
  let counter (n : Nat) : Nat := if n < 2048 then n % 64 else n - 2048
  let facet (addr : Nat) : Nat := (facetAt s (addr / 4096)).getD (blk Ty.CHORD 32)
  match k with
  | .halt cause => some ⟨0, 63, 0, cause % 256⟩
  | .trip => some ⟨1, 63, 0, 0x32⟩
  | .fence b => some (wordFor 2 b 0)
  | .fault _ cause _ _ => some (wordFor 3 (blk Ty.CHORD 32) (unit % 256 * 256 + cause % 256))
  | .peerHalt .. => some (wordFor 3 (blk Ty.CHORD 32) (32 * 256 + 0x42))
  | .therm i level => some (wordFor 4 (blk Ty.SENSAGG 0) (i % 1024 * 64 + level % 4))
  | .event b line => some (wordFor 0 b (line % 32))
  | .arrive n wait _ => some (wordFor 1 (blk Ty.CHORD (counterNode n)) (b2n wait * 256 + counter n % 256))
  | .release n _ _ => some (if n < 2048 then wordFor 2 (blk Ty.CHORD (counterNode n)) (counter n % 256) else ⟨2, 63, 0, counter n % 256⟩)
  | .notice b line _ => some (wordFor 0 b (line % 32))
  | .access who write tag addr _ => some (wordFor (b2n write) (facet addr) (tag % 256 * 256 + requesterCode who))
  | .answer who write tag _ status _ =>
    some ⟨2 + b2n write, (requesterUnit who).1, (requesterUnit who).2, tag % 256 * 256 + status % 256⟩
  | .telem i _ => some (wordFor 4 (blk Ty.SENSAGG 0) (i % 65536))
  | .copyEnd _ _ => none

/-- The words after the first (R345, R346): the facet address, the data of a write, what a read returned, a sensor's
value. -/
def tailWords (k : ChordKind) : List Word := match k with
  | .access _ write _ addr data => BitVec.ofNat 32 addr :: (if write then [BitVec.ofNat 32 data] else [])
  | .answer _ write _ _ _ data => if write then [] else [BitVec.ofNat 32 data]
  | .telem _ v => [BitVec.ofNat 32 (unsignedOf 32 v)]
  | _ => []

/-- TYPEs that R345 lists, by lane. -/
def typeListed (lane ty : Nat) : Bool := match lane with
  | 0 => decide (ty ≤ 4)
  | 1 => ty == 0
  | 2 => decide (ty ≤ 4)
  | _ => decide (ty ≤ 2)

/-- NODE and UNIT codes that R344 gives a meaning: units 0-25 at the root, 0-31 and for an outer-ring stack 32 at a
stack node; a word for every node names no unit. -/
def placeListed (node unit : Nat) : Bool :=
  if node = 63 then true
  else if node = 32 then decide (unit ≤ 25)
  else decide (node < 32) && (decide (unit ≤ 31) || (unit == 32 && decide (12 ≤ node)))

/-- A first word that its receiver drops and counts (R345). -/
def wordReserved (lane : Nat) (w : Word) : Bool := !typeListed lane (chordFields w).ty

end Sys2Proof.Machine
end

