-- ==== Sys2Proof/Machine/Clock.lean ====
section
/-! DEFINITION. The end of a core clock cycle: what the units do on their own in it, and the start of the
next (log entry 1). -/

namespace Sys2Proof.Machine

/-- An action for each key of a unit table, ascending. -/
def eachKey {α : Type} (l : List (Nat × α)) (f : State → Nat → State) (s : State) : State := l.foldl (fun s x => f s x.1) s

/-- The stores of the cores at the end of a cc, in the order of R112, R114 and R207: load units, finishers, routers,
unscheduled requests. -/
def storesEnd (s : State) : State :=
  let s' := eachKey s.mcores finStores (eachKey s.mcores ldaReads s)
  coreReplies (coreServe (eachKey s'.routers routerEnd s') s)

/-- The columns at the end of a cc: requests served, then the commands of their streams. -/
def columnsEnd (s : State) : State :=
  let s := eachKey (s.cols.filter (fun x => x.2.queue != [])) colServe s
  if s.ft.onProg then eachKey (s.cols.filter (fun x => colBody s x.1 != [])) columnCommands s else s

/-- The units at the end of the cc: the stores and what the routers deliver, M-core pipes, waits for events, the
Chord network, the movers, the links. -/
def ccEnd (s : State) : State :=
  let s := storesEnd (columnsEnd s)
  let s := eachKey s.mcores mcoreEnd s
  let s := eachKey s.mcores (fun s g => syncEnd s (.mcore g)) s
  let s := eachKey s.vcores (fun s v => syncEnd s (.vcore v)) s
  let s := answersLand (chordTick s)
  let s := eachKey s.smovers moverCc s
  let s := eachKey s.hmovers hmCc s
  let s := ctrlCc (kvCc (eachKey s.mboxes mboxCc s))
  let s := eachKey s.gports gpCc s
  zlCc s

/-- Timers in a cc: the grace timer runs while a request stands and is not met (R511); the timers that a
Zeleri retry freezes move on with it (R585). -/
def ccTimers (s : State) : State :=
  let s := if s.th.request && !s.th.met then setTh s (fun t => { t with graceCc := t.graceCc + 1 }) else s
  if !retrying s.zl then s
  else
    { s with
        mboxes := s.mboxes.map (fun (q, x) => (q, { x with timer := if x.timer = 0 then 0 else x.timer + 1 })),
        hmovers := s.hmovers.map (fun (c, x) => (c, { x with reqs := x.reqs.map (fun r => { r with deadline := r.deadline + 1 }) })) }

/-- The units at the start of a cc: a HALT that the root sends in it, M-core readers and clear units. -/
def ccStart (s : State) : State := eachKey (haltSend s).mcores mcoreStart (haltSend s)

/-- The end of the cc where the stacks do no work, in retention hold and in Tripped: the hub's units and the Chord network
go on, and the Garlet ports until the core rails are off (R515, R517). -/
def hubEnd (s : State) : State :=
  let s := eachKey (s.routers.filter (fun x => x.1 == 32)) routerEnd s
  let s := eachKey s.hmovers hmCc (answersLand (chordTick s))
  let s := ctrlCc (kvCc (eachKey s.mboxes mboxCc s))
  zlCc (if s.power = .tripped then s else eachKey s.gports gpCc s)

/-- The next cc. A package whose hub is down lets time pass only. -/
def tickCc (s : State) : State :=
  if hubUp s then ccStart (let s := ccTimers (if stacksUp s then ccEnd s else hubEnd s); { s with now := s.now + 1 })
  else { s with now := s.now + 1 }

end Sys2Proof.Machine
end

