-- ==== Sys2Proof/Machine/Dispatch.lean ====
section
/-! DEFINITION. What each command does: one arm per constructor of Instr. -/

namespace Sys2Proof.Machine

def exec (i : Instr) (s : State) : Host.Outcome State Fault Refusal :=
  match i with
  | .localTick => Sys2Proof.Machine.execLocalTick s
  | .skewWindowClose => Sys2Proof.Machine.execSkewWindowClose s
  | .eventSettle => Sys2Proof.Machine.execEventSettle s
  | .commit => Sys2Proof.Machine.execCommit s
  | .tickMiss => Sys2Proof.Machine.execTickMiss s
  | .boundaryEnableApply => Sys2Proof.Machine.execBoundaryEnableApply s
  | .slot1Start => Sys2Proof.Machine.execSlot1Start s
  | .serviceSlotEntry => Sys2Proof.Machine.execServiceSlotEntry s
  | .tickMarker link m arr replay => Sys2Proof.Machine.execTickMarker link m arr replay s
  | .tickMarkerSend => Sys2Proof.Machine.execTickMarkerSend s
  | .resyncMarker link m arr => Sys2Proof.Machine.execResyncMarker link m arr s
  | .resyncCmd count => Sys2Proof.Machine.execResyncCmd count s
  | .delayProbe port m => Sys2Proof.Machine.execDelayProbe port m s
  | .delayEchoSend port => Sys2Proof.Machine.execDelayEchoSend port s
  | .delayEcho link m arr => Sys2Proof.Machine.execDelayEcho link m arr s
  | .load => Sys2Proof.Machine.execLoad s
  | .loadComplete => Sys2Proof.Machine.execLoadComplete s
  | .unload => Sys2Proof.Machine.execUnload s
  | .mac g o => Sys2Proof.Machine.execMac g o s
  | .macStep g => Sys2Proof.Machine.execMacStep g s
  | .macWriteback g => Sys2Proof.Machine.execMacWriteback g s
  | .lda g o => Sys2Proof.Machine.execLda g o s
  | .fin g o => Sys2Proof.Machine.execFin g o s
  | .finOutput g => Sys2Proof.Machine.execFinOutput g s
  | .clr g row rows => Sys2Proof.Machine.execClr g row rows s
  | .wait g slot cc => Sys2Proof.Machine.execWait g slot cc s
  | .waitRelease g => Sys2Proof.Machine.execWaitRelease g s
  | .syncSignal c target line => Sys2Proof.Machine.execSyncSignal c target line s
  | .syncWait c target line => Sys2Proof.Machine.execSyncWait c target line s
  | .syncArrive c target line => Sys2Proof.Machine.execSyncArrive c target line s
  | .syncArriveWait c target line => Sys2Proof.Machine.execSyncArriveWait c target line s
  | .loop g count len => Sys2Proof.Machine.execLoop g count len s
  | .setb g reg imm plog stride => Sys2Proof.Machine.execSetb g reg imm plog stride s
  | .addb g reg imm => Sys2Proof.Machine.execAddb g reg imm s
  | .brf g plog value skip => Sys2Proof.Machine.execBrf g plog value skip s
  | .fill g count rumask => Sys2Proof.Machine.execFill g count rumask s
  | .nop g => Sys2Proof.Machine.execNop g s
  | .tileEnd g => Sys2Proof.Machine.execTileEnd g s
  | .mcoreDone g => Sys2Proof.Machine.execMcoreDone g s
  | .vcoreNop v => Sys2Proof.Machine.execVcoreNop v s
  | .sop v sd sa sb fn => Sys2Proof.Machine.execSop v sd sa sb fn s
  | .saddi v sd sa imm => Sys2Proof.Machine.execSaddi v sd sa imm s
  | .smovk v sd q imm => Sys2Proof.Machine.execSmovk v sd q imm s
  | .sld v sd sa imm => Sys2Proof.Machine.execSld v sd sa imm s
  | .sst v sd sa imm => Sys2Proof.Machine.execSst v sd sa imm s
  | .beq v sa sb off => Sys2Proof.Machine.execBeq v sa sb off s
  | .bne v sa sb off => Sys2Proof.Machine.execBne v sa sb off s
  | .blt v sa sb off => Sys2Proof.Machine.execBlt v sa sb off s
  | .jmp v off => Sys2Proof.Machine.execJmp v off s
  | .csrr v sd idx => Sys2Proof.Machine.execCsrr v sd idx s
  | .waits v slot cc => Sys2Proof.Machine.execWaits v slot cc s
  | .waitsRelease v => Sys2Proof.Machine.execWaitsRelease v s
  | .tblw v sa mcmask u => Sys2Proof.Machine.execTblw v sa mcmask u s
  | .rld v sa sb => Sys2Proof.Machine.execRld v sa sb s
  | .rst v sa sb => Sys2Proof.Machine.execRst v sa sb s
  | .remoteAccessComplete v => Sys2Proof.Machine.execRemoteAccessComplete v s
  | .vcoreEnd v => Sys2Proof.Machine.execVcoreEnd v s
  | .vld v vd sa off => Sys2Proof.Machine.execVld v vd sa off s
  | .vst v vd sa off => Sys2Proof.Machine.execVst v vd sa off s
  | .vgather v vd sa vb t => Sys2Proof.Machine.execVgather v vd sa vb t s
  | .vscatter v vd sa vb t => Sys2Proof.Machine.execVscatter v vd sa vb t s
  | .vint v vd va vb t fn => Sys2Proof.Machine.execVint v vd va vb t fn s
  | .vflt v vd va vb t fn => Sys2Proof.Machine.execVflt v vd va vb t fn s
  | .vsel v vd va vb t => Sys2Proof.Machine.execVsel v vd va vb t s
  | .vbcast v vd sa t => Sys2Proof.Machine.execVbcast v vd sa t s
  | .vred v sd va t fn => Sys2Proof.Machine.execVred v sd va t fn s
  | .vcvt v vd va src t mod => Sys2Proof.Machine.execVcvt v vd va src t mod s
  | .vperm v vd va vb t => Sys2Proof.Machine.execVperm v vd va vb t s
  | .vsort v vd va vb t => Sys2Proof.Machine.execVsort v vd va vb t s
  | .vtopk v vd va vb t => Sys2Proof.Machine.execVtopk v vd va vb t s
  | .vrng v vd sa sb sc => Sys2Proof.Machine.execVrng v vd sa sb sc s
  | .streamTransfer g => Sys2Proof.Machine.execStreamTransfer g s
  | .portRequest col src => Sys2Proof.Machine.execPortRequest col src s
  | .columnDone col => Sys2Proof.Machine.execColumnDone col s
  | .rowStepStart col => Sys2Proof.Machine.execRowStepStart col s
  | .rowStepEnd col => Sys2Proof.Machine.execRowStepEnd col s
  | .queuePlace col => Sys2Proof.Machine.execQueuePlace col s
  | .withheldPrecharge => Sys2Proof.Machine.execWithheldPrecharge s
  | .refreshSlot col => Sys2Proof.Machine.execRefreshSlot col s
  | .scrubStepDue col => Sys2Proof.Machine.execScrubStepDue col s
  | .bondSubstitution col => Sys2Proof.Machine.execBondSubstitution col s
  | .calMem weak => Sys2Proof.Machine.execCalMem weak s
  | .calD2d weak => Sys2Proof.Machine.execCalD2d weak s
  | .calGarlet port eyes weak => Sys2Proof.Machine.execCalGarlet port eyes weak s
  | .sramWriteBack a => Sys2Proof.Machine.execSramWriteBack a s
  | .ctrlWriteBack blk word uncorr => Sys2Proof.Machine.execCtrlWriteBack blk word uncorr s
  | .slmAccess => Sys2Proof.Machine.execSlmAccess s
  | .flitArrival r port noise => Sys2Proof.Machine.execFlitArrival r port noise s
  | .reductionResult r => Sys2Proof.Machine.execReductionResult r s
  | .injection r m q => Sys2Proof.Machine.execInjection r m q s
  | .routerDone r => Sys2Proof.Machine.execRouterDone r s
  | .unscheduledFlit id noise => Sys2Proof.Machine.execUnscheduledFlit id noise s
  | .req id => Sys2Proof.Machine.execReq id s
  | .resp id => Sys2Proof.Machine.execResp id s
  | .d2dRetrainMarker e => Sys2Proof.Machine.execD2dRetrainMarker e s
  | .d2dMaskReply e => Sys2Proof.Machine.execD2dMaskReply e s
  | .d2dWidthConfirm e => Sys2Proof.Machine.execD2dWidthConfirm e s
  | .halt parityAt => Sys2Proof.Machine.execHalt parityAt s
  | .trip => Sys2Proof.Machine.execTrip s
  | .fence id parityBad => Sys2Proof.Machine.execFence id parityBad s
  | .fault id parityBad => Sys2Proof.Machine.execFault id parityBad s
  | .therm id parityBad => Sys2Proof.Machine.execTherm id parityBad s
  | .event id parityBad => Sys2Proof.Machine.execEvent id parityBad s
  | .arrive id parityBad => Sys2Proof.Machine.execArrive id parityBad s
  | .release id parityBad => Sys2Proof.Machine.execRelease id parityBad s
  | .notice id parityBad => Sys2Proof.Machine.execNotice id parityBad s
  | .chordTelem id parityBad => Sys2Proof.Machine.execChordTelem id parityBad s
  | .evtPinWrite k value => Sys2Proof.Machine.execEvtPinWrite k value s
  | .eventIn k => Sys2Proof.Machine.execEventIn k s
  | .pinHalt held => Sys2Proof.Machine.execPinHalt held s
  | .kvRequest rec => Sys2Proof.Machine.execKvRequest rec s
  | .copyEndReport id => Sys2Proof.Machine.execCopyEndReport id s
  | .prefixFlushed => Sys2Proof.Machine.execPrefixFlushed s
  | .descriptorStart m => Sys2Proof.Machine.execDescriptorStart m s
  | .descriptorComplete m => Sys2Proof.Machine.execDescriptorComplete m s
  | .hubDescriptorFetch ch => Sys2Proof.Machine.execHubDescriptorFetch ch s
  | .hubDescriptorComplete ch => Sys2Proof.Machine.execHubDescriptorComplete ch s
  | .hmoverTimeout ch => Sys2Proof.Machine.execHmoverTimeout ch s
  | .doorbell ch => Sys2Proof.Machine.execDoorbell ch s
  | .retry ch => Sys2Proof.Machine.execRetry ch s
  | .skip ch => Sys2Proof.Machine.execSkip ch s
  | .append q data scheduled => Sys2Proof.Machine.execAppend q data scheduled s
  | .close q scheduled => Sys2Proof.Machine.execClose q scheduled s
  | .read q len => Sys2Proof.Machine.execRead q len s
  | .staleTimeout q => Sys2Proof.Machine.execStaleTimeout q s
  | .garletRecord port rec uncorr corrected => Sys2Proof.Machine.execGarletRecord port rec uncorr corrected s
  | .portRelease port => Sys2Proof.Machine.execPortRelease port s
  | .portDone port => Sys2Proof.Machine.execPortDone port s
  | .haltBlock port b => Sys2Proof.Machine.execHaltBlock port b s
  | .mask port b => Sys2Proof.Machine.execMask port b s
  | .width port b => Sys2Proof.Machine.execWidth port b s
  | .swap port b => Sys2Proof.Machine.execSwap port b s
  | .retrain port b => Sys2Proof.Machine.execRetrain port b s
  | .laneSwap port => Sys2Proof.Machine.execLaneSwap port s
  | .garletTraining port e => Sys2Proof.Machine.execGarletTraining port e s
  | .qualifyEnd port badLanes uncorr symErrs => Sys2Proof.Machine.execQualifyEnd port badLanes uncorr symErrs s
  | .gportRetrainCmd port => Sys2Proof.Machine.execGportRetrainCmd port s
  | .zeleriGroup data ctrl arr => Sys2Proof.Machine.execZeleriGroup data ctrl arr s
  | .unackResend => Sys2Proof.Machine.execUnackResend s
  | .linkFail => Sys2Proof.Machine.execLinkFail s
  | .transactionAdmit => Sys2Proof.Machine.execTransactionAdmit s
  | .mrd tag len addr => Sys2Proof.Machine.execMrd tag len addr s
  | .mwr tag aop addr data checks => Sys2Proof.Machine.execMwr tag aop addr data checks s
  | .rrd tag addr => Sys2Proof.Machine.execRrd tag addr s
  | .rwr tag addr data => Sys2Proof.Machine.execRwr tag addr data s
  | .mbx tag q odd source data checks => Sys2Proof.Machine.execMbx tag q odd source data checks s
  | .mbr tag len q => Sys2Proof.Machine.execMbr tag len q s
  | .evt tag cls data => Sys2Proof.Machine.execEvt tag cls data s
  | .telem item value => Sys2Proof.Machine.execTelem item value s
  | .cpl tag status data checks => Sys2Proof.Machine.execCpl tag status data checks s
  | .hostHalt b => Sys2Proof.Machine.execHostHalt b s
  | .zeleriTraining e => Sys2Proof.Machine.execZeleriTraining e s
  | .zlinkRetrainCmd => Sys2Proof.Machine.execZlinkRetrainCmd s
  | .sensorRead reads => Sys2Proof.Machine.execSensorRead reads s
  | .graceExpiry => Sys2Proof.Machine.execGraceExpiry s
  | .thermalTrip => Sys2Proof.Machine.execThermalTrip s
  | .tripClear => Sys2Proof.Machine.execTripClear s
  | .telemStale => Sys2Proof.Machine.execTelemStale s
  | .lowFlow => Sys2Proof.Machine.execLowFlow s
  | .powerWindow => Sys2Proof.Machine.execPowerWindow s
  | .pmbusPoll reads => Sys2Proof.Machine.execPmbusPoll reads s
  | .backupSwitchover rail => Sys2Proof.Machine.execBackupSwitchover rail s
  | .mainReturn rail => Sys2Proof.Machine.execMainReturn rail s
  | .railLost rail => Sys2Proof.Machine.execRailLost rail s
  | .retentionEntry rail => Sys2Proof.Machine.execRetentionEntry rail s
  | .selfRefreshReached => Sys2Proof.Machine.execSelfRefreshReached s
  | .plateMinute writeOk => Sys2Proof.Machine.execPlateMinute writeOk s
  | .swingJudgement => Sys2Proof.Machine.execSwingJudgement s
  | .ucalVal value => Sys2Proof.Machine.execUcalVal value s
  | .perstRise addrStraps factory => Sys2Proof.Machine.execPerstRise addrStraps factory s
  | .bringUp found => Sys2Proof.Machine.execBringUp found s
  | .warmBringUp => Sys2Proof.Machine.execWarmBringUp s
  | .packageReset => Sys2Proof.Machine.execPackageReset s
  | .controlReset blk => Sys2Proof.Machine.execControlReset blk s
  | .controlFence blk => Sys2Proof.Machine.execControlFence blk s
  | .controlEnable blk value => Sys2Proof.Machine.execControlEnable blk value s
  | .lock blk => Sys2Proof.Machine.execLock blk s
  | .flipArm col => Sys2Proof.Machine.execFlipArm col s
  | .faultInfoClear => Sys2Proof.Machine.execFaultInfoClear s
  | .registerWrite who addr value => Sys2Proof.Machine.execRegisterWrite who addr value s
  | .stage unit => Sys2Proof.Machine.execStage unit s
  | .stageComplete verifyError => Sys2Proof.Machine.execStageComplete verifyError s
  | .arm => Sys2Proof.Machine.execArm s
  | .disarm => Sys2Proof.Machine.execDisarm s
  | .activation => Sys2Proof.Machine.execActivation s
  | .health who proc word => Sys2Proof.Machine.execHealth who proc word s
  | .healthTimeout proc => Sys2Proof.Machine.execHealthTimeout proc s
  | .watchdogExpiry proc => Sys2Proof.Machine.execWatchdogExpiry proc s
  | .wdogKick proc => Sys2Proof.Machine.execWdogKick proc s
  | .heldWrite => Sys2Proof.Machine.execHeldWrite s
  | .recoveryStatus => Sys2Proof.Machine.execRecoveryStatus s
  | .recoveryLoad flashError => Sys2Proof.Machine.execRecoveryLoad flashError s
  | .recoveryRestart => Sys2Proof.Machine.execRecoveryRestart s
  | .attEvidence => Sys2Proof.Machine.execAttEvidence s
  | .attCertificates => Sys2Proof.Machine.execAttCertificates s
  | .attPublicKey => Sys2Proof.Machine.execAttPublicKey s
  | .i2cOffsetWrite byte => Sys2Proof.Machine.execI2cOffsetWrite byte s
  | .i2cRead count => Sys2Proof.Machine.execI2cRead count s
  | .i2cBlockRefresh => Sys2Proof.Machine.execI2cBlockRefresh s
  | .jtagInstruction code => Sys2Proof.Machine.execJtagInstruction code s
  | .d2dQualificationEnd e ownMask => Sys2Proof.Machine.execD2dQualificationEnd e ownMask s
  | .peerStreamStop port => Sys2Proof.Machine.execPeerStreamStop port s
  | .attestationComplete => Sys2Proof.Machine.execAttestationComplete s
  | .processorMemoryUncorr proc => Sys2Proof.Machine.execProcessorMemoryUncorr proc s

end Sys2Proof.Machine
end

