-- ==== Sys2Proof/Safety.lean ====
section
/-! DEFINITION. The terms in which claims about the package are stated: the invariant that every step keeps,
what a command leaves unchanged (its frame), and when a sequencer may issue. -/

namespace Sys2Proof.Machine

/-! ## The invariant -/

/-- The sparse tables that hold no entry equal to what an unlisted key reads as are in canonical form: device
memory, the stored check-bit differences and the facet registers. -/
structure Inv (s : State) : Prop where
  mem : Memory.wf s.mem = true
  synd : Assoc.sorted s.synd = true
  regs : Assoc.sorted s.regs = true

/-! ## Frames -/

/-- Only M-core `g` differs (and draws of free values). -/
def onlyMcore (g : Nat) (s t : State) : Prop :=
  t = { s with mcores := t.mcores, freeCtr := t.freeCtr } ∧ ∀ h, h ≠ g → mc t h = mc s h
/-- Only V-core `v` differs (and draws of free values). -/
def onlyVcore (v : Nat) (s t : State) : Prop :=
  t = { s with vcores := t.vcores, freeCtr := t.freeCtr } ∧ ∀ h, h ≠ v → vc t h = vc s h
/-- Only column `c` differs. -/
def onlyColumn (c : Nat) (s t : State) : Prop := t = { s with cols := t.cols } ∧ ∀ h, h ≠ c → col t h = col s h
/-- Only stack mover `m` differs. -/
def onlyMover (m : Nat) (s t : State) : Prop := t = { s with smovers := t.smovers } ∧ ∀ h, h ≠ m → smv t h = smv s h
/-- Only hub channel `c` differs. -/
def onlyChannel (c : Nat) (s t : State) : Prop := t = { s with hmovers := t.hmovers } ∧ ∀ h, h ≠ c → hmv t h = hmv s h
/-- Only die-to-die end `e` differs. -/
def onlyEnd (e : Nat) (s t : State) : Prop := t = { s with d2d := t.d2d } ∧ ∀ h, h ≠ e → dd t h = dd s h
/-- Only Garlet port `p` differs. -/
def onlyPort (p : Nat) (s t : State) : Prop := t = { s with gports := t.gports } ∧ ∀ h, h ≠ p → gp t h = gp s h
/-- Only Garlet port `p` differs, and GEN of the Gnomon, which moves on when the port capacity vector shows it (R33). -/
def onlyPortGen (p : Nat) (s t : State) : Prop :=
  t = { s with gports := t.gports, shape := { s.shape with gen := t.shape.gen } } ∧ ∀ h, h ≠ p → gp t h = gp s h
/-- Only facet register `off` of block entry `b` differs, and it holds `v`. -/
def onlyReg (b off v : Nat) (s t : State) : Prop :=
  t = { s with regs := t.regs } ∧ getReg t b off = v ∧ ∀ b' o', o' < 4096 → (b', o') ≠ (b, off) → getReg t b' o' = getReg s b' o'

/-- Every byte of device memory is as before outside `n` bytes at `a`. -/
def sameMemBut (a n : Nat) (s t : State) : Prop :=
  ∀ x, x < a ∨ a + n ≤ x → Memory.get t.mem x = Memory.get s.mem x

/-- The granules of a span of bytes read back as they were stored, and no supply loss has emptied them. -/
def spanClean (s : State) (a n : Nat) : Prop :=
  ∀ i ∈ granulesOf a n, granuleClass s i = .clean ∧ contentsLost s i = false

/-! ## Sequencers -/

/-- A V-core may issue the instruction at its program counter (R209): the instruction's registers `ss`, `vs` are
final and its units `us` free. -/
def VecMay (s : State) (v : Nat) (op : VInstr) (ss vs us : List Nat) : Prop :=
  v < vcoreCount ∧ vecReady s v op = true ∧ regsFinal (vc s v) ss vs s.now = true ∧ unitsFree (vc s v) us s.now = true

/-- The instruction has issued in this cc and the program counter stands at `pc`. -/
def VecIssued (s t : State) (v pc : Nat) : Prop :=
  (vc t v).pc = pc ∧ (vc t v).issued = s.now + 1 ∧ (vc t v).hold = .none

/-- No register of the V-core changes but scalar register `sd`, which holds `x` in 64 bits, final for readers `lat`
cc later; register 0 reads zero whatever is written. -/
def ScalarWrite (s t : State) (v sd x lat : Nat) : Prop :=
  (∀ i, sreg (vc t v) i = if i = sd ∧ sd ≠ 0 then x % 2 ^ 64 else sreg (vc s v) i)
    ∧ (∀ i, vreg (vc t v) i = vreg (vc s v) i) ∧ (sd ≠ 0 → Assoc.getD 0 sd (vc t v).sReady = s.now + lat)

/-- No register of the V-core changes but vector register `vd`, which holds `x`, final for readers `lat` cc later. -/
def VectorWrite (s t : State) (v vd : Nat) (x : VReg) (lat : Nat) : Prop :=
  (∀ i, vreg (vc t v) i = if i = vd then x else vreg (vc s v) i)
    ∧ (∀ i, sreg (vc t v) i = sreg (vc s v) i) ∧ Assoc.getD 0 vd (vc t v).vReady = s.now + lat

/-- The V-core's registers are as before. -/
def VecSame (s t : State) (v : Nat) : Prop := (vc t v).sregs = (vc s v).sregs ∧ (vc t v).vregs = (vc s v).vregs

/-- A tile operation may issue (R129): the package has the M-core and its sequencer stands at the operation. -/
def TileMay (s : State) (g : Nat) (op : TileOp) : Prop := g < mcoreCount ∧ tileReady s g op = true

/-- The tile operation has issued in this cc, no hold stands, and the sequencer stands where `goto` puts it (R138). -/
def TileIssued (s t : State) (g pc : Nat) : Prop :=
  (mc t g).pc = ((mc s g).goto pc).pc ∧ (mc t g).loops = ((mc s g).goto pc).loops ∧ (mc t g).issued = s.now + 1
    ∧ (mc t g).hold = .none

end Sys2Proof.Machine
end

