-- ==== Sys2Proof/WellFormed.lean ====
section
/-! DEFINITION. Well-formed commands: every operand names a unit that the package has and lies in the
range that its encoding or its register gives it. -/

namespace Sys2Proof

/-- A signed number that `w` bits hold. -/
def fitsInt (w : Nat) (x : Int) : Bool := decide (-(2 ^ (w - 1) : Int) ≤ x) && decide (x < (2 ^ (w - 1) : Int))
/-- Scalar and vector register numbers (06 V-core state). -/
def sregs (l : List Nat) : Bool := l.all (fun r => decide (r < 32))
def vregs (l : List Nat) : Bool := l.all (fun r => decide (r < 16))
/-- A link that carries markers: a Garlet port, or 0x40 for Zeleri (R73, R75). -/
def linkOk (l : Nat) : Bool := decide (l < 20) || l == 0x40
/-- Rails with a backup path (R496). -/
def backed (r : Nat) : Bool := decide (33 ≤ r ∧ r ≤ 37) || r == 40
/-- Data of a Zeleri transaction: 1-256 flits, one check word for each (R472, R479). -/
def dataOk (d : List (BitVec 256)) (c : List Word) : Bool :=
  decide (0 < d.length) && decide (d.length ≤ 256) && decide (c.length = d.length)

/-- Fields of MAC, LDA and FIN (R133-R135). -/
def MacOp.wf (o : MacOp) : Bool :=
  decide (o.mode < 2) && decide (o.wsrc < 2) && decide (o.wfmt < 16) && decide (o.afmt < 16) && decide (o.acc < 2) && decide (o.rumask < 16)
    && decide (o.arow < 128) && decide (o.areg < 4) && decide (o.aoff < 512) && decide (o.steps < 2048) && decide (o.wbase < 8)
    && decide (o.woff < 2048)
def LdaOp.wf (o : LdaOp) : Bool :=
  decide (o.areg < 4) && decide (o.side < 2) && decide (o.dline < 16) && decide (o.lines < 32) && decide (o.base < 8) && decide (o.off < 8192)
def FinOp.wf (o : FinOp) : Bool :=
  decide (o.arow < 512) && decide (o.rows < 256) && decide (o.ofmt < 16) && decide (o.func < 16) && decide (o.sat < 2) && decide (o.scaleEn < 2)
    && decide (o.smx < 2) && decide (o.dest < 4) && decide (o.dbase < 8) && decide (o.doff < 8192) && decide (o.sbbase < 8) && decide (o.sboff < 512)
/-- A tile operation whose fields fit their widths and whose KIND is not reserved (R132-R138). -/
def TileOp.wf (o : TileOp) : Bool :=
  match o with
  | .nop => true
  | .mac o => o.wf
  | .lda o => o.wf
  | .fin o => o.wf
  | .clr row rows => decide (row < 512) && decide (rows < 512)
  | .wait slot cc => decide (slot < 4096) && decide (cc < 64)
  | .sync kind target line => decide (kind < 4) && decide (target < 65536) && decide (line < 32)
  | .loop count len => decide (count < 4096) && decide (len < 4096)
  | .setb reg imm plog stride => decide (reg < 8) && decide (imm < 65536) && decide (plog < 16) && decide (stride < 4096)
  | .addb reg imm => decide (reg < 8) && fitsInt 16 imm
  | .brf plog value sk => decide (plog < 16) && decide (value < 65536) && decide (sk < 4096)
  | .fill count rumask => decide (count < 4096) && decide (rumask < 16)
  | .endFrame => true
/-- A V-core instruction whose fields fit their widths and that no reserved code refuses (R197-R199, R212). -/
def VInstr.wf (i : VInstr) : Bool :=
  match i with
  | .nop => true
  | .sop sd sa sb fn => sregs [sd, sa, sb] && decide (fn ≤ 19)
  | .saddi sd sa imm => sregs [sd, sa] && fitsInt 16 imm
  | .smovk sd q imm => sregs [sd] && decide (q < 4) && decide (imm < 65536)
  | .sld sd sa imm => sregs [sd, sa] && fitsInt 16 imm
  | .sst sd sa imm => sregs [sd, sa] && fitsInt 16 imm
  | .beq sa sb off => sregs [sa, sb] && fitsInt 16 off
  | .bne sa sb off => sregs [sa, sb] && fitsInt 16 off
  | .blt sa sb off => sregs [sa, sb] && fitsInt 16 off
  | .jmp off => fitsInt 26 off
  | .csrr sd idx => sregs [sd] && decide (idx ≤ 6)
  | .waits slot cc => decide (slot < 4096) && decide (cc < 64)
  | .sync kind target line => decide (kind < 4) && decide (target < 65536) && decide (line < 32)
  | .tblw sa mcmask u => sregs [sa] && decide (0 < mcmask) && decide (mcmask < 16) && decide (u < 8)
  | .rld sa sb => sregs [sa, sb]
  | .rst sa sb => sregs [sa, sb]
  | .endFrame => true
  | .vld vd sa off => vregs [vd] && sregs [sa] && fitsInt 10 off
  | .vst vd sa off => vregs [vd] && sregs [sa] && fitsInt 10 off
  | .vgather vd sa vb t => vregs [vd, vb] && sregs [sa] && decide (t < 8)
  | .vscatter vd sa vb t => vregs [vd, vb] && sregs [sa] && decide (t < 8)
  | .vint vd va vb t fn => vregs [vd, va, vb] && intType t && decide (fn ≤ 12)
  | .vflt vd va vb t fn => vregs [vd, va, vb] && fltType t && decide (fn ≤ 11) && (decide (fn ≤ 9) || t == 4)
  | .vsel vd va vb t => vregs [vd, va, vb] && decide (t < 8)
  | .vbcast vd sa t => vregs [vd] && sregs [sa] && decide (t < 8)
  | .vred sd va t fn => sregs [sd] && vregs [va] && decide (fn ≤ 2) && decide (t < 8) && t != 5 && t != 6
  | .vcvt vd va src t mod => vregs [vd, va] && decide (src < 8) && decide (t < 8) && decide (mod < 32)
  | .vperm vd va vb t => vregs [vd, va, vb] && decide (t < 8)
  | .vsort vd va vb t => vregs [vd, va, vb] && (t == 2 || t == 4) && vd % 2 == 0
  | .vtopk vd va vb t => vregs [vd, va, vb] && (t == 2 || t == 4) && vd % 2 == 0
  | .vrng vd sa sb sc => vregs [vd] && sregs [sa, sb, sc]
/-- A core of the package. -/
def CoreId.wf (c : CoreId) : Bool :=
  match c with
  | .mcore g => decide (g < 128)
  | .vcore v => decide (v < 32)
/-- What a bring-up finds (R542-R544). -/
def BringUpIn.wf (i : BringUpIn) : Bool :=
  i.place.all (fun p => decide (p < 0x100000)) && i.fails.all (fun d => decide (d.block < 1188) && decide (1 ≤ d.unit) && decide (d.unit ≤ 10))
    && i.d2dBad.all (fun x => decide (x.1 < 112) && decide (x.2.1 < 2) && decide (x.2.2 < 23))
    && i.peers.all (fun p => decide (p.port < 20) && decide (p.ownMask < 512) && decide (p.peerMask < 512) && decide (p.peerPort < 20))
    && decide (i.reads.length ≤ 524)

/-- A well-formed command. -/
def Instr.wf (i : Instr) : Bool :=
  match i with
  | .localTick => true
  | .skewWindowClose => true
  | .eventSettle => true
  | .commit => true
  | .tickMiss => true
  | .boundaryEnableApply => true
  | .slot1Start => true
  | .serviceSlotEntry => true
  | .tickMarker link _ _ _ => linkOk link
  | .tickMarkerSend => true
  | .resyncMarker link _ _ => linkOk link
  | .resyncCmd count => decide (count < 64)
  | .delayProbe port _ => decide (port < 20)
  | .delayEchoSend port => decide (port < 20)
  | .delayEcho link _ _ => linkOk link
  | .load => true
  | .loadComplete => true
  | .unload => true
  | .mac g o => decide (g < 128) && o.wf
  | .macStep g => decide (g < 128)
  | .macWriteback g => decide (g < 128)
  | .lda g o => decide (g < 128) && o.wf
  | .fin g o => decide (g < 128) && o.wf
  | .finOutput g => decide (g < 128)
  | .clr g row rows => decide (g < 128) && decide (row < 512) && decide (rows < 512)
  | .wait g slot cc => decide (g < 128) && decide (slot < 4096) && decide (cc < 64)
  | .waitRelease g => decide (g < 128)
  | .syncSignal c target line => c.wf && decide (target < 65536) && decide (line < 32)
  | .syncWait c target line => c.wf && decide (target < 65536) && decide (line < 32)
  | .syncArrive c target line => c.wf && decide (target < 65536) && decide (line < 32)
  | .syncArriveWait c target line => c.wf && decide (target < 65536) && decide (line < 32)
  | .loop g count len => decide (g < 128) && decide (count < 4096) && decide (len < 4096)
  | .setb g reg imm plog stride => decide (g < 128) && decide (reg < 8) && decide (imm < 65536) && decide (plog < 16) && decide (stride < 4096)
  | .addb g reg imm => decide (g < 128) && decide (reg < 8) && fitsInt 16 imm
  | .brf g plog value sk => decide (g < 128) && decide (plog < 16) && decide (value < 65536) && decide (sk < 4096)
  | .fill g count rumask => decide (g < 128) && decide (count < 4096) && decide (rumask < 16)
  | .nop g => decide (g < 128)
  | .tileEnd g => decide (g < 128)
  | .mcoreDone g => decide (g < 128)
  | .vcoreNop v => decide (v < 32)
  | .sop v sd sa sb fn => decide (v < 32) && sregs [sd, sa, sb] && decide (fn ≤ 19)
  | .saddi v sd sa imm => decide (v < 32) && fitsInt 16 imm && sregs [sd, sa]
  | .smovk v sd q imm => decide (v < 32) && sregs [sd] && decide (q < 4) && decide (imm < 65536)
  | .sld v sd sa imm => decide (v < 32) && fitsInt 16 imm && sregs [sd, sa]
  | .sst v sd sa imm => decide (v < 32) && fitsInt 16 imm && sregs [sd, sa]
  | .beq v sa sb off => decide (v < 32) && fitsInt 16 off && sregs [sa, sb]
  | .bne v sa sb off => decide (v < 32) && fitsInt 16 off && sregs [sa, sb]
  | .blt v sa sb off => decide (v < 32) && fitsInt 16 off && sregs [sa, sb]
  | .jmp v off => decide (v < 32) && fitsInt 26 off
  | .csrr v sd idx => decide (v < 32) && sregs [sd] && decide (idx ≤ 6)
  | .waits v slot cc => decide (v < 32) && decide (slot < 4096) && decide (cc < 64)
  | .waitsRelease v => decide (v < 32)
  | .tblw v sa mcmask u => decide (v < 32) && sregs [sa] && decide (0 < mcmask) && decide (mcmask < 16) && decide (u < 8)
  | .rld v sa sb => decide (v < 32) && sregs [sa, sb]
  | .rst v sa sb => decide (v < 32) && sregs [sa, sb]
  | .remoteAccessComplete v => decide (v < 32)
  | .vcoreEnd v => decide (v < 32)
  | .vld v vd sa off => decide (v < 32) && vregs [vd] && sregs [sa] && fitsInt 10 off
  | .vst v vd sa off => decide (v < 32) && vregs [vd] && sregs [sa] && fitsInt 10 off
  | .vgather v vd sa vb t => decide (v < 32) && vregs [vd, vb] && sregs [sa] && decide (t < 8)
  | .vscatter v vd sa vb t => decide (v < 32) && vregs [vd, vb] && sregs [sa] && decide (t < 8)
  | .vint v vd va vb t fn => decide (v < 32) && vregs [vd, va, vb] && intType t && decide (fn ≤ 12)
  | .vflt v vd va vb t fn => decide (v < 32) && vregs [vd, va, vb] && fltType t && decide (fn ≤ 11) && (decide (fn ≤ 9) || t == 4)
  | .vsel v vd va vb t => decide (v < 32) && decide (t < 8) && vregs [vd, va, vb]
  | .vbcast v vd sa t => decide (v < 32) && vregs [vd] && sregs [sa] && decide (t < 8)
  | .vred v sd va t fn => decide (v < 32) && sregs [sd] && vregs [va] && decide (fn ≤ 2) && decide (t < 8) && t != 5 && t != 6
  | .vcvt v vd va src t mod => decide (v < 32) && vregs [vd, va] && decide (src < 8) && decide (t < 8) && decide (mod < 32)
  | .vperm v vd va vb t => decide (v < 32) && decide (t < 8) && vregs [vd, va, vb]
  | .vsort v vd va vb t => decide (v < 32) && vregs [vd, va, vb] && (t == 2 || t == 4) && vd % 2 == 0
  | .vtopk v vd va vb t => decide (v < 32) && vregs [vd, va, vb] && (t == 2 || t == 4) && vd % 2 == 0
  | .vrng v vd sa sb sc => decide (v < 32) && vregs [vd] && sregs [sa, sb, sc]
  | .streamTransfer g => decide (g < 128)
  | .portRequest col src => decide (col < 512) && (match src with | .router => true | .mover i => decide (i < 4))
  | .columnDone col => decide (col < 512)
  | .rowStepStart col => decide (col < 512)
  | .rowStepEnd col => decide (col < 512)
  | .queuePlace col => decide (col < 512)
  | .withheldPrecharge => true
  | .refreshSlot col => decide (col < 512)
  | .scrubStepDue col => decide (col < 512)
  | .bondSubstitution col => decide (col < 512)
  | .calMem weak => weak.all (fun x => decide (x.1 < 512) && decide (x.2 < 2304))
  | .calD2d weak => weak.all (fun x => decide (x.1 < 112) && decide (x.2.1 < 2) && decide (x.2.2 < 23))
  | .calGarlet port eyes weak => decide (port < 20) && decide (eyes.length ≤ 9) && weak.all (fun k => decide (k < 9))
  | .sramWriteBack a => decide (a < 2 ^ 51)
  | .ctrlWriteBack blk _ _ => decide (blk < 1188)
  | .slmAccess => true
  | .flitArrival r port _ => decide (r < 33) && decide (port < 32)
  | .reductionResult r => decide (r < 33)
  | .injection r m q => decide (r < 33) && decide (m < 4) && decide (q < 4)
  | .routerDone r => decide (r < 33)
  | .unscheduledFlit _ _ => true
  | .req _ => true
  | .resp _ => true
  | .d2dRetrainMarker e => decide (e < 112)
  | .d2dMaskReply e => decide (e < 112)
  | .d2dWidthConfirm e => decide (e < 112)
  | .halt parityAt => decide (parityAt < 2 ^ 33)
  | .trip => true
  | .fence _ _ => true
  | .fault _ _ => true
  | .therm _ _ => true
  | .event _ _ => true
  | .arrive _ _ => true
  | .release _ _ => true
  | .notice _ _ => true
  | .chordTelem _ _ => true
  | .evtPinWrite k _ => decide (k < 4)
  | .eventIn k => decide (k < 4)
  | .pinHalt _ => true
  | .kvRequest _ => true
  | .copyEndReport _ => true
  | .prefixFlushed => true
  | .descriptorStart m => decide (m < 128)
  | .descriptorComplete m => decide (m < 128)
  | .hubDescriptorFetch ch => decide (ch < 16)
  | .hubDescriptorComplete ch => decide (ch < 16)
  | .hmoverTimeout ch => decide (ch < 16)
  | .doorbell ch => decide (ch < 16)
  | .retry ch => decide (ch < 16)
  | .skip ch => decide (ch < 16)
  | .append q _ _ => decide (q < 128)
  | .close q _ => decide (q < 128)
  | .read q len => decide (q < 128) && decide (len < 256)
  | .staleTimeout q => decide (q < 128)
  | .garletRecord port _ _ corrected => decide (port < 20) && decide (corrected < 2 ^ 545)
  | .portRelease port => decide (port < 20)
  | .portDone port => decide (port < 20)
  | .haltBlock port _ => decide (port < 20)
  | .mask port _ => decide (port < 20)
  | .width port _ => decide (port < 20)
  | .swap port _ => decide (port < 20)
  | .retrain port _ => decide (port < 20)
  | .laneSwap port => decide (port < 20)
  | .garletTraining port e => decide (port < 20) && (match e with | .equalised m => decide (m < 512) | _ => true)
  | .qualifyEnd port badLanes _ symErrs => decide (port < 20) && badLanes.all (fun k => decide (k < 9)) && decide (symErrs.length ≤ 9)
  | .gportRetrainCmd port => decide (port < 20)
  | .zeleriGroup data _ _ => decide (data.length ≤ 16)
  | .unackResend => true
  | .linkFail => true
  | .transactionAdmit => true
  | .mrd tag len addr => decide (tag < 256) && decide (len < 256) && decide (addr < 2 ^ 48)
  | .mwr tag aop addr data checks => decide (tag < 256) && decide (aop < 16) && decide (addr < 2 ^ 48) && dataOk data checks
  | .rrd tag addr => decide (tag < 256) && decide (addr < 2 ^ 48)
  | .rwr tag addr _ => decide (tag < 256) && decide (addr < 2 ^ 48)
  | .mbx tag q _ _ data checks => decide (tag < 256) && decide (q < 64) && dataOk data checks
  | .mbr tag len q => decide (tag < 256) && decide (len < 256) && decide (64 ≤ q) && decide (q < 128)
  | .evt tag cls _ => decide (tag < 256) && decide (cls < 2)
  | .telem item _ => decide (item < 65536)
  | .cpl tag status data checks => decide (tag < 256) && decide (status < 256) && decide (checks.length = data.length)
  | .hostHalt _ => true
  | .zeleriTraining e => (match e with | .qualified a b => decide (a < 65536) && decide (b < 65536) | _ => true)
  | .zlinkRetrainCmd => true
  | .sensorRead reads => decide (reads.length ≤ 524) && reads.all (fun x => fitsInt 16 x)
  | .graceExpiry => true
  | .thermalTrip => true
  | .tripClear => true
  | .telemStale => true
  | .lowFlow => true
  | .powerWindow => true
  | .pmbusPoll reads => reads.all (fun r => decide (r.rail ≤ 40) && decide (r.mv < 65536) && decide (r.deciamps < 65536) && decide (r.status < 65536))
  | .backupSwitchover rail => backed rail
  | .mainReturn rail => decide (rail ≤ 32) || backed rail
  | .railLost rail => backed rail
  | .retentionEntry rail => decide (rail ≤ 32)
  | .selfRefreshReached => true
  | .plateMinute _ => true
  | .swingJudgement => true
  | .ucalVal value => fitsInt 16 value
  | .perstRise addrStraps _ => decide (addrStraps < 4)
  | .bringUp i => i.wf
  | .warmBringUp => true
  | .packageReset => true
  | .controlReset blk => decide (blk < 1188)
  | .controlFence blk => decide (blk < 1188)
  | .controlEnable blk _ => decide (blk < 1188)
  | .lock blk => decide (blk < 1188)
  | .flipArm col => decide (col < 512)
  | .faultInfoClear => true
  | .registerWrite who addr _ => decide (addr < 2 ^ 32) && (match who with | .vcore v => decide (v < 32) | _ => true)
  | .stage unit => decide (unit < 16)
  | .stageComplete _ => true
  | .arm => true
  | .disarm => true
  | .activation => true
  | .health _ proc _ => decide (proc < 2)
  | .healthTimeout proc => decide (proc < 2)
  | .watchdogExpiry proc => decide (proc < 2)
  | .wdogKick proc => decide (proc < 2)
  | .heldWrite => true
  | .recoveryStatus => true
  | .recoveryLoad _ => true
  | .recoveryRestart => true
  | .attEvidence => true
  | .attCertificates => true
  | .attPublicKey => true
  | .i2cOffsetWrite _ => true
  | .i2cRead count => decide (count ≤ 256)
  | .i2cBlockRefresh => true
  | .jtagInstruction code => decide (code < 256)
  | .d2dQualificationEnd e ownMask => decide (e < 112) && decide (ownMask < 2 ^ 46)
  | .peerStreamStop port => decide (port < 20)
  | .attestationComplete => true
  | .processorMemoryUncorr proc => decide (proc < 2)

end Sys2Proof
end

