-- ==== Sys2Proof/Certificates/Slice0/Obligations.lean ====
section
/-! DEFINITION. The statements about the package, each with the rule of the spec that it formalises. -/

open Sys2Proof Sys2Proof.Machine

/-! ## The queue and the clock -/

/-- A step takes the command at the front of the queue and is exec of it with the queue's rest. -/
def Obligations.StepRunsFrontCommand : Prop :=
  ∀ (c : Instr) (s : State), step { s with pending := c :: s.pending } = exec c s

/-- With no command waiting, a step is one core clock cycle: time goes on by one cc and nothing else of a
package whose hub is down changes (the model's own choice, log entry 1). -/
def Obligations.IdleStepIsOneCycle : Prop :=
  ∀ s : State, s.pending = [] →
    (∃ t, step s = .next t ∧ t.pending = [] ∧ t.now = s.now + 1) ∧
    (hubUp s = false → step s = .next { s with now := s.now + 1 })
/-! ## V-core (06) -/

/-- R198, R199, R201, R213: SOP, SADDI, SMOVK, VRED and CSRR write one scalar register, and nothing else of the
package changes but the V-core's own sequencer. -/
def Obligations.VcoreScalarResults : Prop :=
  (∀ (s : State) (v sd sa : Nat) (imm : Int), VecMay s v (.saddi sd sa imm) [sa] [] [] →
    ∃ t, exec (.saddi v sd sa imm) s = .next t ∧ onlyVcore v s t ∧ t.freeCtr = s.freeCtr ∧ VecIssued s t v ((vc s v).pc + 1)
      ∧ ScalarWrite s t v sd (unsignedOf 64 ((sreg (vc s v) sa : Int) + imm)) 1) ∧
  (∀ (s : State) (v sd q imm : Nat), VecMay s v (.smovk sd q imm) [sd] [] [] →
    ∃ t, exec (.smovk v sd q imm) s = .next t ∧ onlyVcore v s t ∧ t.freeCtr = s.freeCtr ∧ VecIssued s t v ((vc s v).pc + 1)
      ∧ ScalarWrite s t v sd (putField (sreg (vc s v) sd) (16 * q + 15) (16 * q) imm) 1) ∧
  (∀ (s : State) (v sd idx : Nat), VecMay s v (.csrr sd idx) [] [] [] →
    ∃ t, exec (.csrr v sd idx) s = .next t ∧ onlyVcore v s t ∧ t.freeCtr = s.freeCtr ∧ VecIssued s t v ((vc s v).pc + 1)
      ∧ ScalarWrite s t v sd (csrVal s v idx) 1) ∧
  (∀ (s : State) (v sd va ty fn : Nat), VecMay s v (.vred sd va ty fn) [] [va] [] →
    ∃ t, exec (.vred v sd va ty fn) s = .next t ∧ onlyVcore v s t ∧ t.freeCtr = s.freeCtr ∧ VecIssued s t v ((vc s v).pc + 1)
      ∧ ScalarWrite s t v sd (vredFn ty fn (vreg (vc s v) va)) 8) ∧
  (∀ (s : State) (v sd sa sb fn : Nat), VecMay s v (.sop sd sa sb fn) (sopReads sa sb fn) [] (sopUnits fn) →
    ∃ t fr, exec (.sop v sd sa sb fn) s = .next t ∧ onlyVcore v s t ∧ VecIssued s t v ((vc s v).pc + 1)
      ∧ ScalarWrite s t v sd (sopFn fn (sreg (vc s v) sa) (sreg (vc s v) sb) fr) (sopLat fn)
      ∧ (fn ≠ 18 ∨ (sF (sreg (vc s v) sa)).isNan = false → t.freeCtr = s.freeCtr))

/-- R198, R199, R200, R203: VINT, VFLT, VSEL, VBCAST, VCVT, VPERM and VRNG write one vector register, with its
elements as the rules give them, and nothing else of the package changes but the V-core's own sequencer. -/
def Obligations.VcoreVectorResults : Prop :=
  (∀ (s : State) (v vd va vb ty : Nat), VecMay s v (.vsel vd va vb ty) [] [va, vb, vd] [] →
    ∃ t, exec (.vsel v vd va vb ty) s = .next t ∧ onlyVcore v s t ∧ t.freeCtr = s.freeCtr ∧ VecIssued s t v ((vc s v).pc + 1)
      ∧ VectorWrite s t v vd (vMake ty (((vElems ty (vreg (vc s v) va)).zip ((vElems ty (vreg (vc s v) vb)).zip (vElems ty (vreg (vc s v) vd)))).map
          (fun x => if x.1 ≠ 0 then x.2.1 else x.2.2))) 2) ∧
  (∀ (s : State) (v vd sa ty : Nat), VecMay s v (.vbcast vd sa ty) [sa] [] [] →
    ∃ t, exec (.vbcast v vd sa ty) s = .next t ∧ onlyVcore v s t ∧ t.freeCtr = s.freeCtr ∧ VecIssued s t v ((vc s v).pc + 1)
      ∧ VectorWrite s t v vd (vMake ty (List.replicate (vCount ty) (sreg (vc s v) sa % 2 ^ vWidth ty))) 2) ∧
  (∀ (s : State) (v vd va vb ty : Nat), VecMay s v (.vperm vd va vb ty) [] [va, vb] [] →
    ∃ t, exec (.vperm v vd va vb ty) s = .next t ∧ onlyVcore v s t ∧ t.freeCtr = s.freeCtr ∧ VecIssued s t v ((vc s v).pc + 1)
      ∧ VectorWrite s t v vd (vMake ty ((vElems ty (vreg (vc s v) vb)).map
          (fun i => nth (vElems ty (vreg (vc s v) va)) (i % vCount ty)))) 2) ∧
  (∀ (s : State) (v vd sa sb sc : Nat), VecMay s v (.vrng vd sa sb sc) [sa, sb, sc] [] [uRng] →
    ∃ t, exec (.vrng v vd sa sb sc) s = .next t ∧ onlyVcore v s t ∧ t.freeCtr = s.freeCtr ∧ VecIssued s t v ((vc s v).pc + 1)
      ∧ VectorWrite s t v vd (vMake 2 (vrngWords (sreg (vc s v) sa) (sreg (vc s v) sc * 2 ^ 64 + sreg (vc s v) sb))) 20
      ∧ Assoc.getD 0 uRng (vc t v).busy = s.now + 4) ∧
  (∀ (s : State) (v vd va vb ty fn : Nat), VecMay s v (.vint vd va vb ty fn) [] [va, vb] [] →
    ∃ t fr, exec (.vint v vd va vb ty fn) s = .next t ∧ onlyVcore v s t ∧ VecIssued s t v ((vc s v).pc + 1)
      ∧ VectorWrite s t v vd (vMake ty (((vElems ty (vreg (vc s v) va)).zip (vElems ty (vreg (vc s v) vb))).zipIdx.map
          (fun x => vintFn (vWidth ty) fn x.1.1 x.1.2 (fr >>> (vWidth ty * x.2))))) 2) ∧
  (∀ (s : State) (v vd va vb ty fn : Nat),
    VecMay s v (.vflt vd va vb ty fn) [] (vfltReads vd va vb fn) (if fn = 8 ∨ fn = 9 then [uVdiv] else []) →
    ∃ t, exec (.vflt v vd va vb ty fn) s = .next t ∧ onlyVcore v s t ∧ t.freeCtr = s.freeCtr ∧ VecIssued s t v ((vc s v).pc + 1)
      ∧ VectorWrite s t v vd (vMake ty (((vElems ty (vreg (vc s v) va)).zip ((vElems ty (vreg (vc s v) vb)).zip (vElems ty (vreg (vc s v) vd)))).map
          (fun x => vfltFn ty fn (vc s v).csrSat x.1 x.2.1 x.2.2))) (vfltLat fn)) ∧
  (∀ (s : State) (v vd va src ty mod : Nat), VecMay s v (.vcvt vd va src ty mod) [] (vcvtReads vd va src ty) [] →
    ∃ t fr, exec (.vcvt v vd va src ty mod) s = .next t ∧ onlyVcore v s t ∧ VecIssued s t v ((vc s v).pc + 1)
      ∧ VectorWrite s t v vd (vcvtReg src ty mod (vreg (vc s v) vd) (vreg (vc s v) va) fr) 2)

/-- R202: VSORT and VTOPK write the register pair vd, vd + 1, and nothing else of the package changes but the
V-core's own sequencer. -/
def Obligations.VcorePairResults : Prop :=
  (∀ (s : State) (v vd va vb ty : Nat), VecMay s v (.vsort vd va vb ty) [] [va, vb] [uSort] →
    ∃ t, exec (.vsort v vd va vb ty) s = .next t ∧ onlyVcore v s t ∧ t.freeCtr = s.freeCtr ∧ VecIssued s t v ((vc s v).pc + 1)
      ∧ (∀ i, vreg (vc t v) i =
          if i = vd + 1 then vMake 2 ((pairSort ty (pairsOf (vreg (vc s v) va) (vreg (vc s v) vb))).map Prod.snd)
          else if i = vd then vMake 2 ((pairSort ty (pairsOf (vreg (vc s v) va) (vreg (vc s v) vb))).map Prod.fst)
          else vreg (vc s v) i)
      ∧ (vc t v).sregs = (vc s v).sregs ∧ Assoc.getD 0 vd (vc t v).vReady = s.now + 24
      ∧ Assoc.getD 0 (vd + 1) (vc t v).vReady = s.now + 24 ∧ Assoc.getD 0 uSort (vc t v).busy = s.now + 24) ∧
  (∀ (s : State) (v vd va vb ty : Nat), VecMay s v (.vtopk vd va vb ty) [] [va, vb, vd, vd + 1] [uSort] →
    ∃ t, exec (.vtopk v vd va vb ty) s = .next t ∧ onlyVcore v s t ∧ t.freeCtr = s.freeCtr ∧ VecIssued s t v ((vc s v).pc + 1)
      ∧ (∀ i, vreg (vc t v) i =
          if i = vd + 1 then (vtopkRegs ty (vreg (vc s v) vd) (vreg (vc s v) (vd + 1)) (vreg (vc s v) va) (vreg (vc s v) vb)).2
          else if i = vd then (vtopkRegs ty (vreg (vc s v) vd) (vreg (vc s v) (vd + 1)) (vreg (vc s v) va) (vreg (vc s v) vb)).1
          else vreg (vc s v) i)
      ∧ (vc t v).sregs = (vc s v).sregs ∧ Assoc.getD 0 vd (vc t v).vReady = s.now + 12
      ∧ Assoc.getD 0 (vd + 1) (vc t v).vReady = s.now + 12 ∧ Assoc.getD 0 uSort (vc t v).busy = s.now + 12)

/-- R199: the integer functions of SOP as operations on 64-bit words; a comparison writes all ones for true and zero
for false, and a shift takes the low six bits of its count.
R198: a vector register holds as many elements as its type gives, element i in bits [w·i + w - 1 : w·i]; making a
register of its elements gives it back, and the elements of a made register are the ones it was made of.
R202: what VSORT writes is a permutation of the pairs it reads. -/
def Obligations.VcoreFunctionLaws : Prop :=
  (∀ (a b : BitVec 64) (fr : Nat),
      let f (fn : Nat) : BitVec 64 := BitVec.ofNat 64 (sopFn fn a.toNat b.toNat fr)
      f 0 = a + b ∧ f 1 = a - b ∧ f 2 = a * b ∧ f 3 = a &&& b ∧ f 4 = a ||| b ∧ f 5 = a ^^^ b ∧
      f 6 = a <<< (b.toNat % 64) ∧ f 7 = a >>> (b.toNat % 64) ∧ f 8 = a.sshiftRight (b.toNat % 64) ∧
      f 9 = (if a.slt b then BitVec.allOnes 64 else 0) ∧ f 10 = (if a.ult b then BitVec.allOnes 64 else 0) ∧
      f 11 = (if b.slt a then b else a) ∧ f 12 = (if a.slt b then b else a)) ∧
  ((∀ (ty : Nat) (x : VReg), ty < 8 → vMake ty (vElems ty x) = x) ∧
    (∀ (ty : Nat) (l : List Nat), ty < 8 → l.length = vCount ty → (∀ e ∈ l, e < 2 ^ vWidth ty) → vElems ty (vMake ty l) = l)) ∧
  (∀ (ty : Nat) (l : List (Nat × Nat)), (pairSort ty l).Perm l)
/-- R198, R209: BEQ, BNE, BLT and JMP move the program counter to the branch's own address plus its offset when
taken, to the next instruction when not; a taken branch lets the next instruction issue 3 cc later. No register changes. -/
def Obligations.VcoreBranches : Prop :=
  let Taken (s t : State) (v : Nat) (off : Int) : Prop :=
    onlyVcore v s t ∧ t.freeCtr = s.freeCtr ∧ VecIssued s t v (((vc s v).pc : Int) + off).toNat ∧ (vc t v).nextIssue = s.now + 3 ∧ VecSame s t v
  let Next (s t : State) (v : Nat) : Prop :=
    onlyVcore v s t ∧ t.freeCtr = s.freeCtr ∧ VecIssued s t v ((vc s v).pc + 1) ∧ (vc t v).nextIssue = (vc s v).nextIssue ∧ VecSame s t v
  (∀ (s : State) (v sa sb : Nat) (off : Int), VecMay s v (.beq sa sb off) [sa, sb] [] [] →
    ∃ t, exec (.beq v sa sb off) s = .next t ∧ (if sreg (vc s v) sa = sreg (vc s v) sb then Taken s t v off else Next s t v)) ∧
  (∀ (s : State) (v sa sb : Nat) (off : Int), VecMay s v (.bne sa sb off) [sa, sb] [] [] →
    ∃ t, exec (.bne v sa sb off) s = .next t ∧ (if sreg (vc s v) sa ≠ sreg (vc s v) sb then Taken s t v off else Next s t v)) ∧
  (∀ (s : State) (v sa sb : Nat) (off : Int), VecMay s v (.blt sa sb off) [sa, sb] [] [] →
    ∃ t, exec (.blt v sa sb off) s = .next t ∧
      (if signedOf 64 (sreg (vc s v) sa) < signedOf 64 (sreg (vc s v) sb) then Taken s t v off else Next s t v)) ∧
  (∀ (s : State) (v : Nat) (off : Int), VecMay s v (.jmp off) [] [] [] →
    ∃ t, exec (.jmp v off) s = .next t ∧ Taken s t v off)

/-- R198, R210: NOP only goes on; WAITS holds the V-core until its frame position; the hold ends in the first cc at or
after that position, with WAIT_LATE when the WAITS issued after it; END finishes the frame's work, and so does running
past the last instruction. -/
def Obligations.VcoreSequencing : Prop :=
  (∀ (s : State) (v : Nat), VecMay s v .nop [] [] [] →
    ∃ t, exec (.vcoreNop v) s = .next t ∧ onlyVcore v s t ∧ VecIssued s t v ((vc s v).pc + 1) ∧ VecSame s t v) ∧
  (∀ (s : State) (v slot cc : Nat), VecMay s v (.waits slot cc) [] [] [] →
    ∃ t, exec (.waits v slot cc) s = .next t ∧ onlyVcore v s t ∧ (vc t v).pc = (vc s v).pc + 1 ∧ (vc t v).hold = .position slot cc
      ∧ (vc t v).issued = s.now + 1 ∧ VecSame s t v) ∧
  (∀ (s : State) (v slot cc : Nat), v < vcoreCount → (vc s v).hold = .position slot cc → workOpen s (blk Ty.VCORE v) = true →
    64 * slot + cc ≤ frameCc s →
    ∃ t, exec (.waitsRelease v) s = .next t ∧ (vc t v).hold = .none ∧ VecSame s t v ∧ t.mem = s.mem
      ∧ (64 * slotAt s ((vc s v).issued - 1) + ccAt s ((vc s v).issued - 1) ≤ 64 * slot + cc → onlyVcore v s t)
      ∧ (64 * slot + cc < 64 * slotAt s ((vc s v).issued - 1) + ccAt s ((vc s v).issued - 1) → Inv s →
          (errSummary t (blk Ty.VCORE v)).testBit Err.VCORE_WAIT_LATE = true)) ∧
  (∀ (s : State) (v : Nat), v < vcoreCount → vecReady s v .endFrame = true →
    ∃ t, exec (.vcoreEnd v) s = .next t ∧ onlyVcore v s t ∧ (vc t v).done = true ∧ VecSame s t v) ∧
  (∀ (s : State) (v : Nat), v < vcoreCount → workOpen s (blk Ty.VCORE v) = true → (vc s v).running = true →
    (vc s v).stopped = false → (vc s v).done = false → (vc s v).fenced = false → (vc s v).issued ≠ s.now + 1 →
    vHoldFree (vc s v).hold s.now = true → vecCount (vecBody s v) ≤ (vc s v).pc →
    ∃ t, exec (.vcoreEnd v) s = .next t ∧ onlyVcore v s t ∧ (vc t v).done = true ∧ VecSame s t v)

/-- R198, R204: SLD and VLD read local memory that stands in clean granules into their register; memory is as before.
R198, R204, R206: a vector gather reads each element at its own address, an index times the element size past the
base; one whose elements are all in local memory, aligned and in clean granules fills the register; memory is as before. -/
def Obligations.VcoreLoads : Prop :=
  ((∀ (s : State) (v sd sa : Nat) (imm : Int), VecMay s v (.sld sd sa imm) [sa] [] [uPort] →
      let a := unsignedOf 64 ((sreg (vc s v) sa : Int) + imm)
      remoteClear (vc s v) a 8 = true → a % 8 = 0 → a + 8 ≤ 0x400000 → spanClean s (vmemAddr v a) 8 →
      ∃ t, exec (.sld v sd sa imm) s = .next t ∧ onlyVcore v s t ∧ VecIssued s t v ((vc s v).pc + 1)
        ∧ ScalarWrite s t v sd (leNat (rawRead s (vmemAddr v a) 8)) 4) ∧
    (∀ (s : State) (v vd sa : Nat) (off : Int), VecMay s v (.vld vd sa off) [sa] [] [uPort] →
      let a := unsignedOf 64 ((sreg (vc s v) sa : Int) + 32 * off)
      remoteClear (vc s v) a 256 = true → a % 32 = 0 → a + 256 ≤ 0x400000 → spanClean s (vmemAddr v a) 256 →
      ∃ t, exec (.vld v vd sa off) s = .next t ∧ onlyVcore v s t ∧ VecIssued s t v ((vc s v).pc + 1)
        ∧ VectorWrite s t v vd (BitVec.ofNat 2048 (leNat (rawRead s (vmemAddr v a) 256))) 6)) ∧
  (∀ (s : State) (v vd sa vb ty : Nat), VecMay s v (.vgather vd sa vb ty) [sa] [vb] [uGather, uPort] →
      let w := vWidth ty / 8
      let as := (vElems ty (vreg (vc s v) vb)).map (fun i => (sreg (vc s v) sa + i * w) % 2 ^ 64)
      (∀ a ∈ as, remoteClear (vc s v) a w = true ∧ a % w = 0 ∧ a + w ≤ 0x400000 ∧ spanClean s (vmemAddr v a) w) →
      ∃ t, exec (.vgather v vd sa vb ty) s = .next t ∧ onlyVcore v s t ∧ VecIssued s t v ((vc s v).pc + 1)
        ∧ VectorWrite s t v vd (vMake ty (as.map (fun a => leNat (rawRead s (vmemAddr v a) w)))) (ceilDiv (vCount ty) 8 + 6))

/-- R198, R204, R206, R638: SST and VST store to local memory, byte i of the register at address a + i, and every other
byte keeps its value (SST's granule clean: a narrow store reads, merges and writes its granule); no register changes.
R206: VSCATTER writes each element to its address; where two elements share an address the one of the higher index
is left, and every byte that no element covers keeps its value. -/
def Obligations.VcoreStores : Prop :=
  ((∀ (s : State) (v sd sa : Nat) (imm : Int), Inv s → VecMay s v (.sst sd sa imm) [sd, sa] [] [] →
      let a := unsignedOf 64 ((sreg (vc s v) sa : Int) + imm)
      a % 8 = 0 → a + 8 ≤ 0x400000 → spanClean s (vmemAddr v a) 8 →
      ∃ t, exec (.sst v sd sa imm) s = .next t ∧ VecIssued s t v ((vc s v).pc + 1) ∧ VecSame s t v
        ∧ rawRead t (vmemAddr v a) 8 = leBytes 8 (sreg (vc s v) sd) ∧ sameMemBut (vmemAddr v a) 8 s t ∧ t.regs = s.regs) ∧
    (∀ (s : State) (v vd sa : Nat) (off : Int), Inv s → VecMay s v (.vst vd sa off) [sa] [vd] [] →
      let a := unsignedOf 64 ((sreg (vc s v) sa : Int) + 32 * off)
      a % 32 = 0 → a + 256 ≤ 0x400000 →
      ∃ t, exec (.vst v vd sa off) s = .next t ∧ VecIssued s t v ((vc s v).pc + 1) ∧ VecSame s t v
        ∧ rawRead t (vmemAddr v a) 256 = leBytes 256 (vreg (vc s v) vd).toNat ∧ sameMemBut (vmemAddr v a) 256 s t ∧ t.regs = s.regs)) ∧
  (∀ (s : State) (v vd sa vb ty : Nat), Inv s → VecMay s v (.vscatter vd sa vb ty) [sa] [vd, vb] [uGather] →
      let w := vWidth ty / 8
      let as := (vElems ty (vreg (vc s v) vb)).map (fun i => (sreg (vc s v) sa + i * w) % 2 ^ 64)
      (∀ a ∈ as, a % w = 0 ∧ a + w ≤ 0x400000 ∧ spanClean s (vmemAddr v a) w) →
      ∃ t, exec (.vscatter v vd sa vb ty) s = .next t ∧ VecIssued s t v ((vc s v).pc + 1) ∧ VecSame s t v ∧ t.regs = s.regs
        ∧ (∀ k, k < as.length → (∀ j, k < j → j < as.length → nth as j ≠ nth as k) →
            rawRead t (vmemAddr v (nth as k)) w = leBytes w (nth (vElems ty (vreg (vc s v) vd)) k))
        ∧ (∀ x, (∀ a ∈ as, x < vmemAddr v a ∨ vmemAddr v a + w ≤ x) → Memory.get t.mem x = Memory.get s.mem x))
/-- R205: an SLD, SST, VLD or VST whose address is misaligned or outside local memory stops the V-core: the facet
keeps the faulting PC and address, ACCESS_FAULT is set, and no register and no byte of memory changes. -/
def Obligations.VcoreAccessFault : Prop :=
  let Faulted (s t : State) (v a : Nat) : Prop :=
    (vc t v).stopped = true ∧ VecSame s t v ∧ t.mem = s.mem
      ∧ getReg t (blk Ty.VCORE v) Off.VCORE_FAULT_PC = (vc s v).pc % 2 ^ 14
      ∧ getReg t (blk Ty.VCORE v) Off.VCORE_FAULT_ADDR_LO = a % 2 ^ 32
      ∧ getReg t (blk Ty.VCORE v) Off.VCORE_FAULT_ADDR_HI = a / 2 ^ 32 % 2 ^ 16
      ∧ (errSummary t (blk Ty.VCORE v)).testBit Err.VCORE_ACCESS_FAULT = true
  (∀ (s : State) (v sd sa : Nat) (imm : Int), Inv s → VecMay s v (.sld sd sa imm) [sa] [] [uPort] →
    let a := unsignedOf 64 ((sreg (vc s v) sa : Int) + imm)
    remoteClear (vc s v) a 8 = true → a % 8 ≠ 0 ∨ 0x400000 < a + 8 →
    ∃ t, exec (.sld v sd sa imm) s = .next t ∧ Faulted s t v a) ∧
  (∀ (s : State) (v sd sa : Nat) (imm : Int), Inv s → VecMay s v (.sst sd sa imm) [sd, sa] [] [] →
    let a := unsignedOf 64 ((sreg (vc s v) sa : Int) + imm)
    a % 8 ≠ 0 ∨ 0x400000 < a + 8 → ∃ t, exec (.sst v sd sa imm) s = .next t ∧ Faulted s t v a) ∧
  (∀ (s : State) (v vd sa : Nat) (off : Int), Inv s → VecMay s v (.vld vd sa off) [sa] [] [uPort] →
    let a := unsignedOf 64 ((sreg (vc s v) sa : Int) + 32 * off)
    remoteClear (vc s v) a 256 = true → a % 32 ≠ 0 ∨ 0x400000 < a + 256 →
    ∃ t, exec (.vld v vd sa off) s = .next t ∧ Faulted s t v a) ∧
  (∀ (s : State) (v vd sa : Nat) (off : Int), Inv s → VecMay s v (.vst vd sa off) [sa] [vd] [] →
    let a := unsignedOf 64 ((sreg (vc s v) sa : Int) + 32 * off)
    a % 32 ≠ 0 ∨ 0x400000 < a + 256 → ∃ t, exec (.vst v vd sa off) s = .next t ∧ Faulted s t v a)

/-- R208: RLD and RST send one request for the granule, and the V-core waits on it; when the reply has come with
status 0, a read's 32 bytes stand in local memory; RST's reply only ends the wait.
R191, R192, R193: TBLW puts the 3,104-byte record at its local address into the staged copy of table u of each good
M-core that its mask names; the active copies, memory and the V-core's registers are as before. -/
def Obligations.VcoreRemoteAndTables : Prop :=
  ((∀ (s : State) (v sa sb : Nat), VecMay s v (.rld sa sb) [sa, sb] [] [] → (vc s v).remote = none →
      sreg (vc s v) sa % 32 = 0 → sreg (vc s v) sb % 32 = 0 → sreg (vc s v) sb + 32 ≤ 0x400000 →
      ∃ t p, exec (.rld v sa sb) s = .next t ∧ (vc t v).remote = some ⟨false, sreg (vc s v) sa, sreg (vc s v) sb, (vc s v).pc, none⟩
        ∧ t.packets = s.packets ++ [p] ∧ p.write = false ∧ p.addr = direct (sreg (vc s v) sa) ∧ t.nextPacket = s.nextPacket + 1
        ∧ VecSame s t v ∧ t.mem = s.mem ∧ t.regs = s.regs) ∧
    (∀ (s : State) (v sa sb : Nat), VecMay s v (.rst sa sb) [sa, sb] [] [] → (vc s v).remote = none →
      sreg (vc s v) sa % 32 = 0 → sreg (vc s v) sb % 32 = 0 → sreg (vc s v) sb + 32 ≤ 0x400000 → spanClean s (vmemAddr v (sreg (vc s v) sb)) 32 →
      ∃ t p, exec (.rst v sa sb) s = .next t ∧ (vc t v).remote = some ⟨true, sreg (vc s v) sa, sreg (vc s v) sb, (vc s v).pc, none⟩
        ∧ t.packets = s.packets ++ [p] ∧ p.write = true ∧ p.addr = direct (sreg (vc s v) sa)
        ∧ p.data = rawRead s (vmemAddr v (sreg (vc s v) sb)) 32 ∧ VecSame s t v ∧ t.mem = s.mem ∧ t.regs = s.regs) ∧
    (∀ (s : State) (v dev loc pc : Nat) (d : List Byte), Inv s → v < vcoreCount → (vc s v).remote = some ⟨false, dev, loc, pc, some (d, 0)⟩ →
      d.length = 32 → loc % 32 = 0 → loc + 32 ≤ 0x400000 → Assoc.get? v s.ft.stops = none → (vc s v).fenced = false →
      ∃ t, exec (.remoteAccessComplete v) s = .next t ∧ (vc t v).remote = none ∧ VecSame s t v
        ∧ rawRead t (vmemAddr v loc) 32 = d ∧ sameMemBut (vmemAddr v loc) 32 s t ∧ t.regs = s.regs) ∧
    (∀ (s : State) (v dev loc pc : Nat) (d : List Byte), v < vcoreCount → (vc s v).remote = some ⟨true, dev, loc, pc, some (d, 0)⟩ →
      ∃ t, exec (.remoteAccessComplete v) s = .next t ∧ (vc t v).remote = none ∧ onlyVcore v s t ∧ VecSame s t v)) ∧
  (∀ (s : State) (v sa mcmask u : Nat), VecMay s v (.tblw sa mcmask u) [sa] [] [uPort] →
      let a := sreg (vc s v) sa
      remoteClear (vc s v) a 3104 = true → a % 32 = 0 → a + 3104 ≤ 0x400000 → spanClean s (vmemAddr v a) 3104 →
      ∃ t, exec (.tblw v sa mcmask u) s = .next t ∧ t.mem = s.mem ∧ VecSame s t v
        ∧ (∀ m, m < 4 → mcmask.testBit m = true → good s (blk Ty.MCORE (4 * v + m)) = true →
            Assoc.get? u (mc t (4 * v + m)).tabStaged = some (rawRead s (vmemAddr v a) 3104))
        ∧ (∀ g, (mc t g).tabActive = (mc s g).tabActive)
        ∧ (∀ g, g / 4 ≠ v ∨ mcmask.testBit (g % 4) = false → mc t g = mc s g))
/-! ## M-cores (04) -/

/-- R132, R137, R138, R130: NOP, LOOP, SETB, ADDB, BRF, FILL, WAIT and END act on the sequencer, the base registers or
the MAC pipe's hold, and nothing else of the package changes.
R138: a loop whose body has just ended goes back to its start while a pass is left, and otherwise leaves the
sequencer at the next operation with the loop gone. -/
def Obligations.TileControlOperations : Prop :=
  ((∀ (s : State) (g : Nat), TileMay s g .nop →
      ∃ t, exec (.nop g) s = .next t ∧ onlyMcore g s t ∧ TileIssued s t g ((mc s g).pc + 1) ∧ (mc t g).bases = (mc s g).bases) ∧
    (∀ (s : State) (g count len : Nat), TileMay s g (.loop count len) →
      ∃ t, exec (.loop g count len) s = .next t ∧ onlyMcore g s t ∧ (mc t g).pc = (mc s g).pc + 1 ∧ (mc t g).issued = s.now + 1
        ∧ (mc t g).loops = ⟨(mc s g).pc + 1, (mc s g).pc + 1 + len, if count = 0 then 4096 else count⟩ :: (mc s g).loops
        ∧ (mc t g).bases = (mc s g).bases) ∧
    (∀ (s : State) (g reg imm plog stride : Nat), TileMay s g (.setb reg imm plog stride) → reg < (mc s g).bases.length →
      ∃ t, exec (.setb g reg imm plog stride) s = .next t ∧ onlyMcore g s t ∧ TileIssued s t g ((mc s g).pc + 1)
        ∧ nth (mc t g).bases reg = (imm + s.ft.frame % 2 ^ plog * stride) % 65536
        ∧ ∀ r, r ≠ reg → nth (mc t g).bases r = nth (mc s g).bases r) ∧
    (∀ (s : State) (g reg : Nat) (imm : Int), TileMay s g (.addb reg imm) → reg < (mc s g).bases.length →
      ∃ t, exec (.addb g reg imm) s = .next t ∧ onlyMcore g s t ∧ TileIssued s t g ((mc s g).pc + 1)
        ∧ (nth (mc t g).bases reg : Int) = ((nth (mc s g).bases reg : Int) + imm) % 65536
        ∧ ∀ r, r ≠ reg → nth (mc t g).bases r = nth (mc s g).bases r) ∧
    (∀ (s : State) (g plog value sk : Nat), TileMay s g (.brf plog value sk) →
      ∃ t, exec (.brf g plog value sk) s = .next t ∧ onlyMcore g s t ∧ (mc t g).bases = (mc s g).bases
        ∧ TileIssued s t g ((mc s g).pc + 1 + if s.ft.frame % 2 ^ plog = value then sk else 0)) ∧
    (∀ (s : State) (g count rumask : Nat), TileMay s g (.fill count rumask) → macFree s g = true →
      ∃ t, exec (.fill g count rumask) s = .next t ∧ onlyMcore g s t ∧ TileIssued s t g ((mc s g).pc + 1)
        ∧ (mc t g).fillUntil = s.now + (if count = 0 then 4096 else count) ∧ (mc t g).mac = (mc s g).mac ∧ (mc t g).bases = (mc s g).bases) ∧
    (∀ (s : State) (g slot cc : Nat), TileMay s g (.wait slot cc) →
      ∃ t, exec (.wait g slot cc) s = .next t ∧ onlyMcore g s t ∧ (mc t g).hold = .position slot cc ∧ (mc t g).issued = s.now + 1
        ∧ (mc t g).bases = (mc s g).bases) ∧
    (∀ (s : State) (g : Nat), TileMay s g .endFrame →
      ∃ t, exec (.tileEnd g) s = .next t ∧ onlyMcore g s t ∧ (mc t g).ended = true ∧ (mc t g).issued = s.now + 1)) ∧
  (∀ (m : MCore) (l : LoopFrame) (rest : List LoopFrame), m.loops = l :: rest →
      (2 ≤ l.left → (m.goto l.stop).pc = l.start ∧ (m.goto l.stop).loops = { l with left := l.left - 1 } :: rest) ∧
      (l.left < 2 → (∀ k ∈ rest, k.stop ≠ l.stop) → (m.goto l.stop).pc = l.stop ∧ (m.goto l.stop).loops = rest) ∧
      (∀ pc, pc ≠ l.stop → (m.goto pc).pc = pc ∧ (m.goto pc).loops = m.loops))
/-- R129, R133, R134, R135, R137: MAC, LDA, FIN and CLR hand their operation to the pipe, the load unit, the finisher
or the clear unit when it is free. MAC, LDA and FIN leave memory as it is; CLR clears its first four rows in the cc in
which it issues and touches no other byte. -/
def Obligations.TileUnitsIssue : Prop :=
  (∀ (s : State) (g : Nat) (o : MacOp), TileMay s g (.mac o) → macFree s g = true →
    ∃ t r, exec (.mac g o) s = .next t ∧ TileIssued s t g ((mc s g).pc + 1) ∧ (mc t g).mac = some r ∧ r.op = o ∧ r.issue = s.now
      ∧ r.step = 0 ∧ r.read = (if o.wsrc = 1 then 0 else min 16 (min (totalLines o) (startLine o 0 + 64))) ∧ t.mem = s.mem
      ∧ ∀ h, h ≠ g → mc t h = mc s h) ∧
  (∀ (s : State) (g : Nat) (o : LdaOp), TileMay s g (.lda o) → (mc s g).lda = [] → (mc s g).loadFree ≤ s.now →
    ∃ t, exec (.lda g o) s = .next t ∧ TileIssued s t g ((mc s g).pc + 1) ∧ onlyMcore g s t
      ∧ (mc t g).lda = (List.range (o.lines + 1)).map (fun i =>
          ((nth (mc s g).bases o.base / 8 + o.off + i) % 8192, 32768 * o.areg + 16384 * o.side + 1024 * o.dline + 1024 * i))) ∧
  (∀ (s : State) (g : Nat) (o : FinOp), TileMay s g (.fin o) → (mc s g).finFree ≤ s.now →
    ∃ t run, exec (.fin g o) s = .next t ∧ TileIssued s t g ((mc s g).pc + 1) ∧ t.mem = s.mem
      ∧ (mc t g).fins = (mc s g).fins ++ [run] ∧ run.op = o ∧ run.issue = s.now ∧ run.written = 0
      ∧ run.dst = (nth (mc s g).bases o.dbase + o.doff) % 65536 * 128 ∧ (mc t g).finFree = s.now + o.rows + 1
      ∧ ∀ h, h ≠ g → mc t h = mc s h) ∧
  (∀ (s : State) (g row rows : Nat), Inv s → TileMay s g (.clr row rows) → (mc s g).clrFree ≤ s.now → row + rows < 512 →
    ∃ t, exec (.clr g row rows) s = .next t ∧ TileIssued s t g ((mc s g).pc + 1)
      ∧ (mc t g).clr = some (row, rows + 1, s.now) ∧ (mc t g).clrFree = s.now + ceilDiv (rows + 1) 4
      ∧ (∀ r, row ≤ r → r < row + min 4 (rows + 1) → rawRead t (accRow g r) 512 = List.replicate 512 0)
      ∧ sameMemBut (accRow g row) (512 * min 4 (rows + 1)) s t ∧ t.regs = s.regs ∧ ∀ h, h ≠ g → mc t h = mc s h)

/-- R124, R125, R140: a MAC step that is due issues: the next step comes up, and the last one leaves the pipe with its
writeback due 24 cc later; memory and the other M-cores are as before.
R114, R140, R165: the oldest writeback that is due puts the lane sums of each active row unit in accumulator row
4 × AROW + i, or adds them to it when ACC = 1 (the row clean), and changes no byte outside those four rows; it is then
gone. -/
def Obligations.MacPipe : Prop :=
  (∀ (s : State) (g : Nat) (r : MacRun), g < mcoreCount → (mc s g).mac = some r → workOpen s (blk Ty.MCORE g) = true →
      stepDue (mc s g) r s.now = true →
      ∃ t, exec (.macStep g) s = .next t ∧ t.mem = s.mem ∧ (∀ h, h ≠ g → mc t h = mc s h) ∧ (sramClean s = true → onlyMcore g s t)
        ∧ (mc t g).steps = (mc s g).steps + 1 ∧
        (if r.step + 1 = macSteps r.op then
          (mc t g).mac = none ∧ ∃ w, (mc t g).wbs = (mc s g).wbs ++ [w] ∧ w.due = s.now + 24 ∧ w.arow = r.op.arow ∧ w.rumask = r.op.rumask
            ∧ w.add = (r.op.acc == 1)
        else (mc t g).wbs = (mc s g).wbs ∧ ∃ r', (mc t g).mac = some r' ∧ r'.step = r.step + 1 ∧ r'.lastStep = s.now ∧ r'.op = r.op)) ∧
  (∀ (s : State) (g : Nat) (w : Writeback) (rest : List Writeback), Inv s → g < mcoreCount → (mc s g).wbs = w :: rest →
      awake s = true → workLive s (blk Ty.MCORE g) = true → (mc s g).fenceAt = 0 ∨ s.now < (mc s g).fenceAt → w.due ≤ s.now → w.arow < 128 →
      w.acc.length = (ruList w.rumask).length → (∀ a ∈ w.acc, a.length = 128) → (mc s g).clr = none →
      (w.add = true → spanClean s (accRow g (4 * w.arow)) 2048) →
      ∃ t, exec (.macWriteback g) s = .next t ∧ (mc t g).wbs = rest ∧ (mc t g).lastWr = s.now + 1 ∧ t.regs = s.regs
        ∧ (∀ k i, (ruList w.rumask)[k]? = some i →
            let old := (List.range 128).map (fun l => leNat (rawRead s (accRow g (4 * w.arow + i) + 4 * l) 4))
            let new := if w.add then (old.zip (w.acc.getD k [])).map (fun x => BitVec.ofNat 32 (devAdd32 x.1 x.2.toNat)) else w.acc.getD k []
            rawRead t (accRow g (4 * w.arow + i)) 512 = (new.map (fun x => leBytes 4 x.toNat)).flatten)
        ∧ sameMemBut (accRow g (4 * w.arow)) 2048 s t ∧ ∀ h, h ≠ g → mc t h = mc s h)

/-- R136, R176, R185: a row of a finisher pass that has left the stages, 12 cc or more after the cc in which it was read, goes
to its pass's destination: its elements and scales wait for the end of the cc at their operand-store bytes, where they are
then written and no other byte is, or at those of the activation register, or the row's flits join the injection queue; no
byte of memory changes in the cc. A pass that has written all its rows is over.
R137, R130: a WAIT's hold ends in the first cc at or after its position, with WAIT_LATE set when the WAIT issued
after it; when the program has ended and every unit of the M-core is free, the M-core marks its frame work done. -/
def Obligations.FinisherAndFrameEnd : Prop :=
  (∀ (s : State) (g : Nat) (f : FinRun) (rest : List FinRun) (i : Nat) (xs : List Word) (more : List (Nat × List Word)),
      g < mcoreCount → (mc s g).fins = f :: rest → f.rowsRead = (i, xs) :: more → awake s = true → workLive s (blk Ty.MCORE g) = true →
      (mc s g).fenceAt = 0 ∨ s.now < (mc s g).fenceAt → f.issue + i + 12 ≤ s.now →
      let zs := (scaleBias f.op f.sb (xs.map BitVec.toNat)).map (funcEval (mc s g) f.op.func)
      let out := rowOut f.op.ofmt (f.op.sat == 1) zs
      let elAt := f.dst + 16 * ofmtBits f.op.ofmt * i
      let scAt := f.dst + ceilDiv (16 * ofmtBits f.op.ofmt * (f.op.rows + 1)) 128 * 128 + 4 * scaleBytes f.op.ofmt * i
      let q := f.op.doff % 32
      ∃ t, exec (.finOutput g) s = .next t ∧ t.mem = s.mem ∧ (mc t g).lastWr = s.now + 1 ∧ (∀ h, h ≠ g → mc t h = mc s h)
        ∧ (mc t g).fins = (if f.written + 1 = f.op.rows + 1 then rest else { f with rowsRead := more, written := f.written + 1 } :: rest)
        ∧ (f.op.dest ≤ 1 → onlyMcore g s t)
        ∧ (f.op.smx ≠ 1 → f.op.dest = 0 → out.1 ≠ [] → elAt + out.1.length ≤ 0x800000 → scAt + out.2.length ≤ 0x800000 →
            (mc t g).finOut = (mc s g).finOut ++ (elAt, out.1) :: (if out.2 = [] then [] else [(scAt, out.2)]))
        ∧ (f.op.smx ≠ 1 → f.op.dest = 2 → good s (blk Ty.MCORE g) = true → ∀ rec, rtQueueOf ((sectionOf s 2 (g / 4)).getD []) (g % 4) q = some rec →
            let r := rowFlits (mc s g) rec f.op (f.op.arow + i) zs
            (Assoc.getD [] q (mc s g).inj).length + r.1.length ≤ 256 →
            Assoc.getD [] q (mc t g).inj = Assoc.getD [] q (mc s g).inj ++
              r.1.zipIdx.map (fun x => ⟨s.now, mkFlit x.1 rec.rdi (Assoc.getD rec.seq0 q (mc s g).injSeq + x.2) 0 r.2.1 rec.key⟩))) ∧
  (∀ (s : State) (g a : Nat) (l : List Byte), Inv s → (mc s g).finOut = [(a, l)] → l ≠ [] → a + l.length ≤ 0x800000 → g < mcoreCount →
      spanClean s (mstoreAddr g a) l.length →
      let t := finStores s g
      rawRead t (mstoreAddr g a) l.length = l ∧ sameMemBut (mstoreAddr g a) l.length s t ∧ (mc t g).finOut = [] ∧ t.regs = s.regs) ∧
  ((∀ (s : State) (g slot cc : Nat), g < mcoreCount → (mc s g).hold = .position slot cc → workOpen s (blk Ty.MCORE g) = true →
      64 * slot + cc ≤ frameCc s →
      ∃ t, exec (.waitRelease g) s = .next t ∧ (mc t g).hold = .none ∧ t.mem = s.mem
        ∧ (frameCcAt s ((mc s g).issued - 1) ≤ 64 * slot + cc → onlyMcore g s t)
        ∧ (64 * slot + cc < frameCcAt s ((mc s g).issued - 1) → Inv s →
            (errSummary t (blk Ty.MCORE g)).testBit Err.MCORE_WAIT_LATE = true)) ∧
    (∀ (s : State) (g : Nat), g < mcoreCount → doneOpen s (blk Ty.MCORE g) = true → (mc s g).running = true → (mc s g).done = false →
      mcoreFinished s g = true →
      ∃ t, exec (.mcoreDone g) s = .next t ∧ onlyMcore g s t ∧ (mc t g).done = true ∧ (mc t g).running = false))
/-! ## Program words (R132, R197) -/

/-- The opcodes of R132. -/
def tileOpcode (o : TileOp) : Nat :=
  match o with
  | .nop => 0x00
  | .mac _ => 0x01
  | .lda _ => 0x02
  | .fin _ => 0x03
  | .clr _ _ => 0x04
  | .wait _ _ => 0x05
  | .sync _ _ _ => 0x06
  | .loop _ _ => 0x07
  | .setb _ _ _ _ => 0x08
  | .addb _ _ => 0x09
  | .brf _ _ _ => 0x0A
  | .fill _ _ => 0x0B
  | .endFrame => 0x0C

/-- R132-R138: every tile operation whose fields fit their widths is what the decoder reads from its encoded word.
R132: a tile word has one meaning and an operation one word: a word of 64 bits that decodes is the encoding of what
it decodes to, so that two words of one operation are the same; bits [63:58] are its opcode, NOP and END have the other
bits zero, and a reserved opcode decodes to nothing. -/
def Obligations.DecodeEncodeTile : Prop :=
  (∀ o : TileOp, o.wf = true → decodeTile (encodeTile o) = some o ∧ encodeTile o < 2 ^ 64) ∧
  (∀ (w : Nat) (o : TileOp), w < 2 ^ 64 → decodeTile w = some o → encodeTile o = w) ∧
  (∀ o : TileOp, o.wf = true → encodeTile o / 2 ^ 58 = tileOpcode o) ∧ encodeTile .nop = 0 ∧ encodeTile .endFrame = 0x0C * 2 ^ 58 ∧
  (∀ w : Nat, w < 2 ^ 64 → 0x0D ≤ w / 2 ^ 58 → decodeTile w = none)

/-- R197, R198: every V-core instruction whose fields fit their widths is what the decoder reads from its encoded word. -/
def Obligations.DecodeEncodeVec : Prop :=
  ∀ o : VInstr, o.wf = true → decodeVec (encodeVec o) = some o ∧ encodeVec o < 2 ^ 32

/-- R132, R197: words written out from the encodings decode to what they stand for; reserved opcodes and reserved
fields that are not zero decode to nothing. -/
def Obligations.DecodeWords : Prop :=
  decodeTile 0x1C00_C008_0000_0000 = some (.loop 3 2) ∧ decodeTile 0x3000_0000_0000_0000 = some .endFrame ∧
  decodeTile 0x3000_0000_0000_0001 = none ∧ decodeTile 0x3400_0000_0000_0000 = none ∧
  decodeVec 0x0841_FFFF = some (.saddi 2 1 (-1)) ∧ decodeVec 0x4000_0000 = some .endFrame ∧ decodeVec 0xFC00_0000 = none
/-! ## Chord network (11) -/

/-- A core may issue its SYNC operation. -/
def SyncMay (s : State) (c : CoreId) (kind target line : Nat) : Prop := match c with
  | .mcore g => TileMay s g (.sync kind target line)
  | .vcore v => VecMay s v (.sync kind target line) [] [] []

/-- R138, R348, R351, R355: SYNC_SIGNAL sends an EVENT, SYNC_ARRIVE and SYNC_ARRIVE_WAIT send an ARRIVE, which leave the
core's node one cc later; SYNC_WAIT and SYNC_ARRIVE_WAIT hold the core on the line or on the barrier's round. An EVENT for a
block that cannot take one is dropped at the node, which sets BAD_TARGET. -/
def Obligations.SyncOperations : Prop :=
  (∀ (s : State) (c : CoreId) (target line : Nat), SyncMay s c 0 target line → eventTarget target = true → blockState s target ≠ 3 →
    ∃ t m, exec (.syncSignal c target line) s = .next t ∧ t.chord.msgs = s.chord.msgs ++ [m] ∧ m.kind = .event target (line % 32)
      ∧ m.src = (chordUnit (coreBlk c)).1 ∧ m.node = (chordUnit target).1 ∧ m.ready = s.now + 1 ∧ m.lane = 3
      ∧ t = { s with mcores := t.mcores, vcores := t.vcores, chord := t.chord }) ∧
  (∀ (s : State) (c : CoreId) (target line : Nat), Inv s → SyncMay s c 0 target line → eventTarget target = false →
    ∃ t, exec (.syncSignal c target line) s = .next t ∧ t.mem = s.mem
      ∧ (errSummary t (blk Ty.CHORD (chordUnit (coreBlk c)).1)).testBit Err.CHORD_BAD_TARGET = true) ∧
  (∀ (s : State) (c : CoreId) (target line : Nat), SyncMay s c 1 target line →
    ∃ t, exec (.syncWait c target line) s = .next t ∧ holdOf t c = .event line
      ∧ t = { s with mcores := t.mcores, vcores := t.vcores }) ∧
  (∀ (s : State) (c : CoreId) (target line : Nat), SyncMay s c 2 target line →
    ∃ t m, exec (.syncArrive c target line) s = .next t ∧ t.chord.msgs = s.chord.msgs ++ [m] ∧ m.kind = .arrive target false none
      ∧ m.node = counterNode target ∧ m.ready = s.now + 1 ∧ m.lane = 3 ∧ holdOf t c = .none
      ∧ t = { s with mcores := t.mcores, vcores := t.vcores, chord := t.chord }) ∧
  (∀ (s : State) (c : CoreId) (target line : Nat), SyncMay s c 3 target line →
    ∃ t m, exec (.syncArriveWait c target line) s = .next t ∧ t.chord.msgs = s.chord.msgs ++ [m] ∧ m.kind = .arrive target true (some c)
      ∧ m.node = counterNode target ∧ m.ready = s.now + 1 ∧ m.lane = 3 ∧ holdOf t c = .barrier target 0
      ∧ t = { s with mcores := t.mcores, vcores := t.vcores, chord := t.chord })

/-- A message by number has reached its unit, with every word of its packet. -/
def Landed (s : State) (id : Nat) (m : ChordMsg) (k : ChordKind) : Prop := landedMsg s id = some m ∧ m.kind = k

/-- The Chord network has lost that message, with every word of its packet, and is otherwise the same. -/
def MsgGone (s t : State) (m : ChordMsg) : Prop :=
  t.chord = { s.chord with msgs := s.chord.msgs.filter (fun x => x.pkt != m.pkt) }

/-- R352, R353: an EVENT adds 1 to its line of a good core that holds fewer than 15, and no other line, core or byte
changes; at 15 the line stays and EVT_OVERFLOW is set; at a hub target it sets the line's flag.
R350: a notice to a good core is held at its node for the boundary: no event line changes until then. -/
def Obligations.EventsAndNotices : Prop :=
  ((∀ (s : State) (id : Nat) (m : ChordMsg) (g line : Nat), g < mcoreCount → Landed s id m (.event (blk Ty.MCORE g) line) →
      good s (blk Ty.MCORE g) = true → Assoc.getD 0 line (mc s g).events < 15 →
      ∃ t, exec (.event id false) s = .next t ∧ MsgGone s t m ∧ t = { s with mcores := t.mcores, chord := t.chord }
        ∧ (∀ l, Assoc.getD 0 l (mc t g).events = Assoc.getD 0 l (mc s g).events + (if l = line then 1 else 0)) ∧ ∀ h, h ≠ g → mc t h = mc s h) ∧
    (∀ (s : State) (id : Nat) (m : ChordMsg) (v line : Nat), v < vcoreCount → Landed s id m (.event (blk Ty.VCORE v) line) →
      good s (blk Ty.VCORE v) = true → Assoc.getD 0 line (vc s v).events < 15 →
      ∃ t, exec (.event id false) s = .next t ∧ MsgGone s t m ∧ t = { s with vcores := t.vcores, chord := t.chord }
        ∧ (∀ l, Assoc.getD 0 l (vc t v).events = Assoc.getD 0 l (vc s v).events + (if l = line then 1 else 0)) ∧ ∀ h, h ≠ v → vc t h = vc s h) ∧
    (∀ (s : State) (id : Nat) (m : ChordMsg) (g line : Nat), Inv s → g < mcoreCount → Landed s id m (.event (blk Ty.MCORE g) line) →
      good s (blk Ty.MCORE g) = true → 15 ≤ Assoc.getD 0 line (mc s g).events → m.node < 33 →
      ∃ t, exec (.event id false) s = .next t ∧ (mc t g).events = (mc s g).events
        ∧ (errSummary t (blk Ty.CHORD m.node)).testBit Err.CHORD_EVT_OVERFLOW = true) ∧
    (∀ (s : State) (id : Nat) (m : ChordMsg) (line : Nat), line < 32 → Landed s id m (.event (blk Ty.MGMTP 0) line) →
      ∃ t, exec (.event id false) s = .next t ∧ (Assoc.getD 0 (blk Ty.MGMTP 0) t.chord.flags).testBit line = true
        ∧ t = { s with chord := t.chord })) ∧
  (∀ (s : State) (id : Nat) (m : ChordMsg) (g line cls : Nat), g < mcoreCount → Landed s id m (.notice (blk Ty.MCORE g) line cls) →
      good s (blk Ty.MCORE g) = true →
      ∃ t, exec (.notice id false) s = .next t ∧ MsgGone s t m ∧ t = { s with mcores := t.mcores, chord := t.chord }
        ∧ (mc t g).held = (mc s g).held ++ [line] ∧ (mc t g).events = (mc s g).events ∧ ∀ h, h ≠ g → mc t h = mc s h)

/-- R355, R356: an ARRIVE at a configured counter of the running program adds 1 to it, or, when it reaches LIMIT, ends the
round: the counter is 0 again and the node sends the RELEASE of that round; a RELEASE frees the cores of its node that wait
on the round, and no others; an ARRIVE at a counter that is not configured sets BAR_UNSET.
R343: a message on lane S that fails parity at the node it has reached is dropped there and counted, and PARITY is
set; while a program runs the node raises a frame fault. -/
def Obligations.BarriersAndParity : Prop :=
  ((∀ (s : State) (id : Nat) (m : ChordMsg) (n : Nat), Landed s id m (.arrive n false none) → running s = true → 0 < counterLimit s n →
      ∃ t, exec (.arrive id false) s = .next t ∧ t = { s with chord := t.chord } ∧
        (if (Assoc.getD ⟨0, 0⟩ n s.chord.bars).count + 1 < counterLimit s n then
          Assoc.getD ⟨0, 0⟩ n t.chord.bars = ⟨(Assoc.getD ⟨0, 0⟩ n s.chord.bars).count + 1, (Assoc.getD ⟨0, 0⟩ n s.chord.bars).round⟩
            ∧ t.chord.msgs = s.chord.msgs.filter (fun x => x.pkt != m.pkt)
        else
          Assoc.getD ⟨0, 0⟩ n t.chord.bars = ⟨0, (Assoc.getD ⟨0, 0⟩ n s.chord.bars).round + 1⟩
            ∧ ∃ x ∈ t.chord.msgs, ∃ k, x.kind = .release n ((Assoc.getD ⟨0, 0⟩ n s.chord.bars).round + 1) k)) ∧
    (∀ (s : State) (id : Nat) (m : ChordMsg) (n round node : Nat), Landed s id m (.release n round node) → node < 32 →
      ∃ t, exec (.release id false) s = .next t ∧ MsgGone s t m ∧ t = { s with mcores := t.mcores, vcores := t.vcores, chord := t.chord }
        ∧ (∀ c ∈ coresAt node, holdOf t c = if holdOf s c = .barrier n round then .releasedAt s.now else holdOf s c)
        ∧ (∀ g, g / 4 ≠ node → mc t g = mc s g) ∧ ∀ v, v ≠ node → vc t v = vc s v) ∧
    (∀ (s : State) (id : Nat) (m : ChordMsg) (n : Nat), Inv s → Landed s id m (.arrive n false none) → counterLimit s n = 0 → m.node < 33 →
      ∃ t, exec (.arrive id false) s = .next t ∧ t.chord.bars = s.chord.bars
        ∧ (errSummary t (blk Ty.CHORD m.node)).testBit Err.CHORD_BAR_UNSET = true)) ∧
  (∀ (s : State) (id : Nat) (m : ChordMsg) (b line : Nat), Inv s → chordMsg? s id = some m → m.kind = .event b line → m.lane = 3 →
      m.held = false → m.ready ≤ s.now → m.at_ < 32 →
      ∃ t, exec (.event id true) s = .next t ∧ (errSummary t (blk Ty.CHORD m.at_)).testBit Err.CHORD_PARITY = true
        ∧ regField t (blk Ty.CHORD m.at_) Off.CHORD_DROPS 31 16 = min 0xFFFF (regField s (blk Ty.CHORD m.at_) Off.CHORD_DROPS 31 16 + 1)
        ∧ t.mcores = s.mcores ∧ t.vcores = s.vcores ∧ t.mem = s.mem
        ∧ (running s = true → ∃ x ∈ t.chord.msgs, ∃ f, x.kind = .fault (blk Ty.CHORD m.at_) 0x20 f s.now))
/-! ## Faults and halts (18) -/

/-- R559: a unit raises a frame fault only while PSTATE is 3; under the idle schedule, while loading, armed or halted,
nothing of the package changes.
R561, R570, R573: a FAULT message that has reached the root, the first there, is recorded with its block, cause
and frame and this program's DOMAIN_ID, and the root will send the HALT 4 cc later; its notice bit FRAME_FAULT is set.
R569, R573: while a halt stands or is on its way, a further local fault of another cc changes no record and sends
no second HALT. -/
def Obligations.FrameFaults : Prop :=
  ((∀ (s : State) (b cause : Nat), s.ft.pstate ≠ 3 → raiseFault s b cause = s) ∧
    (∀ (s : State) (b cause : Nat), s.ft.pstate = 3 → (chordUnit b).1 ≠ 32 →
      ∃ x, (raiseFault s b cause).chord.msgs = s.chord.msgs ++ [x] ∧ x.kind = .fault b cause (faultFrame s) s.now ∧ x.node = 32 ∧ x.lane = 0)) ∧
  (∀ (s : State) (id : Nat) (m : ChordMsg) (b cause frame at_ : Nat), Inv s → Landed s id m (.fault b cause frame at_) →
      s.ft.halted = false → s.chord.halt = none → bitOf (getReg s (blk Ty.FTIMER 0) Off.FTIMER_FAULT_INFO) 31 = false →
      b < 65536 → cause < 256 → frame < 2 ^ 48 →
      ∃ t, exec (.fault id false) s = .next t ∧ t.chord.halt = some (cause, s.now + 4, false) ∧ t.ft.pstate = s.ft.pstate
        ∧ getReg t (blk Ty.FTIMER 0) Off.FTIMER_FAULT_INFO = 2 ^ 31 + 2 ^ 30 + cause * 2 ^ 16 + domainId s % 65536
        ∧ getReg t (blk Ty.FTIMER 0) Off.FTIMER_FAULT_UNIT = b
        ∧ getReg t (blk Ty.FTIMER 0) Off.FTIMER_FAULT_FRAME_LO + 2 ^ 32 * getReg t (blk Ty.FTIMER 0) Off.FTIMER_FAULT_FRAME_HI = frame
        ∧ (errSummary t (blk Ty.FTIMER 0)).testBit Err.FTIMER_FRAME_FAULT = true ∧ t.mem = s.mem ∧ t.mcores = s.mcores) ∧
  (∀ (s : State) (b cause frame at_ delay : Nat), s.ft.halted = true ∨ s.chord.halt.isSome = true → s.ft.faultAt ≠ at_ + 1 →
      localHalt s b cause frame at_ delay = s)

/-- R131, R359, R563, R565, R566: a HALT that has landed at the root makes PSTATE 4 (0 stays 0), ends a load with code
0x10, discards the prefix engine's requests and starts its flush; one that has landed at a stack node stops its cores at
the end of their issue group, and its router's queues, column schedules and SYNC messages are discarded.
R50, R578, R579: a FENCE message and a CONTROL.FENCE write put a good block that can be fenced in state 1 with cause
4; while a program runs that is a frame fault of cause 0x30 of the block. -/
def Obligations.HaltsAndFences : Prop :=
  ((∀ (s : State) (id cause : Nat), haltLanded s = [(id, 32, cause)] →
      ∃ t, exec (.halt 0) s = .next t ∧ t.ft.pstate = (if s.ft.pstate = 0 then 0 else 4) ∧ t.ft.code = (if s.ft.pstate = 1 then 0x10 else s.ft.code)
        ∧ t.ft.halted = true ∧ t.chord.halt = none ∧ t.kv.reqs = [] ∧ t.kv.flushPending = true ∧ t.mem = s.mem ∧ t.mcores = s.mcores
        ∧ t.vcores = s.vcores ∧ t.cols = s.cols ∧ t.prog = s.prog ∧ t.ft.frame = s.ft.frame) ∧
    (∀ (s : State) (id n cause : Nat), haltLanded s = [(id, n, cause)] → n < 32 → s.ft.reached.contains n = false →
      Assoc.get? n s.ft.stops = none →
      ∃ t, exec (.halt 0) s = .next t ∧ t.ft.pstate = s.ft.pstate ∧ t.mem = s.mem
        ∧ Assoc.get? n t.ft.stops = some (s.now - ccNow s % 8 + 8) ∧ t.ft.reached.contains n = true
        ∧ (rtr t n).outq = [] ∧ (rtr t n).red = [] ∧ (∀ c, c / 16 = n → (col t c).window = none ∧ (col t c).reqs = [])
        ∧ (∀ m ∈ t.chord.msgs, m.lane = 3 → m.at_ ≠ n) ∧ (∀ g, g / 4 ≠ n → mc t g = mc s g))) ∧
  ((∀ (s : State) (id : Nat) (m : ChordMsg) (g : Nat), Landed s id m (.fence (blk Ty.MCORE g)) → g < mcoreCount → blockState s (blk Ty.MCORE g) = 0 →
      ∃ t, exec (.fence id false) s = .next t ∧ blockState t (blk Ty.MCORE g) = 1 ∧ blockDetail t (blk Ty.MCORE g) = 4
        ∧ (running s = true → ∃ x ∈ t.chord.msgs, ∃ f, x.kind = .fault (blk Ty.MCORE g) 0x30 f s.now)
        ∧ ∀ b, b ≠ blk Ty.MCORE g → blockState t b = blockState s b) ∧
    (∀ (s : State) (v : Nat), hubUp s = true → v < vcoreCount → blockState s (blk Ty.VCORE v) = 0 →
      ∃ t, exec (.controlFence (blk Ty.VCORE v)) s = .next t ∧ blockState t (blk Ty.VCORE v) = 1 ∧ blockDetail t (blk Ty.VCORE v) = 4
        ∧ (running s = true → ∃ x ∈ t.chord.msgs, ∃ f, x.kind = .fault (blk Ty.VCORE v) 0x30 f s.now)
        ∧ ∀ b, b ≠ blk Ty.VCORE v → blockState t b = blockState s b))

/-- R358, R362, R562, R567: a falling edge of HALT_N that has passed its filter is counted, sends the HALT in the same
cc, after which the package drives HALT_N low, and stops every core at the end of the issue group ten cc later; with no
edge the level alone is noted.
R573, R567: clearing FAULT_INFO.VALID re-arms the record and releases HALT_N and FAULT_OUT. -/
def Obligations.HaltPin : Prop :=
  ((∀ s : State, s.pins.perstHigh = true → hubUp s = true → s.ft.haltLow = false → s.pins.haltOwn = false → s.ft.halted = false →
      s.chord.halt = none → s.ft.stops = [] → Inv s →
      ∃ t, exec (.pinHalt true) s = .next t ∧ t.ft.haltLow = true ∧ t.pins.haltCount = min (2 ^ 32 - 1) (s.pins.haltCount + 1)
        ∧ t.chord.halt = some (0x41, s.now, true) ∧ t.pins.haltOwn = true ∧ t.ft.pstate = s.ft.pstate
        ∧ (running s = true → (errSummary t (blk Ty.PINS 0)).testBit Err.PINS_PIN_HALT = true)
        ∧ (∀ n, n < 32 → Assoc.get? n t.ft.stops = some (s.now + 10 - ccAt s (s.now + 10) % 8 + 8)) ∧ t.mem = s.mem) ∧
    (∀ s : State, s.pins.perstHigh = true →
      exec (.pinHalt false) s = .next { s with ft := { s.ft with haltLow := false } })) ∧
  (∀ s : State, Inv s → hubUp s = true →
      ∃ t, exec .faultInfoClear s = .next t ∧ regField t (blk Ty.FTIMER 0) Off.FTIMER_FAULT_INFO 31 31 = 0 ∧ t.pins.haltOwn = false
        ∧ regField t (blk Ty.FTIMER 0) Off.FTIMER_FAULT_INFO 30 0 = regField s (blk Ty.FTIMER 0) Off.FTIMER_FAULT_INFO 30 0
        ∧ t = { s with regs := t.regs, pins := { s.pins with haltOwn := false } })

/-- R363, R364: a pin that nothing owns is taken by a write of an owner 1 to 4, with its settings; a write by another
owner than the one that holds it is refused, which sets EVT_OWN and changes no setting; an EVENT_IN edge sends its notice.
R345, R507: a THERM message that reaches the aggregator raises the level seen for its sensor; R359, R515: a copy of the TRIP that
has reached its node will gate the node's units at cc 0 of the next slot, and with the last copy the trip's entry into hold may
follow; R345: a TELEM message puts the sensor's value in the aggregator's copy. -/
def Obligations.PinsAndUrgentMessages : Prop :=
  ((∀ (s : State) (k : Nat) (value : Word), Inv s → k < 4 → hubUp s = true → evtOwner s k = 0 → fieldOf value.toNat 31 28 ≤ 4 →
      ∃ t, exec (.evtPinWrite k value) s = .next t ∧ evtOwner t k = fieldOf value.toNat 31 28
        ∧ regField t (blk Ty.PINS 0) (Off.PINS_EVT_PIN_0 + 4 * k) 20 0 = fieldOf value.toNat 20 0 ∧ t = { s with regs := t.regs }) ∧
    (∀ (s : State) (k : Nat) (value : Word), Inv s → k < 4 → hubUp s = true → evtOwner s k ≠ 0 → fieldOf value.toNat 31 28 ≠ 0 →
      fieldOf value.toNat 31 28 ≠ evtOwner s k →
      ∃ t, exec (.evtPinWrite k value) s = .next t ∧ evtOwner t k = evtOwner s k
        ∧ regField t (blk Ty.PINS 0) (Off.PINS_EVT_PIN_0 + 4 * k) 20 0 = regField s (blk Ty.PINS 0) (Off.PINS_EVT_PIN_0 + 4 * k) 20 0
        ∧ (errSummary t (blk Ty.PINS 0)).testBit Err.PINS_EVT_OWN = true) ∧
    (∀ (s : State) (k : Nat), k < 4 → hubUp s = true → evtOwner s k = 2 →
      let r := getReg s (blk Ty.PINS 0) (Off.PINS_EVT_PIN_0 + 4 * k)
      eventTarget (fieldOf r 15 0) = true → blockState s (fieldOf r 15 0) ≠ 3 →
      ∃ t m, exec (.eventIn k) s = .next t ∧ t.chord.msgs = s.chord.msgs ++ [m]
        ∧ m.kind = .notice (fieldOf r 15 0) (fieldOf r 20 16) (fieldOf r 25 25)
        ∧ t = { s with chord := t.chord, pins := { s.pins with evtSeen := s.pins.evtSeen ||| 2 ^ k } })) ∧
  ((∀ (s : State) (id : Nat) (m : ChordMsg) (i level : Nat), Landed s id m (.therm i level) → level < 3 →
      ∃ t, exec (.therm id false) s = .next t ∧ (sensor t i).seen = max (sensor s i).seen level ∧ t.mem = s.mem ∧ t.mcores = s.mcores) ∧
    (∀ (s : State) (m : ChordMsg), m ∈ s.chord.msgs → isTrip m = true → isLanded s m = true → Assoc.sorted s.ft.tripAt = true →
      Assoc.get? m.node s.ft.tripAt = none →
      ∃ t, exec .trip s = .next t ∧ Assoc.get? m.node t.ft.tripAt = some (nextSlot s s.now) ∧ t.mem = s.mem ∧ t.mcores = s.mcores
        ∧ t.power = s.power ∧ (∀ x ∈ t.chord.msgs, isTrip x = true → isLanded s x = false)
        ∧ (s.chord.trip.isSome = true → (∀ x ∈ s.chord.msgs, isTrip x = true → isLanded s x = true) → t.ft.tripGate = true)) ∧
    (∀ (s : State) (id : Nat) (m : ChordMsg) (i : Nat) (value : Int), Landed s id m (.telem i value) →
      ∃ t, exec (.chordTelem id false) s = .next t ∧ MsgGone s t m ∧ (sensor t i).shown = value ∧ t = { s with th := t.th, chord := t.chord }))
/-! ## Frames and programs (03) -/

/-- R70, R71, R80, R84: when a frame has run its length, the local tick begins the next one: the frame number counts on modulo 2^48,
the tick moves on by the frame's length, every M-core and V-core has its frame work before it, and memory is as before.
R87, R106: at the tick that begins START_FRAME, the armed program of a frame master runs; an armed program of a package
that is not locked to its parent fails to start: the fault of cause 0x06 is raised at the root and the program does not run. -/
def Obligations.FrameTick : Prop :=
  (∀ s : State, awake s = true → frameLen s ≤ pos s →
      ∃ t, exec .localTick s = .next t ∧ t.ft.frame = (s.ft.frame + 1) % 2 ^ 48 ∧ t.ft.tickAt = s.ft.tickAt + frameLen s
        ∧ t.ft.prevTick = s.ft.tickAt ∧ t.ft.doneStage = 0 ∧ t.mem = s.mem ∧ t.now = s.now
        ∧ (∀ g, (mc t g).done = false ∧ (mc t g).running = false) ∧ (∀ v, (vc t v).done = false ∧ (vc t v).running = false)) ∧
  ((∀ (s : State) (p : Program), awake s = true → frameLen s ≤ pos s → s.ft.pstate = 2 → s.prog = some p → p.tickParent = 0xFE →
      s.ft.unloadReq = false → p.start = (s.ft.frame + 1) % 2 ^ 48 →
      ∃ t, exec .localTick s = .next t ∧ t.ft.pstate = 3 ∧ t.ft.onProg = true ∧ t.prog = some p ∧ t.mem = s.mem) ∧
    (∀ (s : State) (p : Program), awake s = true → frameLen s ≤ pos s → s.ft.pstate = 2 → s.prog = some p → p.tickParent ≠ 0xFE →
      s.ft.goodRun < 16 → s.ft.early = none → s.ft.unloadReq = false → p.start = (s.ft.frame + 1) % 2 ^ 48 → s.ft.halted = false →
      s.chord.halt = none →
      ∃ t c b, exec .localTick s = .next t ∧ t.ft.pstate = 2 ∧ t.ft.onProg = s.ft.onProg ∧ t.chord.halt = some (0x06, c, b) ∧ t.mem = s.mem))

/-- R96, R106, R566: PROG_CMD 1 in PSTATE 0 begins a load; in another PSTATE it is refused with code 0x0A, and while FAULT_INFO.VALID is 1
or HALT_N low with code 0x0D; PROG_CMD 2 asks for the unload at the next boundary slot.
R95, R96: the load ends in a SERVICE slot: an image that passes every check and starts in a later frame is armed with code 0; one
that fails ends with the code of the first check that fails, back in PSTATE 0. -/
def Obligations.ProgramLoading : Prop :=
  ((∀ s : State, awake s = true → s.ft.pstate = 0 → faultValid s = false → haltNLow s = false →
      ∃ t, exec .load s = .next t ∧ t.ft = { s.ft with pstate := 1 } ∧ t.mem = s.mem ∧ t.regs = s.regs ∧ t.prog = s.prog) ∧
    (∀ s : State, Inv s → awake s = true → s.ft.pstate ≠ 0 →
      ∃ t, exec .load s = .next t ∧ t.ft = { s.ft with code := 0x0A } ∧ (errSummary t ftBlk).testBit Err.FTIMER_LOAD_REFUSED = true
        ∧ t.mem = s.mem ∧ t.prog = s.prog) ∧
    (∀ s : State, Inv s → awake s = true → s.ft.pstate = 0 → faultValid s = true ∨ haltNLow s = true →
      ∃ t, exec .load s = .next t ∧ t.ft = { s.ft with code := 0x0D } ∧ (errSummary t ftBlk).testBit Err.FTIMER_LOAD_REFUSED = true
        ∧ t.mem = s.mem ∧ t.prog = s.prog) ∧
    (∀ s : State, awake s = true → s.ft.pstate ≠ 0 → exec .unload s = .next { s with ft := { s.ft with unloadReq := true } })) ∧
  (∀ (s s1 : State) (img : List Byte), Inv s → awake s = true → s.ft.pstate = 1 → classNow s = 6 → readImage s = (s1, some img) →
      (∀ p, checkImage s1 img = .inr p → frameLater s.ft.frame p.start = true →
        ∃ t, exec .loadComplete s = .next t ∧ t.ft.pstate = 2 ∧ t.ft.code = 0 ∧ t.prog = some p ∧ t.ft.frame = s.ft.frame) ∧
      (∀ code unit, checkImage s1 img = .inl (code, unit) →
        ∃ t, exec .loadComplete s = .next t ∧ t.ft.pstate = 0 ∧ t.ft.code = code ∧ t.prog = s1.prog ∧ t.mem = s1.mem
          ∧ (errSummary t ftBlk).testBit Err.FTIMER_LOAD_REFUSED = true))

/-- R349, R350, R353, R356: at cc 28 of a boundary slot every event line of a core becomes the count of the notices held for it, up to
15; barrier counters are 0 and no SYNC message is left.
R441: at cc 21 the skew window closes: what a port still holds of the frame that ended is discarded, with STALE and, while a program runs, a
frame fault of cause 0x02.
R70, R87, R106, R192: from cc 45 held ENABLE writes act, staged user tables are active, and a program that has ended is unloaded.
R127, R196: from slot 1 the M-cores and V-cores with a section in a running program, good and enabled, begin their program at its first operation;
later in the frame nothing more is begun. -/
def Obligations.BoundarySlot : Prop :=
  (∀ s : State, awake s = true → slotNow s = 0 → 28 ≤ ccNow s → s.ft.doneStage < 28 → Assoc.sorted s.mcores = true → Assoc.sorted s.vcores = true →
      ∃ t, exec .eventSettle s = .next t ∧ t.ft.doneStage = 28 ∧ t.chord.bars = [] ∧ t.mem = s.mem
        ∧ (∀ g l, Assoc.getD 0 l (mc t g).events = min 15 ((mc s g).held.count l)) ∧ (∀ g, (mc t g).held = [])
        ∧ (∀ v l, Assoc.getD 0 l (vc t v).events = min 15 ((vc s v).held.count l)) ∧ (∀ v, (vc t v).held = [])
        ∧ ∀ m ∈ t.chord.msgs, m.lane ≠ 3) ∧
  (∀ s : State, awake s = true → slotNow s = 0 → 21 ≤ ccNow s → s.ft.doneStage < 21 →
      ∃ t, exec .skewWindowClose s = .next t ∧ t.ft.doneStage = 21 ∧ t.mem = s.mem ∧ t.mcores = s.mcores ∧ t.vcores = s.vcores
        ∧ (∀ p, (gp t p).rx = (gp s p).rx.filter (fun r => r.frame != prevFrame s.ft.frame))
        ∧ ((∀ x ∈ s.gports, ∀ r ∈ x.2.rx, r.frame ≠ prevFrame s.ft.frame) → t = { s with ft := { s.ft with doneStage := 21 } })
        ∧ (Inv s → ∀ p g r, p < 20 → (p, g) ∈ s.gports → r ∈ g.rx → r.frame = prevFrame s.ft.frame →
            (errSummary t (gpBlk p)).testBit Err.GPORT_STALE = true
              ∧ (running s = true → ∃ m ∈ t.chord.msgs, ∃ f, m.kind = .fault (gpBlk p) 0x02 f s.now))) ∧
  (∀ s : State, awake s = true → slotNow s = 0 → 45 ≤ ccNow s → s.ft.doneStage < 45 →
      ∃ t, exec .boundaryEnableApply s = .next t ∧ t.ft.doneStage = 45 ∧ t.heldEnable = [] ∧ t.mem = s.mem
        ∧ (∀ g, (mc t g).tabStaged = []) ∧ (∀ g u r, (mc s g).tabStaged = [(u, r)] → Assoc.get? u (mc t g).tabActive = some r)
        ∧ (s.ft.ending = false → t.ft.pstate = s.ft.pstate ∧ t.prog = s.prog)
        ∧ (s.ft.ending = true → s.ft.unloadReq = true ∨ s.ft.pstate = 3 → t.ft.pstate = 0 ∧ t.prog = none)) ∧
  (∀ s : State, awake s = true → 1 ≤ slotNow s → s.ft.doneStage < 64 →
      ∃ t, exec .slot1Start s = .next t ∧ t.ft.doneStage = 64 ∧ t.mem = s.mem ∧ t.prog = s.prog
        ∧ (∀ p, s.prog = some p → running s = true → s.ft.onProg = true → s.ft.halted = false →
            (∀ g b, g < mcoreCount → blk Ty.MCORE g ∈ unitBlocks p → sectionOf s 4 g = some b → good s (blk Ty.MCORE g) = true →
              enabled s (blk Ty.MCORE g) = true →
              (mc t g).running = true ∧ (mc t g).pc = 0 ∧ (mc t g).ended = false ∧ (mc t g).bases = tileBases b) ∧
            (∀ v, v < vcoreCount → blk Ty.VCORE v ∈ unitBlocks p → good s (blk Ty.VCORE v) = true → enabled s (blk Ty.VCORE v) = true →
              (vc t v).running = true ∧ (vc t v).pc = 0 ∧ (vc t v).stopped = false))
        ∧ (running s = false → t = { s with ft := { s.ft with doneStage := 64 }, zl := t.zl })) ∧
  (∀ s : State, awake s = true → 1 ≤ slotNow s → 64 ≤ s.ft.doneStage → exec .slot1Start s = .next s)

/-- R79, R80, R106: a marker of the tick parent for the present frame gives its skew e = arrival less delay less tick, shown in SKEW when 16 bits
hold it; the frame is matched, and the marker goes on to the children.
R81: a marker for the present frame with |e| above 80 ns is a skew fault, SKEW_FAULT set, and while a program runs the root raises a
HALT of cause 0x03. -/
def Obligations.TickMarkers : Prop :=
  (∀ (s : State) (link arr : Nat) (m : BitVec 128), Inv s → linkThere link = true → awake s = true → linkUp s link = true → fieldOf m.toNat 127 120 = 1 →
      checkGood m = true → bitOf m.toNat 8 = false → parentMarker s link m.toNat = true → fieldOf m.toNat 95 48 = s.ft.frame →
      let e : Int := (arr : Int) - (fieldOf m.toNat 47 28 + storedDelay s link : Nat) - 10 * s.ft.tickAt
      e.natAbs ≤ 200 →
      ∃ t, exec (.tickMarker link m arr false) s = .next t ∧ t.ft.lastE = some (s.ft.frame, e) ∧ s.ft.frame ∈ t.ft.matched
        ∧ getReg t ftBlk Off.FTIMER_SKEW = unsignedOf 16 e ∧ t.ft.goodRun = min 16 (s.ft.goodRun + 1) ∧ t.ft.out.length = s.ft.out.length + 1
        ∧ t.ft.pstate = s.ft.pstate ∧ t.mem = s.mem) ∧
  (∀ (s : State) (link arr : Nat) (m : BitVec 128), Inv s → linkThere link = true → awake s = true → linkUp s link = true → fieldOf m.toNat 127 120 = 1 →
      checkGood m = true → bitOf m.toNat 8 = false → parentMarker s link m.toNat = true → fieldOf m.toNat 95 48 = s.ft.frame →
      640 < ((arr : Int) - (fieldOf m.toNat 47 28 + storedDelay s link : Nat) - 10 * s.ft.tickAt).natAbs →
      ∃ t, exec (.tickMarker link m arr false) s = .next t ∧ (errSummary t ftBlk).testBit Err.FTIMER_SKEW_FAULT = true ∧ t.ft.goodRun = 0
        ∧ (running s = true → s.ft.halted = false → s.chord.halt = none → ∃ c, t.chord.halt = some (0x03, c, false)))

/-- R74, R82, R85: a marker whose cc has come leaves on every child port that is not DOWN and waits no longer; RESYNC for a number of frames at
the master is asked by PROG_CMD; a parent's marker that has not come by cc 44 is counted as missed.
R85: a package with no program takes the frame number and the tick of a RESYNC marker that does not agree with its own.
R77, R446, R478: a delay probe is answered by an echo 24 cc later; an echo of the port's own probe gives the one-way delay, half of the round
trip less the 24 cc of the answer, in units of 0.125 ns. -/
def Obligations.MarkersAndProbes : Prop :=
  ((∀ s : State, awake s = true → 2 ≤ s.ft.pstate →
      ∃ t, exec .tickMarkerSend s = .next t ∧ t.ft.out = s.ft.out.filter (fun m => decide (s.now < m.due)) ∧ t.mem = s.mem
        ∧ ∀ m ∈ s.ft.out, m.due ≤ s.now → ∀ k ∈ childPorts s, Out.garletCtrl k s.now (markerBlock 1 m) ∈ t.outs) ∧
    (∀ (s : State) (count : Nat), awake s = true → isMaster s = true → 0 < count → count < 64 →
      exec (.resyncCmd count) s = .next { s with ft := { s.ft with resyncLeft := 32 } }) ∧
    (∀ (s : State) (p : Program), Inv s → awake s = true → slotNow s = 0 → 44 ≤ ccNow s → s.ft.doneStage < 44 → 2 ≤ s.ft.pstate → isMaster s = false →
      s.prog = some p → s.ft.matched.contains (prevFrame s.ft.frame) = false →
      ∃ t, exec .tickMiss s = .next t ∧ t.ft.doneStage = 44
        ∧ regField t ftBlk Off.FTIMER_TICK_STATUS 31 16 = min 0xFFFF (regField s ftBlk Off.FTIMER_TICK_STATUS 31 16 + 1)
        ∧ (running s = true → t.ft.missRun = min 8 (s.ft.missRun + 1)) ∧ t.mem = s.mem)) ∧
  (∀ (s : State) (link arr : Nat) (m : BitVec 128), linkThere link = true → awake s = true → linkUp s link = true → fieldOf m.toNat 127 120 = 1 →
      checkGood m = true → bitOf m.toNat 8 = true → s.ft.pstate = 0 → s.prog = none →
      tickAgrees s (fieldOf m.toNat 95 48) ((arr : Int) - (fieldOf m.toNat 47 28 + storedDelay s link : Nat)) = false →
      ∃ t, exec (.resyncMarker link m arr) s = .next t ∧ t.ft.frame = fieldOf m.toNat 95 48 ∧ t.ft.trim = 0
        ∧ t.ft.tickAt = min s.now (nearestCc ((arr : Int) - (fieldOf m.toNat 47 28 + storedDelay s link : Nat))).toNat ∧ t.mem = s.mem) ∧
  ((∀ (s : State) (port : Nat) (m : BitVec 128), port < gportCount → linkUp s port = true → fieldOf m.toNat 127 120 = 2 → checkGood m = true →
      ∃ t, exec (.delayProbe port m) s = .next t ∧ onlyPort port s t ∧ (gp t port).echoDue = some (s.now + 24)) ∧
    (∀ (s : State) (port : Nat), port < gportCount → (gp s port).echoDue = some s.now → linkUp s port = true →
      ∃ t, exec (.delayEchoSend port) s = .next t ∧ (gp t port).echoDue = none ∧ t = { s with gports := t.gports, outs := t.outs }
        ∧ t.outs = (if ctrlHeld s port then s.outs else s.outs ++ [.garletCtrl port s.now (markerBlock 3 ⟨0, 0, 0, 0, 0, 0, false⟩)])) ∧
    (∀ (s : State) (port arr c : Nat) (m : BitVec 128), Inv s → port < gportCount → linkUp s port = true → fieldOf m.toNat 127 120 = 3 → checkGood m = true →
      (gp s port).probeAt = some c → (arr - 10 * c - 240) / 2 < 2 ^ 20 →
      ∃ t, exec (.delayEcho port m arr) s = .next t ∧ (gp t port).probeAt = none ∧ getReg t (gpBlk port) Off.GPORT_DELAY = (arr - 10 * c - 240) / 2
        ∧ t = { s with gports := t.gports, regs := t.regs }))
/-! ## Columns and row engines (07, 08, 09) -/

/-- R222, R224, R227, R229, R311: a stream transfer whose data cc has come hands its 512 bytes to its M-core; a request of the stack
router or of a stack mover joins the port queue in its place; an open PORT window serves a whole-granule write, which changes its granule and no
other byte; a column whose entries and requests are over marks its frame work done. -/
def Obligations.ColumnTransfers : Prop :=
  (∀ (s : State) (g q : Nat) (x : Fly) (rest : List Fly), g < 128 → q < 4 → (∀ j, j < 4 → j ≠ q → (col s (4 * g + j)).fly = []) →
    let c := 4 * g + q
    (col s c).fly = x :: rest → x.data ≤ s.now → colAvail s s.now = true → awake s = true → good s (blk Ty.MCORE g) = true →
    x.off + 512 ≤ 0x40000000 → x.off % 512 = 0 → spanClean s (dramAddr c x.off) 512 → sramClean s = true →
    let m := joinHalves 8 (pushHalf (mc s g) q (rawRead s (dramAddr c x.off) 512)) s.now
    streamUse m ≤ 64 →
    ∃ t, exec (.streamTransfer g) s = .next t ∧ mc t g = m ∧ t = { s with cols := t.cols, mcores := t.mcores } ∧ (col t c).fly = rest
      ∧ (∀ w, (col s c).window = some w → (colEntry (colBody s c) w.entry).kind = 1 →
          (col t c).window = (if (colEntry (colBody s c) x.entry).count ≤ x.made + 1 then none else some { w with next := s.now + 1, made := x.made + 1 }))
      ∧ (∀ h, h ≠ g → mc t h = mc s h) ∧ (∀ d, d / 4 ≠ g → col t d = col s d)) ∧
  (∀ (s : State) (c i : Nat) (x : OutCopy), c < 512 → routerCopy s c = some (i, x) →
    let r : PortReq := ⟨.router, true, true, x.aop, x.addr % 0x40000000 / 32 * 32, 1, [(x.addr % 0x40000000 % 32, x.data.length)], x.data, 0, s.now, 0, [], [], 0, 0⟩
    ∃ t, exec (.portRequest c .router) s = .next t ∧ (col t c).queue = acceptInsert r (col s c).queue
      ∧ (rtr t (c / 16)).outq = (rtr s (c / 16)).outq.zipIdx.map (fun y => if y.2 = i then { y.1 with taken := true } else y.1)
      ∧ t = { s with cols := t.cols, routers := t.routers } ∧ (∀ d, d ≠ c → col t d = col s d) ∧ ∀ j, j ≠ c / 16 → rtr t j = rtr s j) ∧
  (∀ (s : State) (c i : Nat) (r : PortReq) (x : SMover), c < 512 → i < 4 → smoverOpen s (4 * (c / 16) + i) = true →
    moverAccess s (4 * (c / 16) + i) c = some (r, x) →
    ∃ t, exec (.portRequest c (.mover i)) s = .next t ∧ (col t c).queue = acceptInsert r (col s c).queue ∧ smv t (4 * (c / 16) + i) = x
      ∧ t = { s with cols := t.cols, smovers := t.smovers } ∧ (∀ d, d ≠ c → col t d = col s d) ∧ ∀ m, m ≠ 4 * (c / 16) + i → smv t m = smv s m) ∧
  (∀ (s : State) (c : Nat) (r : PortReq), Inv s → c < 512 → colSync s c = s → portOpen s c = true → (col s c).queue = [r] →
    r.src = .router → r.sched = true → r.write = true → r.aop = 0 → r.parts = [(0, 32)] → r.count = 1 → r.next = 0 → r.bad = [] → r.got = [] →
    r.data.length = 32 → r.off % 32 = 0 → r.off < 0x40000000 → r.begun ≤ s.now + 1 →
    dataRoom (col s c) (max s.now ((bankAt (col s c) (bankPos r.off)).act + 11)) 1 false = true →
    (bankAt (col s c) (bankPos r.off)).openRow = some (rowOf r.off) → bitOf (getReg s (blk Ty.COLCTL c) Off.COLCTL_FLIP) 31 = false →
    let t := colServe s c
    (col t c).queue = [] ∧ rawRead t (dramAddr c r.off) 32 = r.data ∧ sameMemBut (dramAddr c r.off) 32 s t
      ∧ granuleClass t (dramAddr c r.off / 32) = .clean ∧ t.regs = s.regs ∧ (∀ d, d ≠ c → col t d = col s d)) ∧
  (∀ (s : State) (c : Nat), c < 512 → doneOpen s (blk Ty.COLCTL c) = true → (sectionOf s 7 c).isSome = true → columnFinished (colSync s c) c = true →
    ∃ t, exec (.columnDone c) s = .next t ∧ onlyColumn c s t ∧ (col t c).done = true)

/-- R286, R287, R290, R295, R297, R299: a row step starts, activates its banks, charges them and keeps them; one on a hot layer is refused with code
1, keeps its banks and charges none; 152 cc later it has written D with the operation's result, and D only; a QUEUE entry reserves its span, and its place
runs the next row of the oldest request. -/
def Obligations.RowSteps : Prop :=
  (∀ (s : State) (c i j : Nat) (e : ColEntry), c < 512 → rowCur s c = some (i, j, e) →
    let w := rowWork e.count e.addr e.arg
    let rows := w.stepRows j
    w.op ≠ 7 → workOpen s (blk Ty.COLCTL c) = true → posCc s e.slot e.cc ≤ s.now → (col s c).reserved ≤ s.now →
    (col s c).lastRow = 0 ∨ (col s c).lastRow + 3 ≤ s.now → banksFree s (col s c) (banksOf rows) = true → availSpan s s.now = true →
    ((col s c).hot.testBit (rowLayer (w.row w.d j)) = false → (∀ p ∈ banksOf rows, (bankAt (col s c) p).charged + 1 ≤ rowBudget s ∧ (bankAt (col s c) p).owed < 15) →
      ∃ t r, exec (.rowStepStart c) s = .next t ∧ onlyColumn c s t ∧ (col t c).steps = (col s c).steps ++ [r] ∧ r.start = s.now ∧ r.code = 0
        ∧ r.d = w.row w.d j ∧ r.op = w.op ∧ (col t c).rowEntry = (if j + 1 = w.rows then (i + 1, 0) else (i, j + 1)) ∧ (col t c).lastRow = s.now + 1
        ∧ (∀ p ∈ banksOf rows, (bankAt (col t c) p).act = s.now + 1 ∧ (bankAt (col t c) p).openRow = none
            ∧ (bankAt (col t c) p).charged = (bankAt (col s c) p).charged + 1
            ∧ (bankAt (col t c) p).activity = (if (bankAt (col s c) p).activity + 1 = 64 then 0 else (bankAt (col s c) p).activity + 1))
        ∧ ∀ p, p ∉ banksOf rows → bankAt (col t c) p = bankAt (col s c) p) ∧
    ((col s c).hot.testBit (rowLayer (w.row w.d j)) = true → Inv s →
      ∃ t r, exec (.rowStepStart c) s = .next t ∧ (col t c).steps = (col s c).steps ++ [r] ∧ r.code = 1 ∧ r.start = s.now
        ∧ (∀ p, (bankAt (col t c) p).charged = (bankAt (col s c) p).charged ∧ (bankAt (col t c) p).activity = (bankAt (col s c) p).activity)
        ∧ (∀ p ∈ banksOf rows, (bankAt (col t c) p).act = s.now + 1 ∧ (bankAt (col t c) p).openRow = none)
        ∧ t.mem = s.mem ∧ getReg t (blk Ty.COLCTL c) Off.COLCTL_RE_STATUS = 2 ^ 28 + w.row w.d j % 524288
        ∧ (errSummary t (blk Ty.COLCTL c)).testBit Err.COLCTL_RE_HOT = true)) ∧
  (∀ (s : State) (c : Nat) (r : RowStep) (rest : List RowStep), Inv s → c < 512 → awake s = true → (col s c).steps = r :: rest → r.start + 152 ≤ s.now →
    r.code = 0 → 1 ≤ r.op → r.op ≤ 6 → r.a < 524288 → r.b < 524288 → r.d < 524288 →
    (r.op ≠ 2 → spanClean s (dramAddr c (2048 * r.a)) 2048) → (r.op = 3 ∨ r.op = 4 ∨ r.op = 5 → spanClean s (dramAddr c (2048 * r.b)) 2048) →
    let src (x g : Nat) : Nat := leNat (rawRead s (dramAddr c (2048 * x) + 32 * g) 32)
    ∃ t, exec (.rowStepEnd c) s = .next t ∧ (col t c).steps = rest
      ∧ (∀ g, g < 64 → rawRead t (dramAddr c (2048 * r.d) + 32 * g) 32 = leBytes 32 (rowOp r.op (src r.a g) (src r.b g) r.pattern))
      ∧ sameMemBut (dramAddr c (2048 * r.d)) 2048 s t ∧ t.regs = s.regs ∧ (∀ d, d ≠ c → col t d = col s d)
      ∧ (r.last = true → bitOf r.evt 9 = true → ∃ m ∈ t.chord.msgs, ∃ b, m.kind = .event b (fieldOf r.evt 8 4))) ∧
  (∀ (s : State) (c i j : Nat) (e : ColEntry), c < 512 → rowCur s c = some (i, j, e) → fieldOf e.count 31 28 = 7 →
    workOpen s (blk Ty.COLCTL c) = true → placeCc (posCc s e.slot e.cc) j ≤ s.now →
    let next := if j + 1 = fieldOf e.count 26 19 + 1 then (i + 1, 0) else (i, j + 1)
    let span := queueSpan (posCc s e.slot e.cc) (fieldOf e.count 26 19 + 1)
    ((col s c).reqs = [] → ∃ t, exec (.queuePlace c) s = .next t ∧ onlyColumn c s t ∧ col t c = { (col s c) with rowEntry := next, reserved := span }) ∧
    (∀ (q : ReqEntry) (rest : List ReqEntry), (col s c).reqs = q :: rest →
      let w := rowWork q.count q.addr q.arg
      banksFree s (col s c) (banksOf (w.stepRows q.next)) = true → (col s c).hot.testBit (rowLayer (w.row w.d q.next)) = false →
      (∀ p ∈ banksOf (w.stepRows q.next), (bankAt (col s c) p).charged + 1 ≤ rowBudget s ∧ (bankAt (col s c) p).owed < 15) →
      ∃ t r, exec (.queuePlace c) s = .next t ∧ onlyColumn c s t ∧ (col t c).rowEntry = next ∧ (col t c).reserved = span
        ∧ (col t c).steps = (col s c).steps ++ [r] ∧ r.queued = true ∧ r.handle = q.handle ∧ r.d = w.row w.d q.next ∧ r.start = s.now ∧ r.code = 0
        ∧ (col t c).reqs = (if q.next + 1 = w.rows then rest else { q with next := q.next + 1 } :: rest)))

/-- R220, R233, R238, R264, R265, R270, R271, R272: at cc 40 of a slot that withholds the columns every bank stands precharged, with nothing that delays
the next activation, and a repair written in the slot takes effect; in a REFRESH slot a layer that owes a row pair refreshes it, else one that owes activity
refreshes performs one in each bank, and a free layer lets the scrubber read its row; a scrub step that falls due is counted up to 8; a hard bond takes
the next spare of its group, or sets SPARE_EXHAUSTED; in its slot a column calibrates, and a bond whose eye is weak turns hard. -/
def Obligations.ColumnUpkeep : Prop :=
  (∀ s : State, awake s = true → colWithheld s = true → ccNow s = 40 → (∀ x ∈ s.cols, x.2.rowPend = none) →
    ∃ t, exec .withheldPrecharge s = .next t ∧ t = { s with cols := t.cols }
      ∧ ∀ c, (∀ p, bankAt (col t c) p = bankShut (bankAt (col s c) p)) ∧ (col t c).queue = (col s c).queue ∧ (col t c).layers = (col s c).layers) ∧
  (∀ (s : State) (c row n : Nat) (found : List (Nat × Nat)), awake s = true → colWithheld s = true → ccNow s = 40 → (col s c).rowPend = some (row, n, found) →
    ∃ t, exec .withheldPrecharge s = .next t ∧ Assoc.get? row (col t c).rowMap = some n ∧ (col t c).rowPend = none ∧ t.regs = s.regs) ∧
  (∀ (s : State) (c : Nat), c < 512 → awake s = true → refreshOpen s = true → ccNow s ≤ 39 → (col s c).slotDone ≠ slotStart s (slotNow s) + 1 →
    (col s c).scrubPhase = .read → (col s c).hardCells = [] → (col s c).scrubDue = 0 →
    ∃ t, exec (.refreshSlot c) s = .next t ∧ onlyColumn c s t ∧ (col t c).slotDone = slotStart s (slotNow s) + 1
      ∧ (∀ l, l < 8 → layerAt (col t c) l = (if 65536 ≤ (layerAt (col s c) l).debt then
          { (layerAt (col s c) l) with debt := (layerAt (col s c) l).debt - 65536, pointer := ((layerAt (col s c) l).pointer + 2) % 16384 }
          else layerAt (col s c) l))
      ∧ (∀ l j, l < 8 → j < 4 →
          (bankAt (col t c) (4 * l + j)).owed = (if (layerAt (col s c) l).debt < 65536 then (bankAt (col s c) (4 * l + j)).owed - 1
            else (bankAt (col s c) (4 * l + j)).owed)
          ∧ (65536 ≤ (layerAt (col s c) l).debt ∨ 0 < (bankAt (col s c) (4 * l + j)).owed →
              (bankAt (col t c) (4 * l + j)).openRow = none ∧ (bankAt (col t c) (4 * l + j)).held = slotStart s (slotNow s) + 40))) ∧
  (∀ (s : State) (c : Nat), c < 512 → awake s = true → refreshOpen s = true → ccNow s ≤ 39 → (col s c).slotDone ≠ slotStart s (slotNow s) + 1 →
    (col s c).scrubPhase = .read → (col s c).hardCells = [] → 0 < (col s c).scrubDue → (col s c).scrubPtr + 1 < 524288 →
    (layerAt (col s c) (rowLayer (col s c).scrubPtr)).debt < 65536 →
    (∀ j, j < 4 → (bankAt (col s c) (4 * rowLayer (col s c).scrubPtr + j)).owed = 0) → spanClean s (dramAddr c (2048 * (col s c).scrubPtr)) 2048 →
    ∃ t, exec (.refreshSlot c) s = .next t ∧ onlyColumn c s t ∧ (col t c).scrubPtr = (col s c).scrubPtr + 1 ∧ (col t c).scrubDue = (col s c).scrubDue - 1
      ∧ (bankAt (col t c) ((col s c).scrubPtr % 32)).openRow = none ∧ (bankAt (col t c) ((col s c).scrubPtr % 32)).held = slotStart s (slotNow s) + 38
      ∧ (bankAt (col t c) ((col s c).scrubPtr % 32)).act = slotStart s (slotNow s) + 1
      ∧ ∀ i, i < 4 → s.now ≤ slotStart s (slotNow s) + 22 + i → ∀ rd, dataRoom (col t c) (slotStart s (slotNow s) + 22 + i) 1 rd = false) ∧
  (∀ (s : State) (c : Nat), c < 512 → awake s = true → 0 < scrubPeriod (col s c).scrubRate → (col s c).scrubAt + scrubPeriod (col s c).scrubRate ≤ s.now →
    ∃ t, exec (.scrubStepDue c) s = .next t ∧ (col t c).scrubAt = (col s c).scrubAt + scrubPeriod (col s c).scrubRate
      ∧ (col t c).scrubDue = min 8 ((col s c).scrubDue + 1) ∧ t.mem = s.mem ∧ ((col s c).scrubDue ≠ 8 → onlyColumn c s t)
      ∧ ((col s c).scrubDue = 8 → Inv s → (errSummary t (blk Ty.COLCTL c)).testBit Err.COLCTL_SCRUB_BEHIND = true)) ∧
  (∀ (s : State) (c b : Nat), c < 512 → leastBond (col s c).hardBonds = some b → awake s = true → colWithheld s = true → ccNow s = 0 →
    let p := bondPlace (col s c) b
    (∀ n, spareBond (col s c) (bondGroup p) = some n →
      ∃ t, exec (.bondSubstitution c) s = .next t ∧ Assoc.get? p (col t c).bondMap = some n ∧ b ∉ (col t c).hardBonds ∧ t.mem = s.mem
        ∧ (2304 ≤ b → b - 2304 ∈ (col t c).badBonds) ∧ Assoc.get? n (col t c).spareCals = some (col s c).cals.length
        ∧ t = { s with cols := t.cols, shape := t.shape } ∧ ∀ d, d ≠ c → col t d = col s d) ∧
    (spareBond (col s c) (bondGroup p) = none → Inv s →
      ∃ t, exec (.bondSubstitution c) s = .next t ∧ (col t c).bondMap = (col s c).bondMap ∧ b ∉ (col t c).hardBonds ∧ b ∈ (col t c).deadBonds ∧ t.mem = s.mem
        ∧ (errSummary t (blk Ty.COLCTL c)).testBit Err.COLCTL_SPARE_EXHAUSTED = true)) ∧
  (∀ (s : State) (c b : Nat), c < 512 → b < 2304 → awake s = true → classNow s = 5 → ccNow s ≤ 39 → c % 16 = s.ft.frame % 16 → b ∉ (col s c).hardBonds →
    b ∉ (col s c).deadBonds → Assoc.get? b (col s c).bondMap = none → (col s c).calAt ≠ slotStart s (slotNow s) + 1 →
    ∃ t, exec (.calMem [(c, b)]) s = .next t ∧ t = { s with cols := t.cols, freeCtr := s.freeCtr + 1 } ∧ (col t c).hardBonds = (col s c).hardBonds ++ [b]
      ∧ (col t c).bondMap = (col s c).bondMap
      ∧ ∀ d, d < 512 → if d % 16 = s.ft.frame % 16 ∧ (col s d).calAt ≠ slotStart s (slotNow s) + 1 then
            (col t d).cals = (col s d).cals ++ [s.freeCtr] ∧ (col t d).calAt = slotStart s (slotNow s) + 1
          else col t d = col s d)

/-- R250, R261, R274, R277: a queued write-back stores the corrected granule and leaves every other byte; a control-memory word found
corrected sets CTRL_CORR, one found uncorrectable CTRL_UNCORR and a frame fault of cause 0x11 when it serves the running program; FLIP.ARM arms the
column's flip mask; an SLM request of one unit is served at its bank: a write stores its 32 bytes, a read takes them to its packet. Once the memory of
a corrected word may be written, its write-back is over. -/
def Obligations.MemoryProtection : Prop :=
  (∀ (s : State) (a k : Nat), Inv s →
    let i := direct a / 32
    a < 2 ^ 48 → i ∈ s.writeBacks → granuleClass s i = .dataBit k → bankWritten s i = false →
    ∃ t, exec (.sramWriteBack a) s = .next t ∧ i ∉ t.writeBacks ∧ granuleClass t i = .clean
      ∧ leNat (rawRead t (32 * i) 32) = leNat (rawRead s (32 * i) 32) ^^^ 2 ^ k ∧ sameMemBut (32 * i) 32 s t
      ∧ t = { s with mem := t.mem, synd := t.synd, writeBacks := t.writeBacks }) ∧
  (∀ (s : State) (a k : Nat), Inv s →
    let i := a / 32
    2 ^ 48 ≤ a → i / 2 ^ 43 = 3 → i ∈ s.writeBacks → granuleClass s i = .dataBit k → bankWritten s i = false →
    ∃ t, exec (.sramWriteBack a) s = .next t ∧ i ∉ t.writeBacks ∧ granuleClass t i = .clean ∧ granuleBits t i = correctedBits s i
      ∧ t = { s with mboxes := t.mboxes, synd := t.synd, writeBacks := t.writeBacks }) ∧
  (∀ (s : State) (b w : Nat), Inv s → b < blockCount → hubUp s = true →
    ∃ t, exec (.ctrlWriteBack b w false) s = .next t ∧ (errSummary t b).testBit 2 = true ∧ (b, w, false) ∈ t.ctrlWords ∧ t.mem = s.mem ∧ t.ft = s.ft) ∧
  (∀ s : State, (∀ w ∈ (ctrlCc s).ctrlWords, w ∈ s.ctrlWords ∧ (w.2.2 = true ∨ ctrlWritten s w.1 = true)) ∧
    ∀ w ∈ s.ctrlWords, w.2.2 = true ∨ ctrlWritten s w.1 = true → w ∈ (ctrlCc s).ctrlWords) ∧
  (∀ (s : State) (b w : Nat), Inv s → b < blockCount → hubUp s = true →
    ∃ t, exec (.ctrlWriteBack b w true) s = .next t ∧ (errSummary t b).testBit 3 = true ∧ (b, w, true) ∈ t.ctrlWords ∧ t.mem = s.mem
      ∧ (runsProgram s b = true → running s = true → (chordUnit b).1 ≠ 32 → ∃ m ∈ t.chord.msgs, ∃ f, m.kind = .fault b 0x11 f s.now)) ∧
  (∀ (s : State) (c : Nat), Inv s → c < 512 → hubUp s = true →
    ∃ t, exec (.flipArm c) s = .next t ∧ regField t (blk Ty.COLCTL c) Off.COLCTL_FLIP 31 31 = 1
      ∧ regField t (blk Ty.COLCTL c) Off.COLCTL_FLIP 30 0 = regField s (blk Ty.COLCTL c) Off.COLCTL_FLIP 30 0 ∧ t = { s with regs := t.regs }) ∧
  (∀ (s : State) (q : SlmReq) (p : Packet) (off : Nat), Inv s → hubUp s = true → good s slmBlk = true → enabled s slmBlk = true → serviceOpen s = true →
    (rtr s 32).outq = [] → s.slm.queue = [q] → s.slm.used.1 ≠ s.now + 1 → packet? s q.packet = some p → q.fill = false → q.aop = 0 → q.addr = p.addr → placeOf q.addr = .slm off →
    q.addr % 32 = 0 → populated s q.addr = true → direct q.addr = q.addr → isAlias q.addr = false → p.badUnits = [] → p.status = 0 → p.data = [] →
    (q.write = true → q.data.length = 32 →
      ∃ t, exec .slmAccess s = .next t ∧ t.slm.queue = [] ∧ rawRead t q.addr 32 = q.data ∧ sameMemBut q.addr 32 s t
        ∧ ∃ p', packet? t q.packet = some p' ∧ p'.isReply = true ∧ p'.status = 0) ∧
    (q.write = false → spanClean s q.addr 32 →
      ∃ t, exec .slmAccess s = .next t ∧ t.slm.queue = [] ∧ t.mem = s.mem
        ∧ ∃ p', packet? t q.packet = some p' ∧ p'.isReply = true ∧ p'.status = 0 ∧ p'.data = rawRead s q.addr 32))
/-! ## Mesh, reduction and die-to-die connections (10) -/

/-- A scheduled flit at a port of a good, enabled router in cc `t` matches a flow with flits left, whose one output is local port `p`. -/
def TakesTo (s : State) (r port : Nat) (f : Flit) (t : Nat) (w : Flow) (p : Nat) : Prop :=
  good s (rblk r) = true ∧ workLive s (rblk r) = true ∧ enabled s (rblk r) = true
    ∧ matchFlow s r port f.key (slotAt s t) (ccAt s t) = some w ∧ Assoc.getD 0 (slotAt s t * 65536 + w.idx) (rtr s r).passed < w.count
    ∧ maskLanes 32 w.outs = [p] ∧ d2dAt r p = none ∧ p ≠ 31 ∧ ¬(r < 32 ∧ p = 18) ∧ (ejectPort r p = true → w.eject = 1)

/-- The flit stands at that output, there 3 cc later, with the bytes and the address that the flow's EJECT gives it, and is counted for its flow. -/
def CopyWaits (s t : State) (r : Nat) (f : Flit) (at_ : Nat) (w : Flow) (p : Nat) : Prop :=
  (∃ y ∈ (rtr t r).outq, y.port = p ∧ y.due = at_ + 3 ∧ y.flit = f ∧ y.flow = w.idx
      ∧ (ejectPort r p = true → y.data = f.bytes ∧ y.addr = ejectAddr r p w.base (32 * f.seq)))
    ∧ Assoc.getD 0 (slotAt s at_ * 65536 + w.idx) (rtr t r).passed = Assoc.getD 0 (slotAt s at_ * 65536 + w.idx) (rtr s r).passed + 1
    ∧ (rtr t r).sent = (rtr s r).sent + 1

/-- R306, R310, R313, R321, R325, R327, R328: a flit that arrives clean, one that an injection queue gives up, and the sum that a reduction of two
inputs makes each go where their flow says; a flit whose tag fails its CHECK goes nowhere, and the router latches it. -/
def Obligations.ScheduledFlits : Prop :=
  (∀ (s : State) (r port p : Nat) (noise : Flit) (x : Flight) (w : Flow), r < 33 → awake s = true → portReceives s r port = true → flightFor s r port = some x →
    let f := x.flit.xor noise
    f.tagOk = true → f.op ≤ 2 → f.cls = .clean → TakesTo s r port f x.due w p →
    ∃ t, exec (.flitArrival r port noise) s = .next t ∧ t = { s with flights := s.flights.erase x, routers := t.routers } ∧ CopyWaits s t r f x.due w p
      ∧ ∀ q, q ≠ r → rtr t q = rtr s q) ∧
  (∀ (s : State) (r port : Nat) (noise : Flit) (x : Flight), Inv s → r < 33 → awake s = true → portReceives s r port = true → flightFor s r port = some x →
    good s (rblk r) = true → port < 32 →
    let f := x.flit.xor noise
    f.tagOk = false →
    ∃ t, exec (.flitArrival r port noise) s = .next t ∧ t.flights = s.flights.erase x ∧ t.routers = s.routers ∧ t.mem = s.mem
      ∧ getReg t (rblk r) Off.ROUTER_LAST_ERR = port * 2 ^ 27 + f.key ∧ getReg t (rblk r) Off.ROUTER_LAST_ERR_SEQ = f.seq
      ∧ (errSummary t (rblk r)).testBit Err.ROUTER_TAG_ERR = true) ∧
  (∀ (s : State) (r m q p : Nat) (x : InjFlit) (rest : List InjFlit) (w : Flow), r < 32 → m < 4 → Assoc.sorted (mc s (4 * r + m)).inj = true →
    Assoc.getD [] q (mc s (4 * r + m)).inj = x :: rest → workOpen s (rblk r) = true → x.at_ < s.now → injTaken s r w.idx < w.rate →
    matchFlow s r (8 + m) x.flit.key (slotNow s) (ccNow s) = some w →
    let f := mkFlit x.flit.pay.toNat x.flit.rdi x.flit.seq (slotNow s) x.flit.op x.flit.key
    f.op ≤ 2 → TakesTo s r (8 + m) f s.now w p →
    ∃ t, exec (.injection r m q) s = .next t ∧ Assoc.getD [] q (mc t (4 * r + m)).inj = rest ∧ CopyWaits s t r f s.now w p
      ∧ injTaken t r w.idx = injTaken s r w.idx + 1 ∧ t = { s with mcores := t.mcores, routers := t.routers }) ∧
  (∀ (s : State) (r p q p' : Nat) (z a b : RedFlit) (w : Flow), r < 33 → nextResult s r = some z →
    let d := redDesc (redBody s r) z.flit.rdi
    let mine (y : RedFlit) : Bool := y.closed == z.closed && y.flit.rdi == z.flit.rdi && y.flit.seq == z.flit.seq
    d.kind = 1 → d.order = [p, q] → p ≠ q → (rtr s r).red.filter mine = [a, b] → a.port = p → b.port = q →
    let f := mkFlit (joinNat 32 (((splitNat 32 8 a.flit.pay.toNat).zip (splitNat 32 8 b.flit.pay.toNat)).map (fun x => devAdd32 x.1 x.2)))
      d.next a.flit.seq a.flit.slot 0 a.flit.key
    TakesTo s r 31 f (z.closed - 1 + 4) w p' →
    ∃ t, exec (.reductionResult r) s = .next t ∧ (rtr t r).red = (rtr s r).red.filter (fun y => !mine y) ∧ CopyWaits s t r f (z.closed - 1 + 4) w p'
      ∧ t = { s with routers := t.routers }) ∧
  (∀ (s : State) (r : Nat), r < 33 → doneOpen s (rblk r) = true → (sectionOf s 2 r).isSome = true → routerFinished s r = true →
    ∃ t, exec (.routerDone r) s = .next t ∧ (rtr t r).done = true ∧ t = { s with routers := t.routers })

/-- R312, R318, R319: an unscheduled packet that may move goes one router along the default route; a request that has reached a core waits at its store
by units, and at the end of the cc a unit of a V-core's local memory is read or written, and the request turns into its reply; a request for a facet sets
ACCESS there and is refused with status 1; a reply that has reached its requester leaves the mesh, with its data at the V-core that waits for it; what is held
at its entry point enters in a slot that carries it. -/
def Obligations.UnscheduledPackets : Prop :=
  (∀ (s : State) (id e : Nat) (p : Packet), packet? s id = some p → p.id = id → packetOpen s p 0 = true → p.here ≠ p.dest →
    d2dAt p.here (routePort p.here p.dest) = some e → good s (rblk (d2dEnd (d2dPeer e)).1) = true → (dd s e).ready = true → (dd s e).width ≠ 0 →
    outputFull s p.here (routePort p.here p.dest) = false →
    ∃ t, exec (.unscheduledFlit id ⟨0, 0, 0⟩) s = .next t ∧ t = { s with packets := t.packets }
      ∧ packet? t id = some { p with here := (d2dEnd (d2dPeer e)).1, ready := s.now + 8 } ∧ (∀ j, j ≠ id → packet? t j = packet? s j)) ∧
  (∀ (s : State) (id : Nat) (p : Packet), packet? s id = some p → p.id = id → p.isReply = false → packetOpen s p 3 = true → p.here = p.dest → p.here < 32 →
    p.port = 12 ∨ (4 ≤ p.port ∧ p.port ≤ 7) → outputFull s p.here p.port = false → writeTurn s p = true →
    ∃ t, exec (.req id) s = .next t ∧ t = { s with packets := t.packets, coreReqs := t.coreReqs } ∧ packet? t id = some { p with port := 31 }
      ∧ (∀ j, j ≠ id → packet? t j = packet? s j)
      ∧ t.coreReqs = s.coreReqs ++ (List.range (p.len + 1)).map (fun k => ⟨id, k, if p.write && p.badUnits.contains k then some (2, []) else none⟩)) ∧
  (∀ (s : State) (id v off : Nat) (p : Packet), Inv s → svcOpen s = true → packet? s id = some p → p.id = id → s.coreReqs = [⟨id, 0, none⟩] → v < 32 →
    p.len = 0 → p.aop = 0 → p.status = 0 → off + 32 ≤ 0x400000 → off % 32 = 0 → p.addr = vmemAddr v off → populated s p.addr = true →
    (p.write = false → spanClean s p.addr 32) → (p.write = true → p.data.length = 32) →
    let t := coreReplies (coreServe s s)
    t.coreReqs = [] ∧ ∃ q, packet? t id = some q ∧ q.isReply = true ∧ q.status = 0 ∧ q.dest = p.replyRouter ∧ q.port = p.replyPort ∧ q.ready = s.now ∧
      (p.write = false → t = { s with packets := t.packets, coreReqs := [] } ∧ q.data = rawRead s p.addr 32) ∧
      (p.write = true →
        rawRead t p.addr 32 = p.data ∧ sameMemBut p.addr 32 s t ∧ t.regs = s.regs ∧ t.mcores = s.mcores ∧ t.vcores = s.vcores)) ∧
  (∀ (s : State) (id : Nat) (p : Packet), packet? s id = some p → p.id = id → p.isReply = false → packetOpen s p 3 = true → p.here = p.dest → p.port = 30 →
    p.status = 0 → outputFull s p.here p.port = false → writeTurn s p = true →
    ∃ t q, exec (.req id) s = .next t ∧ packet? t id = some q ∧ q.isReply = true ∧ q.status = 1 ∧ q.data = [] ∧ t.mem = s.mem
      ∧ ∀ b, facetAt s (p.addr / 4096) = some b → Inv s → (errSummary t b).testBit 0 = true) ∧
  (∀ (s : State) (id : Nat) (p : Packet) (r : Remote), packet? s id = some p → p.isReply = true → packetOpen s p 3 = true → p.here = p.dest → p.here < 32 →
    p.port = 12 → outputFull s p.here p.port = false → (vc s p.here).remote = some r →
    ∃ t, exec (.resp id) s = .next t ∧ packet? t id = none ∧ (vc t p.here).remote = some { r with result := some (p.data, p.status) }
      ∧ t = { s with packets := t.packets, vcores := t.vcores } ∧ ∀ v, v ≠ p.here → vc t v = vc s v) ∧
  (∀ s : State, awake s = true → serviceOpen s = true →
    ∃ t, exec .serviceSlotEntry s = .next t ∧ t = { s with packets := t.packets, chord := t.chord }
      ∧ (∀ p ∈ t.packets, p.ready ≤ s.now → p.entered = true) ∧ t.packets.length = s.packets.length
      ∧ (∀ m ∈ t.chord.msgs, m.held = true → s.now < m.ready) ∧ t.chord.msgs.length = s.chord.msgs.length)

/-- R307, R332, R333, R334, R543, R545, R546: the ends of the frame's connections calibrate, once in the slot, and a weak lane leaves its end's mask and the
connection's width is computed anew for the next boundary; after a partial reset the reset end sends its mask when its test has ended, without the lanes known
bad before and with the lanes that failed recorded, the far end tests in its turn and replies with its mask and width, the reset end confirms the width, and equal
widths enable both ends at the next boundary slot; unequal widths are counted. -/
def Obligations.D2dConnections : Prop :=
  (∀ (s : State) (e h k : Nat), e < 112 → h < 2 → k < 23 → awake s = true → classNow s = 4 → e / 2 % 16 = s.ft.frame % 16 → ccNow s ≤ 39 → (dd s e).ready = true →
    (dd s e).width ≠ 0 → (dd s e).mask.testBit (23 * h + k) = true →
    let m := (dd s e).mask ^^^ 2 ^ (23 * h + k)
    let w := connWidth (m &&& (dd s (d2dPeer e)).mask)
    let cal (x : Nat) : D2DEnd :=
      if x < 112 ∧ x / 2 % 16 = s.ft.frame % 16 ∧ (dd s x).ready = true ∧ (dd s x).width ≠ 0 ∧ (dd s x).calAt ≠ slotStart s (slotNow s) + 1 then
        { (dd s x) with cals := (dd s x).cals ++ [s.freeCtr], calAt := slotStart s (slotNow s) + 1 }
      else dd s x
    ∃ t, exec (.calD2d [(e, h, k)]) s = .next t ∧ t = { s with d2d := t.d2d, freeCtr := s.freeCtr + 1 }
      ∧ dd t e = { (cal e) with mask := m, pendWidth := some w } ∧ dd t (d2dPeer e) = { (cal (d2dPeer e)) with pendWidth := some w }
      ∧ ∀ x, x ≠ e → x ≠ d2dPeer e → dd t x = cal x) ∧
  (∀ (s : State) (e own : Nat), e < 112 → awake s = true → (dd s e).tstate = 1 → (dd s e).fenced = false → (dd s e).testAt - 1 + 679200000 ≤ s.now →
    let m := maskWithout (own % 2 ^ 46) ((knownBad s (blk Ty.D2D e) 7).map (fun n => 23 * (n / 32) + n % 32))
    ∃ t, exec (.d2dQualificationEnd e own) s = .next t ∧ t = { s with d2d := t.d2d, shape := t.shape } ∧ (dd t e).mask = m ∧ (dd t e).tstate = 2
      ∧ (∀ n, n < 46 → own.testBit n = false → 32 * (n / 23) + n % 23 ∈ knownBad t (blk Ty.D2D e) 7)
      ∧ (∀ b u, ∀ n ∈ knownBad s b u, n ∈ knownBad t b u)
      ∧ (if (dd s e).resetEnd then (dd t (d2dPeer e)).inMarker = some m else (dd t (d2dPeer e)).inReply = some (m, connWidth (m &&& (dd s e).peer)))
      ∧ ∀ x, x ≠ e → x ≠ d2dPeer e → dd t x = dd s x) ∧
  (∀ (s : State) (e m : Nat), e < 112 → awake s = true → (dd s e).fenced = false → (dd s e).inMarker = some m →
    ∃ t, exec (.d2dRetrainMarker e) s = .next t ∧ onlyEnd e s t ∧ (dd t e).tstate = 1 ∧ (dd t e).peer = m ∧ (dd t e).ready = false ∧ (dd t e).width = 0
      ∧ (dd t e).testAt = s.now + 1 ∧ (dd t e).inMarker = none) ∧
  (∀ (s : State) (e m w : Nat), e < 112 → awake s = true → (dd s e).fenced = false → (dd s e).inReply = some (m, w) →
    let mine := connWidth ((dd s e).mask &&& m)
    ∃ t, exec (.d2dMaskReply e) s = .next t ∧ (dd t e).peer = m ∧ (dd t e).inReply = none ∧ (dd t (d2dPeer e)).inWidth = some mine ∧ t.mem = s.mem
      ∧ (mine = w → t = { s with d2d := t.d2d })
      ∧ (mine ≠ w → Inv s → (errSummary t (blk Ty.D2D e)).testBit Err.D2D_WIDTH_DISAGREE = true ∧ (dd t e).disagreeRun = (dd s e).disagreeRun + 1
          ∧ regField t (blk Ty.D2D e) Off.D2D_DISAGREE 7 0 = min 255 (regField s (blk Ty.D2D e) Off.D2D_DISAGREE 7 0 + 1))) ∧
  (∀ (s : State) (e w : Nat), e < 112 → awake s = true → (dd s e).fenced = false → (dd s e).inWidth = some w →
    let mine := connWidth ((dd s e).mask &&& (dd s e).peer)
    (mine = w → ∃ t, exec (.d2dWidthConfirm e) s = .next t ∧ t = { s with d2d := t.d2d } ∧ (dd t e).inWidth = none ∧ (dd t e).pendWidth = some w
      ∧ (dd t (d2dPeer e)).pendWidth = some w) ∧
    (mine ≠ w → (dd s e).disagreeRun < 3 → Inv s →
      ∃ t, exec (.d2dWidthConfirm e) s = .next t ∧ (dd t e).disagreeRun = (dd s e).disagreeRun + 1 ∧ (dd t (d2dPeer e)).tstate = 1
        ∧ (dd t (d2dPeer e)).resetEnd = true ∧ (errSummary t (blk Ty.D2D e)).testBit Err.D2D_WIDTH_DISAGREE = true))

/-! ## KV store (12) -/

/-- R374, R375, R376, R377, R378, R379, R380, R382, R385: a request record joins its frame's requests in ORD order and waits for its staging, which takes 4 cc
after the one before once the lines it needs are there; a reserved one is a request error of code 3 when its frame ends; the commit of a frame that ran makes
its pins, copy pins and write log, writes LAST_COMMIT and leaves no request of that frame; a frame that faulted or was halted commits nothing; an ALLOC takes the
lowest free page of its column, live with one reference; the end of a copy ends its pin; the flush of a halt completes. -/
def Obligations.KvRequests : Prop :=
  (∀ (s : State) (rec : BitVec 256) (g : KvCfg), hubUp s = true → kvCfg s = some g → s.ft.halted = false → (rtr s 32).outq = [] →
    let b := leBytes 32 rec.toNat
    let r := { (kvReqOf b) with bad := if kvReserved b then 3 else 0 }
    frameAhead s.ft.frame r.frame ≤ 64 → (kvOf s r.frame).length < 4096 → s.kv.reqs.length < 16384 →
    (∀ x ∈ kvOf s r.frame, x.ord ≠ r.ord) →
    exec (.kvRequest rec) s = .next { s with kv := { s.kv with reqs := kvInsert r s.kv.reqs, waiting := s.kv.waiting ++ [(r.frame, r.ord)] } }) ∧
  (∀ (s : State) (n ord : Nat) (rest : List (Nat × Nat)), s.kv.waiting = (n, ord) :: rest → s.kv.asks = [] →
    (∀ l ∈ kvNeeds s n ord, l ∈ s.kv.lines ∨ l ∈ s.kv.got) → sramClean s = true →
    let at_ := max s.now s.kv.stagedAt + 4
    kvCc s = { s with kv := { s.kv with waiting := rest, stagedAt := at_, got := [],
                                        reqs := s.kv.reqs.map (fun r => if r.frame = n ∧ r.ord = ord ∧ r.staged = 0 then { r with staged := at_ } else r) } }) ∧
  (∀ (s : State) (n : Nat) (r : KvReq) (g : KvCfg), Inv s → kvCfg s = some g → kvLive s = true → s.ft.halted = false →
    (kvOf s n).find? (fun r => r.bad != 0) = some r → r.bad = 3 → r.ord < 2 ^ 32 →
    let t := kvTick s n
    t.kv = s.kv ∧ t.mem = s.mem ∧ getReg t prefixBlk Off.PREFIX_FAULT = 3 * 2 ^ 24 ∧ getReg t prefixBlk Off.PREFIX_FAULT_ORD = r.ord
      ∧ (errSummary t prefixBlk).testBit Err.PREFIX_REQ_FAULT = true) ∧
  (∀ (s : State) (g : KvCfg), Inv s → awake s = true → slotNow s = 0 → 29 ≤ ccNow s → s.ft.doneStage < 29 → kvCfg s = some g → s.ft.faultedPrev = false →
    s.ft.halted = false → kvLive s = true →
    let n := (s.ft.frame + 2 ^ 48 - 1) % 2 ^ 48
    let x := commitTx s g (kvOf s n) n
    (∀ r ∈ kvOf s n, r.bad = 0) → x.err = none → x.copies = [] →
    ∃ t, exec .commit s = .next t ∧ t.ft.doneStage = 29 ∧ t.kv.pins = x.pins ∧ t.kv.framePins = x.framePins ∧ t.kv.log = x.log
      ∧ getReg t prefixBlk Off.PREFIX_LAST_COMMIT = n % 2 ^ 32 ∧ kvOf t n = [] ∧ t.mcores = s.mcores ∧ t.vcores = s.vcores) ∧
  (∀ s : State, awake s = true → slotNow s = 0 → 29 ≤ ccNow s → s.ft.doneStage < 29 → s.ft.faultedPrev = true ∨ s.ft.halted = true →
    exec .commit s = .next { s with ft := { s.ft with doneStage := 29 },
                                    kv := { s.kv with reqs := s.kv.reqs.filter (fun r => r.frame != (s.ft.frame + 2 ^ 48 - 1) % 2 ^ 48),
                                                      waiting := s.kv.waiting.filter (fun w => w.1 != (s.ft.frame + 2 ^ 48 - 1) % 2 ^ 48) } }) ∧
  (∀ (s : State) (g : KvCfg) (n : Nat) (x : KvTx) (r : KvReq) (h : Nat), r.code = 3 → g.cols.contains (r.target % 512) = true →
    lowestFree s g x (g.cols.idxOf (r.target % 512)) = some h → n < 2 ^ 48 → g.loc h < 2 ^ 23 →
    let e := txEnt s g (stepTake s g n x r) h
    entState e = 1 ∧ entRef e = 1 ∧ entDelta e = 0 ∧ entSettled e = n ∧ entPinned e = false ∧ (stepTake s g n x r).res = x.res ++ [(r.ord, (0, some h))]
      ∧ ∀ k, k ≠ h → txEnt s g (stepTake s g n x r) k = txEnt s g x k) ∧
  (∀ (s : State) (id h t : Nat) (m : ChordMsg), landedMsg s id = some m → m.kind = .copyEnd h t →
    ∃ u, exec (.copyEndReport id) s = .next u ∧ u = { s with kv := u.kv, chord := u.chord } ∧ u.chord.msgs = s.chord.msgs.filter (fun x => x.id != id)
      ∧ u.kv.pins = s.kv.pins.map (fun p => if p.2.1 = h ∧ p.2.2 = 0 then (p.1, h, t + 1) else p) ∧ u.kv.reqs = s.kv.reqs) ∧
  (∀ s : State, s.kv.flushPending = true →
    exec .prefixFlushed s = .next { s with kv := { s.kv with flushed := true, flushPending := false } })
/-! ## Movers and mailboxes (13) -/

/-- R403, R407: a stack mover starts its next descriptor in the first cc at or after its position (WAIT_LATE when it was not free by then), and
completes it when every access has been accepted: its OWN is cleared in the working copy, the next owned descriptor comes up, or the mover is done;
EVT sends its event. -/
def Obligations.StackMoverDescriptors : Prop :=
  (∀ (s : State) (m : Nat), m < 128 →
    let x := smv s m
    let d := ringDesc (ringBody s m) x.desc
    let at_ := posCc s (d.startSlot % 4096) d.startCc
    workOpen s (blk Ty.SMOVER m) = true → x.running = true → x.active = false → x.halted = false → x.fenced = false → x.freeAt ≤ s.now → at_ ≤ s.now →
    ∃ t, exec (.descriptorStart m) s = .next t ∧ (smv t m).active = true ∧ (smv t m).startAt = s.now ∧ (smv t m).walk = ⟨0, 0, []⟩
      ∧ (smv t m).rxSeq = fieldOf d.src 27 16 ∧ (smv t m).desc = x.desc ∧ t.mem = s.mem ∧ (x.freeAt ≤ at_ → onlyMover m s t)
      ∧ (at_ < x.freeAt → Inv s → (errSummary t (blk Ty.SMOVER m)).testBit Err.SMOVER_WAIT_LATE = true)) ∧
  (∀ (s : State) (m : Nat), m < 128 →
    let x := smv s m
    let d := ringDesc (ringBody s m) x.desc
    workOpen s (blk Ty.SMOVER m) = true → x.active = true → x.halted = false → x.fenced = false → x.walk.src = d.srcTotal → x.walk.dst = d.dstTotal →
    x.reads = [] → x.writes = 0 → x.lastAt ≤ s.now →
    ∃ t, exec (.descriptorComplete m) s = .next t ∧ (smv t m).active = false ∧ (smv t m).cleared = x.cleared ++ [x.desc] ∧ (smv t m).freeAt = s.now
      ∧ (smv t m).desc = nextOwned t m (x.desc + 1) ∧ (smv t m).moved = x.moved ∧ t.mem = s.mem
      ∧ (ringCount (ringBody s m) ≤ (smv t m).desc → (smv t m).running = false ∧ (smv t m).done = true)
      ∧ (bitOf d.ctrl 29 = false → onlyMover m s t)
      ∧ (bitOf d.ctrl 29 = true → eventTarget d.target = true → blockState s d.target ≠ 3 →
          ∃ k, t.chord.msgs = s.chord.msgs ++ [k] ∧ k.kind = .event d.target (fieldOf d.ctrl 28 24 % 32)))

/-- A hub channel's bus error: it halts with the failing address, direction and cause in its facet, and BUS_ERR set (R414). -/
def ChannelHalted (s t : State) (c addr dir cause : Nat) : Prop :=
  (hmv t c).halted = true ∧ (hmv t c).running = false ∧ (hmv t c).reqs = [] ∧ (hmv t c).head = (hmv s c).head
    ∧ getReg t (hmBlk c) Off.SMOVER_FAIL_ADDR_LO = addr % 2 ^ 32 ∧ getReg t (hmBlk c) Off.SMOVER_FAIL_ADDR_HI = addr / 2 ^ 32 % 2 ^ 32
    ∧ getReg t (hmBlk c) Off.SMOVER_FAIL_INFO = dir * 2 ^ 30 + cause * 2 ^ 27 + (hmv s c).head % 4096
    ∧ (errSummary t (hmBlk c)).testBit Err.HMOVER_BUS_ERR = true

/-- A hub channel asks for the descriptor at its head, or writes to it: one packet from hub port 11 that waits for its entry, and one request that the channel,
otherwise as `x`, waits for until its deadline. -/
def ChannelAsks (s t : State) (c stage dir len : Nat) (write : Bool) (data : List Byte) (x : HMover) : Prop :=
  ∃ p, t = { s with packets := s.packets ++ [p], nextPacket := s.nextPacket + 1, hmovers := t.hmovers }
    ∧ p.id = s.nextPacket ∧ p.here = 32 ∧ p.isReply = false ∧ p.replyRouter = 32 ∧ p.replyPort = 11 ∧ p.replySub = c ∧ p.rtag = c
    ∧ p.write = write ∧ p.aop = 0 ∧ p.len = len ∧ p.addr = direct (hmHeadAddr s c / 32 * 32) ∧ p.data = data ∧ p.entered = false
    ∧ hmv t c = { x with stage := stage, reqs := x.reqs ++ [⟨s.nextPacket, false, dir, hmHeadAddr s c, s.now + hmTimeout s c, [], none⟩] }
    ∧ ∀ h, h ≠ c → hmv t h = hmv s h

/-- The reply without error to a request of a hub channel has reached hub port 11 in time: `r` is that request. -/
def ChannelReply (s : State) (id c : Nat) (p : Packet) (r : HReq) : Prop :=
  c < 16 ∧ packet? s id = some p ∧ p.isReply = true ∧ packetOpen s p 3 = true ∧ p.here = 32 ∧ p.dest = 32 ∧ p.port = 11 ∧ p.sub = c ∧ p.status = 0
    ∧ outputFull s 32 11 = false ∧ (hmv s c).reqs.find? (fun q => q.key == id && !q.host) = some r ∧ r.key = id ∧ r.host = false ∧ s.now < r.deadline + 3

/-- The first granule of a descriptor with OWN 0 and every other bit as it was (R411, R415). -/
def ownCleared (desc : List Byte) : List Byte := leBytes 4 (bytesAt (fit desc 32) 0 4 % 2 ^ 31) ++ (fit desc 32).drop 4

/-- R399, R409, R411, R412, R413, R414, R415: a hub channel reads the CTRL word of the descriptor at its head: OWN 1 reads the rest, which runs when it is valid
and halts the channel with cause 3 when not; OWN 0 waits for the doorbell; when the descriptor is complete its first granule goes back with OWN 0 and every other
bit as it was, and when that is acknowledged the head advances modulo the ring's size and the notice goes out; a request that stays without a reply past its
deadline halts the channel with cause 4; RETRY reads the same descriptor again and SKIP retires it, with OWN 0 and no notice. -/
def Obligations.HubChannels : Prop :=
  (∀ (s : State) (c : Nat), c < 16 → hmOpen s c = true → (hmv s c).running = false → (hmv s c).halted = false → (hmv s c).waiting = false →
    (hmv s c).stage = 0 → 1 ≤ (hmv s c).ringSize → (hmv s c).ringSize ≤ 4096 → storeSpan s (hmHeadAddr s c) 64 true = true →
    ∃ t, exec (.hubDescriptorFetch c) s = .next t ∧ ChannelAsks s t c 1 2 0 false [] (hmv s c)) ∧
  (∀ (s : State) (id c : Nat) (p : Packet) (r : HReq), ChannelReply s id c p r → r.dir = 2 →
    let u := dropPacket s id
    let x := dropReq (hmv s c) id false
    ((hmv s c).stage = 1 → (hmv s c).enabled = true → (hmv s c).fenced = false →
      (bitOf (bytesAt p.data 0 4) 31 = true → ∃ t, exec (.resp id) s = .next t ∧ ChannelAsks u t c 2 2 1 false [] { x with desc := p.data }) ∧
      (bitOf (bytesAt p.data 0 4) 31 = false →
        ∃ t, exec (.resp id) s = .next t ∧ onlyChannel c u t ∧ hmv t c = { x with desc := p.data, stage := 0, waiting := true })) ∧
    ((hmv s c).stage = 2 →
      let d := (hmv s c).desc.take 4 ++ p.data.drop 4
      (hubDescOk d = true → ∃ t, exec (.resp id) s = .next t ∧ onlyChannel c u t
        ∧ hmv t c = { x with running := true, desc := d, walk := ⟨0, 0, []⟩, stage := 0 }) ∧
      (hubDescOk d = false → Inv s → ∃ t, exec (.resp id) s = .next t ∧ t.mem = s.mem ∧ ChannelHalted s t c (hmHeadAddr s c) 2 3))) ∧
  (∀ (s : State) (c : Nat), c < 16 → hmOpen s c = true → (hmv s c).running = true → (hmv s c).stage = 0 → (hmv s c).walk.src = (hmDesc s c).srcTotal →
    (hmv s c).walk.dst = (hmDesc s c).dstTotal → (hmv s c).reqs = [] →
    ∃ t, exec (.hubDescriptorComplete c) s = .next t ∧ ChannelAsks s t c 3 3 0 true (ownCleared (hmv s c).desc) (hmv s c)) ∧
  (∀ (s : State) (id c : Nat) (p : Packet) (r : HReq), ChannelReply s id c p r → r.dir = 3 → (hmv s c).stage = 3 ∨ (hmv s c).stage = 5 →
    let d := hmDesc s c
    let tells : Prop := (hmv s c).stage = 3 ∧ (hmv s c).fenced = false ∧ bitOf d.ctrl 29 = true
    (tells → noticeTarget s d.target = true) →
    ∃ t, exec (.resp id) s = .next t ∧ hmv t c =
          { (hmv s c) with
              head := ((hmv s c).head + 1) % max 1 (hmv s c).ringSize, running := false, halted := false, waiting := false,
              desc := [], walk := ⟨0, 0, []⟩, reqs := [], stage := 0 }
      ∧ (∀ h, h ≠ c → hmv t h = hmv s h)
      ∧ (¬ tells → t = { (dropPacket s id) with hmovers := t.hmovers })
      ∧ (tells → t = { (dropPacket s id) with hmovers := t.hmovers, chord := t.chord }
          ∧ ∃ m, t.chord.msgs = s.chord.msgs ++ [m] ∧ m.kind = .notice d.target (fieldOf d.ctrl 28 24) 1)) ∧
  (∀ (s : State) (c : Nat) (r : HReq), Inv s → c < 16 → hubUp s = true → (hmv s c).reqs.find? (fun r => r.data.isNone && decide (r.deadline + 3 ≤ s.now) && !replyWaits s r) = some r →
    r.dir < 4 → ∃ t, exec (.hmoverTimeout c) s = .next t ∧ t.mem = s.mem ∧ ChannelHalted s t c r.addr r.dir 4) ∧
  (∀ (s : State) (c : Nat), c < 16 → hubUp s = true →
    ∃ t, exec (.doorbell c) s = .next t ∧ onlyChannel c s t ∧ hmv t c = { (hmv s c) with waiting := false }) ∧
  (∀ (s : State) (c : Nat), c < 16 → hubUp s = true → (hmv s c).halted = true → (hmv s c).fenced = false → (hmv s c).stage = 0 →
    ∃ t, exec (.retry c) s = .next t ∧ onlyChannel c s t
      ∧ hmv t c = { (hmv s c) with halted := false, running := false, waiting := false, desc := [], walk := ⟨0, 0, []⟩, reqs := [] }) ∧
  (∀ (s : State) (c : Nat), c < 16 → hubUp s = true → (hmv s c).halted = false ∨ (hmv s c).fenced = true → exec (.retry c) s = .next s ∧ exec (.skip c) s = .next s) ∧
  (∀ (s : State) (c : Nat), c < 16 → hubUp s = true → (hmv s c).halted = true → (hmv s c).fenced = false → (hmv s c).stage = 0 →
    storeSpan s (hmHeadAddr s c) 4 true = true →
    ∃ t, exec (.skip c) s = .next t ∧
      (if (hmv s c).desc = [] then ChannelAsks s t c 4 3 0 false [] (hmv s c)
       else ChannelAsks s t c 5 3 0 true (ownCleared (hmv s c).desc) (hmv s c))) ∧
  (∀ (s : State) (id c : Nat) (p : Packet) (r : HReq), ChannelReply s id c p r → r.dir = 3 → (hmv s c).stage = 4 → (hmv s c).fenced = false →
    ∃ t, exec (.resp id) s = .next t
      ∧ ChannelAsks (dropPacket s id) t c 5 3 0 true (ownCleared (fit p.data 32)) { (dropReq (hmv s c) id false) with desc := fit p.data 32 })

/-- Only mailbox queue `q` differs, with the check bits of its SRAM. -/
def onlyQueue (q : Nat) (s t : State) : Prop :=
  t = { s with mboxes := t.mboxes, synd := t.synd, writeBacks := t.writeBacks } ∧ (∀ h, h ≠ q → mbx t h = mbx s h)
    ∧ ∀ i, i < 2 ^ 43 → Assoc.get? i t.synd = Assoc.get? i s.synd

/-- The queue stands between commands: its SRAM holds no error, and every entry 16 bytes. -/
def QueueClean (s : State) (q : Nat) : Prop := sramClean s = true ∧ ∀ p, ((mbx s q).entry p).length = 16

/-- R418, R419, R420, R421, R422, R424: APPEND puts its two entries at RESV of an open outbound packet; one that finds the queue full cuts the packet and sets
OVERFLOW; CLOSE writes the packet's LENGTH and sends COMMIT on its way to RESV, one entry each cc, seen by the other side behind two stages; READ takes the next
whole packet's entries and moves RD; a READ of an empty queue sets UNDERRUN, and a command that the queue's direction does not have sets BAD_OP; a queue that has
waited STALE_CC notes it once. -/
def Obligations.MailboxQueues : Prop :=
  (∀ (s : State) (q : Nat) (data : BitVec 256) (f : Bool), 64 ≤ q → q < 128 → hubUp s = true → (mbx s q).fenced = false → (mbx s q).isOpen = true →
    (mbx s q).dropping = false → rdSeen (mbx s q) < 2048 → (mbx s q).resv < 2048 → 2 ≤ mbFree (mbx s q) → QueueClean s q →
    ∃ t, exec (.append q data f) s = .next t ∧ onlyQueue q s t ∧ (mbx t q).resv = ((mbx s q).resv + 2) % 2048 ∧ (mbx t q).commit = (mbx s q).commit
      ∧ (mbx t q).commitTo = (mbx s q).commitTo
      ∧ (mbx t q).entry (mbx s q).resv = (leBytes 32 data.toNat).take 16 ∧ (mbx t q).entry ((mbx s q).resv + 1) = (leBytes 32 data.toNat).drop 16
      ∧ ∀ p, p % 1024 ≠ (mbx s q).resv % 1024 → p % 1024 ≠ ((mbx s q).resv + 1) % 1024 → (mbx t q).entry p = (mbx s q).entry p) ∧
  (∀ (s : State) (q : Nat) (data : BitVec 256) (f : Bool), Inv s → 64 ≤ q → q < 128 → hubUp s = true → (mbx s q).fenced = false → (mbx s q).isOpen = true →
    (mbx s q).dropping = false → mbFree (mbx s q) = 0 →
    ∃ t, exec (.append q data f) s = .next t ∧ mbx t q = { (mbx s q) with trunc := true } ∧ t.mem = s.mem
      ∧ (errSummary t (mbBlk q)).testBit Err.MBOX_OVERFLOW = true) ∧
  (∀ (s : State) (q : Nat) (f : Bool), 64 ≤ q → q < 128 → hubUp s = true → (mbx s q).fenced = false → (mbx s q).isOpen = true → (mbx s q).dropping = false →
    QueueClean s q →
    let n := ((mbx s q).resv + 2048 - (mbx s q).openAt) % 2048
    ∃ t, exec (.close q f) s = .next t ∧ onlyQueue q s t ∧ (mbx t q).commitTo = (mbx s q).resv ∧ (mbx t q).commit = (mbx s q).commit
      ∧ (mbx t q).isOpen = false ∧ (mbx t q).rd = (mbx s q).rd ∧ (mbx t q).resv = (mbx s q).resv
      ∧ (mbx t q).entry (mbx s q).openAt = leBytes 4 (b2n (mbx s q).trunc * 2 ^ 31 + n) ++ List.replicate 12 0
      ∧ ∀ p, p % 1024 ≠ (mbx s q).openAt % 1024 → (mbx t q).entry p = (mbx s q).entry p) ∧
  (∀ (s : State) (q : Nat),
    let x := mbx s q
    let y := mbx (mboxCc s q) q
    y.commit = (if x.commit = x.commitTo then x.commit else (x.commit + 1) % 2048) ∧ y.cSync = (toGray x.commit, x.cSync.1) ∧ y.rSync = (toGray x.rd, x.rSync.1)
      ∧ y.entries = x.entries ∧ y.rd = x.rd ∧ y.resv = x.resv ∧ (hubHeld q x = 0 → hubHeld q y ≠ 0 → y.timer = s.now + 2)
      ∧ ∀ h, h ≠ q → mbx (mboxCc s q) h = mbx s h) ∧
  (∀ (s : State) (q len n : Nat), q < 64 → len < 256 → hubUp s = true → (mbx s q).fenced = false → staleOver s q s.now = false → QueueClean s q →
    (mbWhole s q).2.1 = some n → 0 < n →
    let k := min (2 * (len + 1)) n
    ∃ t l, exec (.read q len) s = .next t ∧ (mbx t q).rd = ((mbx s q).rd + k) % 2048 ∧ (mbx t q).noticed = false ∧ (mbx t q).entries = (mbx s q).entries
      ∧ (mbx t q).lastRead = (mbx s q).entry ((mbx s q).rd + k - 1) ∧ t = { s with mboxes := t.mboxes, outs := s.outs ++ [.mailRead q l] }
      ∧ l.length = len + 1
      ∧ (∀ i, 2 * i + 1 < k → l[i]? = some (BitVec.ofNat 256 (leNat ((mbx s q).entry ((mbx s q).rd + 2 * i) ++ (mbx s q).entry ((mbx s q).rd + 2 * i + 1)))))
      ∧ ∀ h, h ≠ q → mbx t h = mbx s h) ∧
  (∀ (s : State) (q len : Nat), Inv s → q < 64 → len < 256 → hubUp s = true → (mbx s q).fenced = false → staleOver s q s.now = false → mbWhole s q = (s, none, none) →
    let e := fit (mbx s q).lastRead 16
    ∃ t, exec (.read q len) s = .next t ∧ t.mboxes = s.mboxes ∧ (errSummary t (mbBlk q)).testBit Err.MBOX_UNDERRUN = true
      ∧ t.outs = s.outs ++ [.mailRead q (List.replicate (len + 1) (BitVec.ofNat 256 (leNat (e ++ e))))]) ∧
  (∀ (s : State) (q : Nat) (data : BitVec 256), Inv s → q < 64 → hubUp s = true → (mbx s q).fenced = false →
    ∃ t, exec (.append q data false) s = .next t ∧ t.mboxes = s.mboxes ∧ t.mem = s.mem ∧ (errSummary t (mbBlk q)).testBit Err.MBOX_BAD_OP = true) ∧
  (∀ (s : State) (q : Nat), Inv s → q < 128 → staleOver s q s.now = true → readWaits s q = false →
    ∃ t, exec (.staleTimeout q) s = .next t ∧ mbx t q = { (mbx s q) with noticed := true } ∧ t.mem = s.mem
      ∧ (bitOf (getReg s (mbBlk q) Off.MBOX_NOTICE_ROUTE) 31 = true → (errSummary t (mbBlk q)).testBit Err.MBOX_NOTICE = true))
/-! ## Garlet ports (14) -/

/-- R434, R437, R439, R441, R443, R445, R447, R561: a clean flit of a good record joins the port's receive buffer under the frame it belongs to; an uncorrectable
codeword sets FEC_UNCORR, counted where it ends, and nothing of the record is taken; a flit that the port schedule releases enters its router's port 18; a place for which no flit of its KEY had
come is a frame fault of cause 0x02; a port with every release made and nothing to send marks its frame work done; a peer's halt is sent on to the root. -/
def Obligations.GarletTraffic : Prop :=
  (∀ (s : State) (p : Nat) (rec : BitVec 2000), p < 20 → gpLive s p = true → (gp s p).tstate = 7 → (gp s p).rxWidth = 2 →
    let x := rec.toNat
    let f := recordFlit x 0
    crc8 x 103 0 = fieldOf x 111 104 → x.testBit 0 = true → (∀ k, 1 ≤ k → k ≤ 5 → x.testBit k = false) → f.cls = .clean → gpProgram s p = true →
    2 ≤ slotNow s → (gp s p).rx.length < 4096 →
    ∃ t, exec (.garletRecord p rec false 0) s = .next t ∧ onlyPort p s t ∧ (gp t p).rx = (gp s p).rx ++ [⟨s.ft.frame, f, s.now⟩]) ∧
  (∀ (s : State) (p n : Nat) (rec : BitVec 2000), Inv s → p < 20 → gpLive s p = true → 5 ≤ (gp s p).tstate →
    ∃ t, exec (.garletRecord p rec true n) s = .next t ∧ t.gports = s.gports ∧ t.mem = s.mem
      ∧ getReg t (gpBlk p) Off.GPORT_FEC_UNCORR = min (2 ^ 32 - 1) (getReg s (gpBlk p) Off.GPORT_FEC_UNCORR + b2n (n.testBit 544))
      ∧ (errSummary t (gpBlk p)).testBit Err.GPORT_FEC_UNCORR = true) ∧
  (∀ (s : State) (p j : Nat) (r : RxFlit), p < 20 → workOpen s (gpBlk p) = true → gpEntryCount (gpBody s p) = 1 →
    let e := gpEntry (gpBody s p) 0
    let n := Assoc.getD 0 0 (gp s p).released
    let at_ := posCc s e.slot e.cc
    at_ ≤ s.now → min e.count (e.rate * (s.now - at_ + 1)) = n + 1 →
    (gp s p).rx.findIdx (fun r => r.frame == s.ft.frame && r.flit.key == e.key && decide (r.at_ ≤ at_ + n / max 1 e.rate)) = j →
    (gp s p).rx[j]? = some r →
    ∃ t, exec (.portRelease p) s = .next t ∧ (gp t p).rx = (gp s p).rx.eraseIdx j ∧ Assoc.getD 0 0 (gp t p).released = n + 1
      ∧ t = { s with gports := t.gports, flights := t.flights }
      ∧ t.flights = flightAppend ⟨p + 12, 18, at_ + n / max 1 e.rate, 0, r.flit⟩ s.flights) ∧
  (∀ (s : State) (p : Nat), Inv s → p < 20 → workOpen s (gpBlk p) = true → gpEntryCount (gpBody s p) = 1 →
    let e := gpEntry (gpBody s p) 0
    let n := Assoc.getD 0 0 (gp s p).released
    posCc s e.slot e.cc ≤ s.now → min e.count (e.rate * (s.now - posCc s e.slot e.cc + 1)) = n + 1 →
    (∀ r ∈ (gp s p).rx, r.frame ≠ s.ft.frame ∨ r.flit.key ≠ e.key ∨ posCc s e.slot e.cc + n / max 1 e.rate < r.at_) →
    ∃ t, exec (.portRelease p) s = .next t ∧ t.flights = s.flights ∧ (errSummary t (gpBlk p)).testBit Err.GPORT_LATE = true
      ∧ (running s = true → ∃ m ∈ t.chord.msgs, ∃ f, m.kind = .fault (gpBlk p) 0x02 f s.now)) ∧
  (∀ (s : State) (p : Nat), p < 20 → doneOpen s (gpBlk p) = true → (sectionOf s 8 p).isSome = true → (gp s p).tx = [] →
    (∀ i, i < gpEntryCount (gpBody s p) → (gpEntry (gpBody s p) i).count ≤ Assoc.getD 0 i (gp s p).released) →
    ∃ t, exec (.portDone p) s = .next t ∧ onlyPort p s t ∧ (gp t p).done = true) ∧
  (∀ (s : State) (p : Nat) (b : BitVec 128), p < 20 → gpLive s p = true → 5 ≤ (gp s p).tstate → fieldOf b.toNat 127 120 = 0x81 → s.ft.halted = false →
    ∃ t m, exec (.haltBlock p b) s = .next t ∧ t.chord.msgs = s.chord.msgs ++ [m]
      ∧ m.kind = .peerHalt p (fieldOf b.toNat 47 40) (fieldOf b.toNat 111 96) (min 255 (fieldOf b.toNat 119 112 + 1)) (fieldOf b.toNat 95 48)
      ∧ m.node = 32 ∧ m.lane = 0 ∧ t = { s with ft := t.ft, chord := t.chord, gports := t.gports })

/-- R448, R451, R453, R454, R455, R457: training goes from SEARCH on: the peer found, the mask formed and sent, both masks known, equal widths agreed, lanes qualified, the delay
probed, and the port is ACTIVE; unequal widths are counted and start another round of MASK, the fourth round and a width of 0 leave the port DOWN; a step that passes its limit goes
back to SEARCH; RETRAIN, sent or received, starts from SEARCH.
R77, R446, R450, R456, R457: in the first cc of its calibration window an ACTIVE port sends a delay probe, in the next free cc when this one is held; once in each slot of the window it takes
its lanes' eyes; a lane set that is to change changes at a code-group boundary from cc 40 of a boundary slot; a SWAP received gives the receive side the new lane set from the next group. -/
def Obligations.GarletTraining : Prop :=
  ((∀ (s : State) (p : Nat), p < 20 → gpLive s p = true → (gp s p).tstate = 1 →
      ∃ t, exec (.garletTraining p .peerFound) s = .next t ∧ onlyPortGen p s t ∧ gp t p = { (gp s p) with tstate := 2, trainAt := s.now, preset := presetNow s p }) ∧
    (∀ (s : State) (p m : Nat), p < 20 → gpLive s p = true → (gp s p).tstate = 2 → gpOverdue s p = false → (gp s p).peerPort = 0x1F →
      let own := maskWithout (m % 512) (knownBad s (gpBlk p) 8)
      ∃ t, exec (.garletTraining p (.equalised m)) s = .next t ∧ onlyPortGen p s t ∧ (gp t p).tstate = 3 ∧ (gp t p).ownMask = own
        ∧ (gp t p).ctrl = (gp s p).ctrl ++ [linkBlock s p 1 own 0]) ∧
    (∀ (s : State) (p : Nat) (e : GarletStep), p < 20 → gpLive s p = true → gpOverdue s p = true →
      ∃ t, exec (.garletTraining p e) s = .next t ∧ (gp t p).tstate = 1 ∧ (gp t p).width = 0 ∧ (gp t p).trainAt = s.now ∧ t.mem = s.mem) ∧
    (∀ (s : State) (p : Nat) (b : BitVec 128), p < 20 → gpLive s p = true → (gp s p).tstate = 3 → gpOverdue s p = false → linkOp b 1 = true →
      ∃ t, exec (.mask p b) s = .next t ∧ onlyPortGen p s t ∧ (gp t p).tstate = 4 ∧ (gp t p).peerMask = fieldOf b.toNat 111 103
        ∧ (gp t p).peerPort = fieldOf b.toNat 100 96 ∧ (gp t p).peerTag = fieldOf b.toNat 95 64
        ∧ (gp t p).ctrl = (gp s p).ctrl ++ [linkBlock s p 2 0 (maskWidth ((gp s p).ownMask &&& fieldOf b.toNat 111 103))]) ∧
    (∀ (s : State) (p : Nat) (b : BitVec 128), p < 20 → gpLive s p = true → (gp s p).tstate = 4 → gpOverdue s p = false → linkOp b 2 = true →
      let m := gpMask (gp s p)
      (fieldOf b.toNat 102 101 = maskWidth m → maskWidth m ≠ 0 →
        ∃ t, exec (.width p b) s = .next t ∧ onlyPortGen p s t ∧ (gp t p).tstate = 5 ∧ (gp t p).width = maskWidth m ∧ (gp t p).lanes = maskInUse m
          ∧ (gp t p).rxLanes = maskInUse m ∧ (gp t p).rxWidth = maskWidth m ∧ (gp t p).rxAt = s.now) ∧
      (fieldOf b.toNat 102 101 = maskWidth m → maskWidth m = 0 → Inv s →
        ∃ t, exec (.width p b) s = .next t ∧ (gp t p).tstate = 0 ∧ (gp t p).width = 0 ∧ (errSummary t (gpBlk p)).testBit Err.GPORT_DOWN = true) ∧
      (fieldOf b.toNat 102 101 ≠ maskWidth m → Inv s →
        ∃ t, exec (.width p b) s = .next t ∧ (gp t p).width = 0 ∧ (errSummary t (gpBlk p)).testBit Err.GPORT_WIDTH_DISAGREE = true
          ∧ regField t (gpBlk p) Off.GPORT_TRAIN_COUNT 15 0 = min 0xFFFF (regField s (gpBlk p) Off.GPORT_TRAIN_COUNT 15 0 + 1)
          ∧ ((gp s p).rounds < 3 → (gp t p).tstate = 3 ∧ (gp t p).rounds = (gp s p).rounds + 1)
          ∧ (3 ≤ (gp s p).rounds → (gp t p).tstate = 0))) ∧
    (∀ (s : State) (p : Nat) (symErrs : List Nat), p < 20 → gpLive s p = true → (gp s p).tstate = 5 → gpOverdue s p = false →
      ∃ t, exec (.qualifyEnd p [] false symErrs) s = .next t ∧ (gp t p).tstate = 6 ∧ (gp t p).trainAt = s.now
        ∧ t = { s with gports := t.gports, regs := t.regs, outs := t.outs, shape := t.shape } ∧ (∀ q, q ≠ p → gp t q = gp s q)
        ∧ (ctrlHeld s p = false → (gp t p).probeAt = some s.now ∧ (gp t p).ctrlAt = s.now + 1 ∧ t.outs = s.outs ++ [.garletCtrl p s.now probeBlock])
        ∧ (ctrlHeld s p = true → (gp t p).probeWait = true ∧ t.outs = s.outs)) ∧
    (∀ (s : State) (p : Nat), p < 20 → gpLive s p = true → (gp s p).tstate = 6 → gpOverdue s p = false →
      ∃ t, exec (.garletTraining p .probed) s = .next t ∧ onlyPortGen p s t
        ∧ gp t p = { (gp s p) with tstate := 7, rounds := 0, groupAt := s.now, connMask := gpMask (gp s p) }) ∧
    (∀ (s : State) (p : Nat), Inv s → p < 20 → gpLive s p = true →
      ∃ t, exec (.gportRetrainCmd p) s = .next t ∧ (gp t p).tstate = 1 ∧ (gp t p).width = 0 ∧ t.mem = s.mem
        ∧ regField t (gpBlk p) Off.GPORT_TRAIN_COUNT 31 16 = min 0xFFFF (regField s (gpBlk p) Off.GPORT_TRAIN_COUNT 31 16 + 1)
        ∧ (gp t p).ctrl = (if 3 ≤ (gp s p).tstate then [linkBlock s p 4 0 0] else []) ∧ t.outs = s.outs) ∧
    (∀ (s : State) (p : Nat) (b : BitVec 128), p < 20 → gpLive s p = true → 3 ≤ (gp s p).tstate → linkOp b 4 = true →
      ∃ t, exec (.retrain p b) s = .next t ∧ (gp t p).tstate = 1 ∧ (gp t p).width = 0 ∧ t.mem = s.mem ∧ t.outs = s.outs) ∧
    (∀ (s : State) (p : Nat), Inv s → p < 20 → gpLive s p = true → 2 ≤ (gp s p).tstate →
      ∃ t, exec (.peerStreamStop p) s = .next t ∧ (gp t p).tstate = 1 ∧ (gp t p).width = 0 ∧ t.mem = s.mem
        ∧ (errSummary t (gpBlk p)).testBit Err.GPORT_DOWN = true)) ∧
  ((∀ (s : State) (p : Nat) (eyes : List Nat), Inv s → p < 20 → gpLive s p = true → (gp s p).tstate = 7 → calWindow s p = true → ccNow s < 40 →
      (gp s p).calAt ≤ s.now - ccNow s →
      ∃ t, exec (.calGarlet p eyes []) s = .next t ∧ (gp t p).calAt = s.now + 1 ∧ (gp t p).tstate = 7 ∧ (gp t p).lanes = (gp s p).lanes
        ∧ (∀ k, k < 9 → regField t (gpBlk p) (laneReg k) 31 24 = nth eyes k % 256)
        ∧ t = { s with gports := t.gports, regs := t.regs, shape := t.shape } ∧ (∀ q, q ≠ p → gp t q = gp s q)) ∧
    (∀ (s : State) (p : Nat), (gp s p).tstate = 7 → calOpens s p = true → swapDue s (gp s p) = false →
      let t := gpControlCc s p
      t = { s with gports := t.gports, outs := t.outs } ∧ (∀ q, q ≠ p → gp t q = gp s q)
        ∧ (ctrlHeld s p = false → (gp t p).probeAt = some s.now ∧ (gp t p).ctrlAt = s.now + 1 ∧ t.outs = s.outs ++ [.garletCtrl p s.now probeBlock])
        ∧ (ctrlHeld s p = true → (gp t p).probeWait = true ∧ t.outs = s.outs)) ∧
    (∀ (s : State) (p lanes w at_ : Nat), p < 20 → gpLive s p = true → (gp s p).tstate = 7 → (gp s p).swapTo = some (lanes, w, at_) → w ≠ 0 →
      at_ + 128 ≤ s.ft.tickAt → s.ft.tickAt + 40 ≤ s.now → (s.now - (gp s p).groupAt) % groupLen (gp s p).width = 0 →
      ∃ t, exec (.laneSwap p) s = .next t ∧ t.mem = s.mem ∧ (∀ q, q ≠ p → gp t q = gp s q)
        ∧ gp t p = { (gp s p) with lanes := lanes, width := w, swapTo := none, swapSent := false, connMask := gpMask (gp s p), groupAt := s.now }
        ∧ (w = (gp s p).width → onlyPort p s t)) ∧
    (∀ (s : State) (p : Nat) (b : BitVec 128), p < 20 → gpLive s p = true → (gp s p).tstate = 7 → linkOp b 3 = true →
      let l := groupLen (gp s p).rxWidth
      ∃ t, exec (.swap p b) s = .next t ∧ onlyPort p s t ∧ (gp t p).rxLanes = (gp s p).rxLanes ∧ (gp t p).lanes = (gp s p).lanes
        ∧ (gp t p).rxTo = some (maskInUse (gpMask (gp s p)), maskWidth (gpMask (gp s p)), (gp s p).rxAt + l * ((s.now - (gp s p).rxAt) / l + 1))) ∧
    (∀ (s : State) (p lanes w at_ : Nat), (gp s p).rxTo = some (lanes, w, at_) →
      (s.now + 1 < at_ → rxSettle s p = s) ∧
      (at_ ≤ s.now + 1 → onlyPort p s (rxSettle s p) ∧ (gp (rxSettle s p) p).rxLanes = lanes ∧ (gp (rxSettle s p) p).rxWidth = w
        ∧ (gp (rxSettle s p) p).rxTo = none ∧ (gp (rxSettle s p) p).lanes = (gp s p).lanes)))
/-! ## Zeleri link (15) and facets (02) -/

/-- A transaction of the host may be performed: the link is READY, unscheduled traffic may enter (R65, R474), and it is not one of before a
link failure, whose completion is discarded (R471). -/
def HostMay (s : State) (ttype tag : Nat) : Prop := zlUp s = true ∧ svcOpen s = true ∧ (ttype, tag) ∉ s.zl.lost

/-- The link sends one completion (R475). -/
def Completed (s t : State) (tag status data32 len : Nat) (data : List (BitVec 256)) (checks : List Word) : Prop :=
  t.outs = s.outs ++ [.zeleri ⟨9, tag % 256, len, 0, false, 0, 0, data32 % 2 ^ 32, status, 0, data, checks⟩]

/-- An access of `n` units that no unit can take leaves memory as it is, and sets ACCESS at every facet that its span reaches. -/
def OnlyTouched (s t : State) (addr n : Nat) : Prop :=
  let inSpan (p : Nat) : Prop := addr / 4096 ≤ p ∧ p ≤ (addr + 32 * n - 1) / 4096
  t.mem = s.mem ∧ ((∀ p, inSpan p → facetAt s p = none) → t = { s with zl := t.zl, outs := t.outs })
    ∧ ∀ p b, inSpan p → facetAt s p = some b → Inv s → (errSummary t b).testBit Err.ACCESS = true

/-- R10, R58, R312, R473, R475, R479, R480: MRD and MWR of a mapped span set out as one request packet for each unit, but for the units of an MWR whose check fails, which are counted and answered with
status 3; a span that is not mapped is answered with status 1, and every facet in it sees an access error; a transaction is answered, with its data and their end-to-end checks, when every unit has been. -/
def Obligations.HostMemoryTransactions : Prop :=
  (∀ (s : State) (tag len addr : Nat), zlUp s = true → svcOpen s = true → zlJob? s 1 tag addr = none → len < 256 → spanMapped s addr (len + 1) false 0 = true →
    admitBlocked s ⟨1, tag, len, 0, false, 0, addr, 0, 0, 0, [], []⟩ = false →
    ∃ t, exec (.mrd tag len addr) s = .next t ∧ t = { s with zl := t.zl, packets := t.packets, nextPacket := t.nextPacket }
      ∧ t.zl = { s.zl with jobs := s.zl.jobs ++ [⟨1, tag, addr, List.replicate (len + 1) none⟩] } ∧ t.packets.length = s.packets.length + (len + 1)
      ∧ ∀ k, k ≤ len → ∃ p ∈ t.packets, p.rtag = 256 * tag + k ∧ p.isReply = false ∧ p.write = false ∧ p.len = 0 ∧ p.addr = direct (addr + 32 * k)
          ∧ p.replyRouter = 32 ∧ p.replyPort = 9 ∧ p.entered = true) ∧
  (∀ (s : State) (tag len addr : Nat), HostMay s 1 tag → zlJob? s 1 tag addr = none → len < 256 → spanMapped s addr (len + 1) false 0 = false →
    ∃ t data checks, exec (.mrd tag len addr) s = .next t ∧ Completed s t tag 1 0 len data checks ∧ data = List.replicate (len + 1) 0 ∧ OnlyTouched s t addr (len + 1)) ∧
  (∀ (s : State) (tag aop addr : Nat) (data : List (BitVec 256)) (checks : List Word), zlUp s = true → svcOpen s = true → zlJob? s 2 tag addr = none →
    data ≠ [] → data.length ≤ 256 → spanMapped s addr data.length true (aop % 16) = true →
    admitBlocked s ⟨2, tag, data.length - 1, aop % 16, false, 0, addr, 0, 0, 0, data, checks⟩ = false →
    let holds (k : Nat) : Bool := checks.getD k 0 == e2e (leBytes 32 (data.getD k 0).toNat) (addr + 32 * k)
    let failed := ((List.range data.length).filter (fun k => !holds k)).length
    ∃ t, exec (.mwr tag aop addr data checks) s = .next t ∧ t.mem = s.mem
      ∧ t.zl = { s.zl with jobs := s.zl.jobs ++ [⟨2, tag, addr, (List.range data.length).map (fun k => if holds k then none else some (3, []))⟩] }
      ∧ t.packets.length + failed = s.packets.length + data.length
      ∧ (∀ k, k < data.length → holds k = true → ∃ p ∈ t.packets, p.rtag = 256 * tag + k ∧ p.isReply = false ∧ p.write = true ∧ p.aop = aop % 16 ∧ p.len = 0
          ∧ p.data = leBytes 32 (data.getD k 0).toNat ∧ p.addr = (if aop % 16 = 0 then direct (addr + 32 * k) else addr + 32 * k)
          ∧ p.replyRouter = 32 ∧ p.replyPort = 9 ∧ p.entered = true)
      ∧ (failed = 0 → t = { s with zl := t.zl, packets := t.packets, nextPacket := t.nextPacket })
      ∧ (0 < failed → Inv s → getReg t zlBlk Off.ZLINK_E2E_FAIL = min (2 ^ 32 - 1) (getReg s zlBlk Off.ZLINK_E2E_FAIL + failed)
          ∧ (errSummary t zlBlk).testBit Err.ZLINK_E2E_FAIL = true)) ∧
  (∀ (s : State) (tag aop addr : Nat) (data : List (BitVec 256)) (checks : List Word), HostMay s 2 tag → zlJob? s 2 tag addr = none →
    data = [] ∨ 256 < data.length ∨ spanMapped s addr data.length true (aop % 16) = false →
    ∃ t, exec (.mwr tag aop addr data checks) s = .next t ∧ Completed s t tag 1 0 0 [] [] ∧ OnlyTouched s t addr (max 1 data.length)) ∧
  (∀ (s : State) (tag len addr : Nat) (j : ZlJob), zlUp s = true → zlJob? s 1 tag addr = some j → (1, tag) ∉ s.zl.lost → jobDone j = true →
    (∀ x ∈ jobUnits j, x.1 = 0) →
    let u := jobUnits j
    ∃ t, exec (.mrd tag len addr) s = .next t ∧ t = { s with zl := t.zl, outs := t.outs } ∧ t.zl.jobs = s.zl.jobs.erase j
      ∧ Completed s t tag 0 0 (u.length - 1) (u.map (fun x => unitBits (fit x.2 32))) (e2eRun (u.map (fun x => (fit x.2 32, false))) (fun i => addr + 32 * i))) ∧
  (∀ (s : State) (tag aop addr : Nat) (data : List (BitVec 256)) (checks : List Word) (j : ZlJob), zlUp s = true → zlJob? s 2 tag addr = some j →
    (2, tag) ∉ s.zl.lost → jobDone j = true →
    let st := (jobUnits j).map Prod.fst
    1 ∉ st → 2 ∉ st →
    ∃ t, exec (.mwr tag aop addr data checks) s = .next t ∧ t = { s with zl := t.zl, outs := t.outs } ∧ t.zl.jobs = s.zl.jobs.erase j
      ∧ (3 ∉ st → Completed s t tag 0 0 0 [] []) ∧ (3 ∈ st → Completed s t tag 3 (st.idxOf 3) 0 [] [])) ∧
  (∀ (s : State) (j : ZlJob), zlUp s = true → s.zl.jobs = [j] → jobAdmitted s j = false → jobDone j = true → j.ttype = 2 → (2, j.tag) ∉ s.zl.lost →
    (∀ x ∈ jobUnits j, x.1 = 0) →
    Completed s (zlJobs s) j.tag 0 0 0 [] [] ∧ (zlJobs s).zl.jobs = [] ∧ zlJobs s = { s with zl := (zlJobs s).zl, outs := (zlJobs s).outs })

/-- R8, R47, R52, R54, R55, R57, R58, R106, R346, R347, R359, R473: RRD and RWR of a facet set out as SERVICE packets of the link, a CONTROL.FENCE with a FENCE message before it; one that has come to its
facet's node is answered from there, held for a SERVICE slot: with a block's TYPE and INSTANCE, its SCRATCH, FRAME_LO with FRAME_HI latched, or once SCRATCH is stored; the answer that has come back completes
the transaction; a processor's write stores SCRATCH unless a later requester has written it in this cc, and clears the bits of ERR_SUMMARY it names but those that the device set in this cc; a misaligned
access sets the facet's ACCESS error and is answered with status 1, and so is one where no facet is; LOCK set stays set.
R49, R51, R55: CONTROL.RESET puts an M-core and its registers back to reset, and does nothing while LOCK is set; a write of ENABLE acts at once on a block that does not run the program, and waits for
the boundary slot on one that does. -/
def Obligations.FacetRegisters : Prop :=
  let Answers (s t : State) (who : Requester) (addr status : Nat) : Prop :=
    if who = .zeleri then t.chord = s.chord else ∃ m ∈ t.chord.msgs, m.kind = .answer who true 0 addr status 0
  let Sent (s t : State) (b n : Nat) (k : ChordKind) : Prop :=
    t = { s with chord := t.chord } ∧ ∃ l, t.chord.msgs = s.chord.msgs ++ l ∧ l.length = n ∧ ∀ m ∈ l, m.kind = k ∧ m.src = 32 ∧ m.node = (chordUnit b).1 ∧ m.lane = 2
  let Reply (t : State) (write : Bool) (tag addr status v : Nat) : Prop :=
    ∃ m ∈ t.chord.msgs, m.kind = .answer .zeleri write tag addr status v ∧ m.node = 32 ∧ m.held = true
  let Here (s : State) (write : Bool) (tag addr b : Nat) : Prop :=
    hubUp s = true ∧ (∃ m, accessMsg s write tag addr = some m ∧ (landedMsg s m.id).isSome = true) ∧ facetAt s (addr / 4096) = some b ∧ b < blockCount
  ((∀ (s : State) (tag addr b : Nat) (data : Word), zlUp s = true → svcOpen s = true → facetAt s (addr / 4096) = some b →
      (accessMsg s false tag addr = none → admitBlocked s ⟨3, tag, 0, 0, false, 0, addr, 0, 0, 0, [], []⟩ = false →
        ∃ t, exec (.rrd tag addr) s = .next t ∧ Sent s t b 2 (.access .zeleri false tag addr 0)) ∧
      (accessMsg s true tag addr = none → admitBlocked s ⟨4, tag, 0, 0, false, 0, addr, data.toNat, 0, 0, [], []⟩ = false →
        let fences := addr % 4096 = Off.CONTROL ∧ bitOf data.toNat 1 = true ∧ canFence (typeOf b) = true
        (¬ fences → ∃ t, exec (.rwr tag addr data) s = .next t ∧ Sent s t b 3 (.access .zeleri true tag addr data.toNat)) ∧
        (fences → ∃ t m l, exec (.rwr tag addr data) s = .next t ∧ t = { s with chord := t.chord } ∧ t.chord.msgs = s.chord.msgs ++ m :: l
          ∧ m.kind = .fence b ∧ m.lane = 0 ∧ m.node = (chordUnit b).1 ∧ l.length = 3 ∧ ∀ x ∈ l, x.kind = .access .zeleri true tag addr data.toNat))) ∧
    (∀ (s : State) (tag addr b : Nat), Here s false tag addr b →
      (addr % 4096 = 0 → ∃ t, exec (.rrd tag addr) s = .next t ∧ Reply t false tag addr 0 (typeOf b * 65536 + instOf b) ∧ t = { s with zl := t.zl, chord := t.chord }) ∧
      (addr % 4096 = Off.SCRATCH → (∀ a ∈ writesAt s b Off.SCRATCH, a.rank ≤ 2) →
        ∃ t, exec (.rrd tag addr) s = .next t ∧ Reply t false tag addr 0 (getReg s b Off.SCRATCH % 2 ^ 32) ∧ t = { s with zl := t.zl, chord := t.chord }) ∧
      (addr % 4096 = Off.FTIMER_FRAME_LO → b = blk Ty.FTIMER 0 →
        ∃ t, exec (.rrd tag addr) s = .next t ∧ Reply t false tag addr 0 (s.ft.frame % 2 ^ 32) ∧ t.ft = { s.ft with latchHi := s.ft.frame / 2 ^ 32 }) ∧
      (addr % 4 ≠ 0 → Inv s →
        ∃ t, exec (.rrd tag addr) s = .next t ∧ Reply t false tag addr 1 0 ∧ (errSummary t b).testBit Err.ACCESS = true ∧ t.mem = s.mem)) ∧
    (∀ (s : State) (tag addr b : Nat) (data : Word), Inv s → Here s true tag addr b →
      (addr % 4096 = Off.SCRATCH → (∀ a ∈ writesAt s b Off.SCRATCH, a.rank ≤ 2) →
        ∃ t, exec (.rwr tag addr data) s = .next t ∧ Reply t true tag addr 0 0 ∧ getReg t b Off.SCRATCH = data.toNat
          ∧ t = { s with regs := t.regs, regCc := t.regCc, zl := t.zl, chord := t.chord }
          ∧ ∀ b' o, o < 4096 → (b', o) ≠ (b, Off.SCRATCH) → getReg t b' o = getReg s b' o) ∧
      (addr % 4 ≠ 0 → ∃ t, exec (.rwr tag addr data) s = .next t ∧ Reply t true tag addr 1 0 ∧ (errSummary t b).testBit Err.ACCESS = true ∧ t.mem = s.mem)) ∧
    (∀ (s : State) (m : ChordMsg) (write : Bool) (tag addr st v : Nat), zlUp s = true → m.kind = .answer .zeleri write tag addr st v →
      ((if write then 4 else 3), tag) ∉ s.zl.lost →
      Completed s (answerLand s m) tag st v 0 [] [] ∧ answerLand s m = { s with zl := (answerLand s m).zl, chord := (answerLand s m).chord, outs := (answerLand s m).outs }) ∧
    (∀ (s : State) (tag addr : Nat) (data : Word), facetAt s (addr / 4096) = none →
      (HostMay s 3 tag → accessMsg s false tag addr = none → ∃ t, exec (.rrd tag addr) s = .next t ∧ t = { s with zl := t.zl, outs := t.outs } ∧
        (if addr < 0x100000 ∧ addr % 4 = 0 then Completed s t tag 0 (leNat (gnomonRead s addr 4)) 0 [] [] else Completed s t tag 1 0 0 [] [])) ∧
      (HostMay s 4 tag → accessMsg s true tag addr = none →
        ∃ t, exec (.rwr tag addr data) s = .next t ∧ Completed s t tag 1 0 0 [] [] ∧ t = { s with zl := t.zl, outs := t.outs })) ∧
    (∀ (s : State) (who : Requester) (addr b : Nat) (value : Word), Inv s → hubUp s = true → facetAt s (addr / 4096) = some b → b < blockCount →
      (addr % 4096 = Off.SCRATCH → (∀ a ∈ writesAt s b Off.SCRATCH, a.rank ≤ rankOf who) →
        ∃ t, exec (.registerWrite who addr value) s = .next t ∧ t = { s with regs := t.regs, regCc := t.regCc, chord := t.chord }
          ∧ getReg t b Off.SCRATCH = value.toNat ∧ Answers s t who addr 0
          ∧ ∀ b' o, o < 4096 → (b', o) ≠ (b, Off.SCRATCH) → getReg t b' o = getReg s b' o) ∧
      (addr % 4096 = Off.ERR_SUMMARY → writesAt s b Off.ERR_SUMMARY = [] →
        ∃ t, exec (.registerWrite who addr value) s = .next t ∧ t = { s with regs := t.regs, regCc := t.regCc, chord := t.chord } ∧ Answers s t who addr 0
          ∧ ∀ i, i < 32 → (errSummary t b).testBit i =
              ((errSummary s b).testBit i && !(value.getLsbD i && (blockErrMask (typeOf b) + 15).testBit i) || (setsNow s b).testBit i)) ∧
      (addr % 4 ≠ 0 → ∃ t, exec (.registerWrite who addr value) s = .next t ∧ (errSummary t b).testBit Err.ACCESS = true ∧ t.mem = s.mem
        ∧ (who ≠ .zeleri → Answers s t who addr 1))) ∧
    (∀ (s : State) (who : Requester) (addr : Nat) (value : Word), hubUp s = true → facetAt s (addr / 4096) = none →
      ∃ t, exec (.registerWrite who addr value) s = .next t ∧ t = { s with chord := t.chord } ∧ Answers s t who addr 1) ∧
    (∀ (s : State) (b : Nat), Inv s → b < blockCount → hubUp s = true →
      ∃ t, exec (.lock b) s = .next t ∧ onlyReg b Off.LOCK 1 s t)) ∧
  ((∀ (s : State) (g : Nat), Inv s → g < 128 → hubUp s = true → bitOf (getReg s (blk Ty.MCORE g) Off.LOCK) 0 = false →
      ∃ t, exec (.controlReset (blk Ty.MCORE g)) s = .next t
        ∧ mc t g = { MCore.init with fenceAt := (mc s g).fenceAt }
        ∧ getReg t (blk Ty.MCORE g) Off.SCRATCH = 0 ∧ errSummary t (blk Ty.MCORE g) = 0 ∧ t.mem = s.mem
        ∧ (∀ b o, b ≠ blk Ty.MCORE g → o < 4096 → getReg t b o = getReg s b o) ∧ ∀ h, h ≠ g → mc t h = mc s h) ∧
    (∀ (s : State) (b : Nat), b < blockCount → hubUp s = true → bitOf (getReg s b Off.LOCK) 0 = true → exec (.controlReset b) s = .next s) ∧
    (∀ (s : State) (b : Nat) (v : Bool), Inv s → b < blockCount → hubUp s = true → canEnable (typeOf b) = true → typeOf b ≠ Ty.HMOVER →
      bitOf (getReg s b Off.CONTROL) 0 ≠ v → bitOf (getReg s b Off.LOCK) 0 = false → blockState s b = 0 →
      ∃ t, exec (.controlEnable b v) s = .next t ∧ bitOf (getReg t b Off.CONTROL) 0 = v ∧ t = { s with regs := t.regs, heldEnable := t.heldEnable }
        ∧ (Assoc.get? b s.heldEnable = none →
            enabled t b = (if running s = true ∧ runsProgram s b = true then !v else v))))

/-- R100, R101, R466, R468, R469, R470, R471, R474, R476, R483, R529, R545, R546: a group whose CRC fails is counted and discarded, and the first of an episode asks for a NAK; a group in order hands its flits
on, with the cc of their arrival, and EXPECT advances; groups that stay unacknowledged are sent again; a retry episode of 1,600 cc in either direction fails the link; up to 128 flits of those held are admitted
in a cc, with their credit, and a held transaction all of whose flits have been is admitted in its order: an MRD goes on as packets, an RRD or RWR as a SERVICE packet; training ends at READY with the lanes
that are good at both ends and were not known bad, and a step past its limit goes back; each lane of x16 carries every 16th bit of a flit, each of x8 every eighth. -/
def Obligations.ZeleriLink : Prop :=
  (∀ (s : State) (data : List (BitVec 256)) (ctrl : BitVec 256) (arr : Nat), Inv s → zlUp s = true → data.length = 16 → groupCrcOk data ctrl = false →
    budgetOver s (arr / 10) = false →
    ∃ t, exec (.zeleriGroup data ctrl arr) s = .next t ∧ t.mem = s.mem
      ∧ t.zl = { s.zl with nakSend := s.zl.nakSend || s.zl.rxEpisode == 0 || s.zl.sawReplay, sawReplay := false,
                           rxEpisode := if s.zl.rxEpisode = 0 then s.now + 1 else s.zl.rxEpisode, rxLeft := max s.zl.rxLeft 1 }
      ∧ getReg t zlBlk Off.ZLINK_CRC_ERR = min (2 ^ 32 - 1) (getReg s zlBlk Off.ZLINK_CRC_ERR + 1)
      ∧ getReg t zlBlk Off.ZLINK_EPISODES = (if s.zl.rxEpisode = 0 then min (2 ^ 32 - 1) (getReg s zlBlk Off.ZLINK_EPISODES + 1) else getReg s zlBlk Off.ZLINK_EPISODES)
      ∧ (errSummary t zlBlk).testBit Err.ZLINK_CRC_ERR = true) ∧
  (∀ (s : State) (data : List (BitVec 256)) (ctrl : BitVec 256) (arr : Nat), zlUp s = true → data.length = 16 → groupCrcOk data ctrl = true →
    budgetOver s (arr / 10) = false → s.zl.replay = [] → s.zl.replayTo = none → s.zl.partialFlits = [] → rxUnfreed s < 32768 →
    fieldOf ctrl.toNat 223 212 = s.zl.expect → fieldOf ctrl.toNat 197 182 = 1 → ctrl.toNat.testBit 199 = false → fieldOf ctrl.toNat 127 120 = 0 →
    fieldOf (data.getD 0 0).toNat 255 248 = 1 →
    ∃ t, exec (.zeleriGroup data ctrl arr) s = .next t ∧ t = { s with zl := t.zl } ∧ t.zl.expect = (s.zl.expect + 1) % 4096 ∧ t.zl.nakSend = s.zl.nakSend
      ∧ t.zl.held = s.zl.held ++ [txOf (data.getD 0 0)] ∧ t.zl.partialFlits = [] ∧ t.zl.peerCredit = fieldOf ctrl.toNat 181 166
      ∧ t.zl.rxLeft = s.zl.rxLeft - 1 ∧ t.zl.rxEpisode = (if s.zl.rxLeft ≤ 1 then 0 else s.zl.rxEpisode) ∧ t.zl.sawReplay = ctrl.toNat.testBit 198
      ∧ Assoc.get? (256 + (txOf (data.getD 0 0)).tag) t.zl.arrivals = some (arr / 10)) ∧
  (∀ (s : State) (g last : SentGroup), Inv s → zlUp s = true → s.zl.replay.getLast? = some last → g ∈ s.zl.replay → g.seq ∉ s.zl.resend → g.sentAt + 800 + 3 ≤ s.now →
    ∃ t, exec .unackResend s = .next t ∧ t = { s with zl := t.zl, regs := t.regs }
      ∧ t.zl = { s.zl with replayTo := some last.seq, resend := s.zl.replay.map SentGroup.seq,
                           txEpisode := if s.zl.txEpisode = 0 then s.now + 1 else s.zl.txEpisode }) ∧
  (∀ (s : State) (e : Nat), Inv s → zlUp s = true → e = s.zl.rxEpisode ∨ e = s.zl.txEpisode → e ≠ 0 → e - 1 + 1600 + 3 ≤ s.now →
    ∃ t, exec .linkFail s = .next t ∧ t.zl.tstate = 1 ∧ t.zl.width = 0 ∧ t.zl.replay = [] ∧ t.zl.waiting = [] ∧ t.zl.devReqs = [] ∧ t.mem = s.mem
      ∧ t.zl.held = s.zl.held ∧ (∀ x ∈ s.zl.held ++ s.zl.admitted, (x.ttype, x.tag) ∈ t.zl.lost) ∧ (∀ j ∈ t.zl.mbxJobs, j.lost = true)
      ∧ regField t zlBlk Off.ZLINK_LINK_FAILS 15 0 = min 0xFFFF (regField s zlBlk Off.ZLINK_LINK_FAILS 15 0 + 1)
      ∧ (errSummary t zlBlk).testBit Err.ZLINK_LINK_FAIL = true) ∧
  (∀ s : State, s.zl.held ≠ [] → s.zl.admitAt.1 ≠ s.now + 1 → svcOpen s = true → (∀ x, s.zl.held.head? = some x → admitBlocked s x = false) → s.zl.heldOld = 0 →
    let n := min ((s.zl.held.map heldFlits).sum) (s.zl.admitAt.2 + 128)
    admitCount s = { s with zl := { s.zl with admitAt := (s.now + 1, n), freed := (s.zl.freed + (n - s.zl.admitAt.2)) % 65536 } }) ∧
  (∀ (s : State) (x : Transaction) (rest : List Transaction) (n : Nat), hubUp s = true → svcOpen s = true → s.zl.held = x :: rest → admitBlocked s x = false →
    s.zl.admitAt = (s.now + 1, n) → heldFlits x ≤ n →
    let z := { s.zl with held := rest, heldOld := s.zl.heldOld - 1, admitAt := (s.now + 1, n - heldFlits x), admitted := s.zl.admitted ++ [x] }
    (memTransaction s x = false → x.ttype ≠ 3 → x.ttype ≠ 4 → exec .transactionAdmit s = .next { s with zl := z }) ∧
    (memTransaction s x = false → x.ttype = 3 ∨ x.ttype = 4 → ∀ b, facetAt s (x.addr / 4096) = some b →
      ∃ t m, exec .transactionAdmit s = .next t ∧ m ∈ t.chord.msgs ∧ m.kind = .access .zeleri (x.ttype == 4) x.tag x.addr x.data32
        ∧ t = { s with zl := z, chord := t.chord }) ∧
    (memTransaction s x = true → x.ttype = 1 →
      ∃ t, exec .transactionAdmit s = .next t ∧ t = { s with zl := { z with jobs := t.zl.jobs }, packets := t.packets, nextPacket := t.nextPacket }
        ∧ t.zl.jobs = s.zl.jobs ++ [⟨1, x.tag, x.addr, List.replicate (x.len + 1) none⟩] ∧ t.packets.length = s.packets.length + (x.len + 1))) ∧
  (∀ s : State, zlLive s = true → s.zl.tstate = 1 →
    exec (.zeleriTraining .peerFound) s = .next { s with zl := { s.zl with tstate := 2, trainAt := s.now, preset := presetNow s 20 } }) ∧
  (∀ (s : State) (own peer : Nat), zlLive s = true → s.zl.tstate = 3 → zlOverdue s = false →
    let m := maskWithout (own % 65536) (knownBad s zlBlk 9) &&& (peer % 65536)
    let half := m ≠ 0xFFFF ∧ (m % 256 = 0xFF ∨ m / 256 = 0xFF)
    ∃ t, exec (.zeleriTraining (.qualified own peer)) s = .next t ∧ t.mem = s.mem ∧ t.zl.lanes = m
      ∧ (∀ k, k < 16 → own.testBit k = false → k ∈ knownBad t zlBlk 9) ∧ (∀ b u, ∀ k ∈ knownBad s b u, k ∈ knownBad t b u)
      ∧ (m = 0xFFFF ∨ half → t.zl.tstate = 4 ∧ t.zl.width = (if m = 0xFFFF then 2 else 1) ∧ t.zl.expect = 1 ∧ t.zl.nextSeq = 1 ∧ t.zl.freed = 0 ∧ t.zl.readyAt = s.now
          ∧ t.zl.held = s.zl.held)
      ∧ (¬ (m = 0xFFFF ∨ half) → t.zl.tstate = 1)
      ∧ (half → Inv s → (errSummary t zlBlk).testBit Err.ZLINK_NARROW = true)
      ∧ (m = 0xFFFF → own % 65536 = 0xFFFF → t = { s with zl := t.zl })) ∧
  (∀ (s : State) (e : ZeleriStep), zlLive s = true → zlOverdue s = true → exec (.zeleriTraining e) s = .next { s with zl := { s.zl with tstate := 1 } }) ∧
  (∀ s : State, zlLive s = true →
    ∃ t, exec .zlinkRetrainCmd s = .next t ∧ t.zl.tstate = 1 ∧ t.zl.width = 0 ∧ t.zl.held = s.zl.held ∧ t.zl.devReqs = [] ∧ t.mem = s.mem) ∧
  (∀ f : BitVec 256,
    (∀ lane, lane < 16 → laneBits 2 0 lane [f] = (List.range 16).map (fun k => f.toNat.testBit (16 * k + lane))) ∧
    (∀ half lane, half < 2 → lane < 8 → laneBits 1 half (lane + 8 * half) [f] = (List.range 32).map (fun k => f.toNat.testBit (8 * k + lane))))

/-- R350, R427, R473, R475, R477, R481, R514: MBX puts a packet whose checks hold into an inbound queue behind its header and closes it, and completes with its commit, or with status 4 after a reset; MBR reads the next whole packet of an outbound queue; EVT sends a
notice; TELEM brings the inlet temperature; CPL ends a channel's HRD with its data; HALT of the host reaches the root 4 cc later. -/
def Obligations.HostServices : Prop :=
  (∀ (s : State) (tag q : Nat) (source : Word) (d : BitVec 256), HostMay s 5 tag → q < 64 → (mbx s q).fenced = false → (mbx s q).dropping = false →
    rdSeen (mbx s q) < 2048 → (mbx s q).resv < 2048 → 3 ≤ mbFree (mbx s q) → QueueClean s q →
    ∃ t, exec (.mbx tag q false source [d] [e2e (leBytes 32 d.toNat) q]) s = .next t
      ∧ t.zl.mbxJobs = s.zl.mbxJobs ++ [⟨tag, q, ((mbx s q).resv + 3) % 2048, (mbx s q).era, 0, false⟩]
      ∧ (mbx t q).resv = ((mbx s q).resv + 3) % 2048 ∧ (mbx t q).commitTo = ((mbx s q).resv + 3) % 2048 ∧ (mbx t q).commit = (mbx s q).commit
      ∧ (mbx t q).isOpen = false
      ∧ (mbx t q).entry (mbx s q).resv = leBytes 4 3 ++ leBytes 4 source.toNat ++ leBytes 4 (s.ft.frame % 2 ^ 32) ++ leBytes 4 0
      ∧ (mbx t q).entry ((mbx s q).resv + 1) = leBytes 16 d.toNat ∧ (mbx t q).entry ((mbx s q).resv + 2) = leBytes 16 (d.toNat / 2 ^ 128)
      ∧ t = { s with mboxes := t.mboxes, synd := t.synd, writeBacks := t.writeBacks, zl := t.zl } ∧ ∀ h, h ≠ q → mbx t h = mbx s h) ∧
  (∀ (s : State) (j : MbxJob),
    let x := mbx s j.queue
    (x.era = j.era → x.commit ≠ j.goal → mbxDone s j = s) ∧
    (x.era ≠ j.era ∨ x.commit = j.goal → zlUp s = true → j.lost = false →
      let t := mbxDone s j
      Completed s t j.tag (if x.era = j.era then j.status else 4) 0 0 [] [] ∧ t.zl.mbxJobs = s.zl.mbxJobs.erase j ∧ t = { s with zl := t.zl, outs := t.outs })) ∧
  (∀ (s : State) (tag len q l : Nat), HostMay s 6 tag → 64 ≤ q → q < 128 → len < 256 → (mbx s q).fenced = false → staleOver s q (zlArrival s 6 tag) = false →
    QueueClean s q → (mbWhole s q).2.1 = some l → 0 < l → l ≤ 2 * (len + 1) →
    ∃ t data checks, exec (.mbr tag len q) s = .next t ∧ Completed s t tag 0 0 len data checks ∧ data.length = len + 1
      ∧ (∀ i, 2 * i + 1 < l → data[i]? = some (BitVec.ofNat 256 (leNat ((mbx s q).entry ((mbx s q).rd + 2 * i) ++ (mbx s q).entry ((mbx s q).rd + 2 * i + 1)))))
      ∧ (mbx t q).rd = ((mbx s q).rd + l) % 2048 ∧ (mbx t q).commit = (mbx s q).commit
      ∧ t = { s with mboxes := t.mboxes, zl := t.zl, outs := t.outs } ∧ ∀ h, h ≠ q → mbx t h = mbx s h) ∧
  (∀ (s : State) (tag cls : Nat) (data : Word), HostMay s 7 tag → eventTarget (fieldOf data.toNat 15 0) = true → blockState s (fieldOf data.toNat 15 0) ≠ 3 →
    ∃ t m, exec (.evt tag cls data) s = .next t ∧ Completed s t tag 0 0 0 [] [] ∧ t.chord.msgs = s.chord.msgs ++ [m]
      ∧ m.kind = .notice (fieldOf data.toNat 15 0) (fieldOf data.toNat 20 16) (cls % 2) ∧ t = { s with zl := t.zl, outs := t.outs, chord := t.chord }) ∧
  (∀ (s : State) (value : Word), zlUp s = true → svcOpen s = true →
    let tag := ((s.zl.admitted.find? (fun x => x.ttype == 8 && x.addr == 1)).map Transaction.tag).getD 0
    ∃ t, exec (.telem 1 value) s = .next t ∧ t.th.inlet = signedOf 16 value.toNat ∧ t.th.inletAt = zlArrival s 8 tag + 1 ∧ t.th.inletStale = false ∧ t.outs = s.outs
      ∧ t.mem = s.mem) ∧
  (∀ (s : State) (tag c : Nat) (d : BitVec 256) (r : HReq), HostMay s 9 tag → c < 16 → s.zl.devReqs.find? (fun r => r.1 == tag) = some (tag, tHRD, c) →
    (hmv s c).reqs = [r] → r.host = true → r.key = tag → r.dir = 0 → zlArrival s 9 tag < r.deadline + 3 →
    ∃ t, exec (.cpl tag 0 [d] [e2e (leBytes 32 d.toNat) r.addr]) s = .next t ∧ (hmv t c).reqs = []
      ∧ (hmv t c).walk.hold = (hmv s c).walk.hold ++ partBytes r.parts (leBytes 32 d.toNat) ∧ (∀ x ∈ t.zl.devReqs, x.1 ≠ tag)
      ∧ t = { s with zl := t.zl, hmovers := t.hmovers }) ∧
  (∀ (s : State) (b : BitVec 128), Inv s → zlUp s = true → fieldOf b.toNat 127 120 = 0x81 → s.ft.halted = false → s.chord.halt = none →
    bitOf (getReg s (blk Ty.FTIMER 0) Off.FTIMER_FAULT_INFO) 31 = false →
    ∃ t, exec (.hostHalt b) s = .next t ∧ t.chord.halt = some (fieldOf b.toNat 47 40, s.now + 4, false) ∧ t.ft.pstate = s.ft.pstate
      ∧ getReg t (blk Ty.FTIMER 0) Off.FTIMER_FAULT_INFO = 2 ^ 31 + fieldOf b.toNat 47 40 * 2 ^ 16 + domainId s % 65536 ∧ t.mem = s.mem)
/-! ## Sensors, power and the cold plate (16) -/

/-- No column has a row step, a transfer on its way or a request begun that must still finish. -/
def ColumnsIdle (s : State) : Prop := ∀ x ∈ s.cols, x.2.steps = [] ∧ x.2.fly = [] ∧ ∀ r ∈ x.2.queue, reqBegun r = false

/-- Every column as retention hold has it: all banks precharged, and nothing left to do (R500). -/
def ColumnsHeld (s : State) : Prop :=
  ∀ c, (∀ p, (bankAt (col s c) p).openRow = none) ∧ (col s c).queue = [] ∧ (col s c).window = none ∧ (col s c).steps = [] ∧ (col s c).fly = []

/-- R500, R503, R505, R511, R514, R515, R517: a read round takes every sensor's value with its factory and its user offset, and a value outside -20 to 150 °C makes the sensor dead; the grace time that has passed with its request
unmet is noted; once TRIP has reached every node and its clocks are gated, every column is left precharged for self-refresh; TRIP_CLEAR is accepted after 1 s below warn, and the package
comes up again, warm when DRAM was retained; telemetry that is stale, and a low flow of 1 s, are noted, and 1 s of full flow ends the latter. -/
def Obligations.ThermalEvents : Prop :=
  (∀ (s : State) (reads : List Int), sensing s = true → s.th.readAt = 0 ∨ s.th.readAt - 1 + 100000 ≤ s.now →
    ∃ t, exec (.sensorRead reads) s = .next t ∧ t.th.readAt = s.now + 1 ∧ t.mem = s.mem ∧ t.ft.frame = s.ft.frame
      ∧ ∀ i, i < 524 →
        let v := reads.getD i 0 + (Assoc.getD 0 i s.shape.offsets + Assoc.getD 0 i s.th.ucal)
        (sensor t i).value = v ∧ (sensor t i).valid = true ∧ (v < -320 ∨ 2400 < v ∨ (sensor s i).state = 2 → (sensor t i).state = 2)) ∧
  (∀ s : State, s.th.request = true → s.th.met = false → s.th.graceWon = 0 → graceTime s + 3 ≤ s.th.graceCc →
    exec .graceExpiry s = .next { s with th := { s.th with graceOut := true } }) ∧
  (∀ s : State, s.ft.tripGate = true → (∀ x ∈ s.ft.tripAt, x.2 ≤ s.now) → awake s = true ∨ s.power = .aux → ccNow s = 0 →
    ∃ t, exec .thermalTrip s = .next t ∧ t.power = s.power ∧ t.ft.gated = true ∧ t.ft.tripGate = false ∧ t.ft.tripAt = [] ∧ t.th.tripped = true ∧ t.th.fill = 0
      ∧ t.chord.trip = none ∧ t.sup.holdCause = 2 ∧ t.sup.selfRefresh = false ∧ t.sup.retained = false ∧ (ColumnsIdle s → t.mem = s.mem ∧ t.regs = s.regs)
      ∧ ColumnsHeld t) ∧
  (∀ s : State, s.power = .tripped → s.th.coolSince ≠ 0 → s.th.coolSince - 1 + 800000000 ≤ s.now →
    exec .tripClear s = .next { s with power := .aux, th := { s.th with tripped := false }, pins := { s.pins with thermLow := false }, sup := { s.sup with coreOff := true },
                                       shape := { s.shape with step := 1, warm := s.sup.retained } }) ∧
  (∀ s : State, Inv s → s.th.inletAt ≠ 0 → s.th.inletStale = false → s.th.inletAt - 1 + 800000000 + 3 ≤ s.now →
    telemBy s (s.th.inletAt - 1 + 800000000 + 2) (fun item _ => item == 1) = false →
    ∃ t, exec .telemStale s = .next t ∧ t.th.inletStale = true ∧ tIn t = 720 ∧ t.mem = s.mem
      ∧ (errSummary t (blk Ty.SENSAGG 0)).testBit Err.SENSAGG_TELEM_STALE = true) ∧
  (∀ s : State, s.th.lowFlow = false → s.th.flowLowAt ≠ 0 → s.th.flowLowAt - 1 + 800000000 + 3 ≤ s.now →
    telemBy s (s.th.flowLowAt - 1 + 800000000 + 2) (fun item v => item == 2 && !flowLow s v) = false →
    ∃ t, exec .lowFlow s = .next t ∧ t.th.lowFlow = true ∧ t.th.request = true ∧ t.mem = s.mem) ∧
  (∀ s : State, s.th.lowFlow = true → s.th.flowGoodAt ≠ 0 → s.th.flowGoodAt - 1 + 800000000 + 3 ≤ s.now →
    telemBy s (s.th.flowGoodAt - 1 + 800000000 + 2) (fun item v => item == 2 && flowLow s v) = false →
    ∃ t, exec .lowFlow s = .next t ∧ t.th.lowFlow = false ∧ t.mem = s.mem)

/-- R494, R509, R518, R519, R520, R525, R529, R530: a power window's estimate takes the place of the last one and every M-core counts afresh; a poll stores the rail's reading, and P is the mean of the last ten
sums; a minute of service is counted on the plate, whose other record is written once an hour; a fall of more than 20 °C from the extreme is a swing; a user offset is stored within its limits. -/
def Obligations.PowerAccounts : Prop :=
  (∀ s : State, awake s = true → s.th.windowAt + 800000 ≤ s.now →
    ∃ t, exec .powerWindow s = .next t ∧ t.th.e = estimate s ∧ t.th.ePrev = s.th.e ∧ t.th.windowAt = s.now ∧ (t.th.peak = true ↔ 3200000 < estimate s)
      ∧ t.th.eSeen = true ∧ t.th.eFill = fillMean s ∧ t.th.fillSum = 0 ∧ t.th.fillAt = s.now
      ∧ (∀ g, (mc t g).winWork = 0 ∧ (mc t g).winFill = 0 ∧ (mc t g).winLines = 0 ∧ (mc t g).winProd = 0 ∧ (mc t g).winGated = 0) ∧ t.mem = s.mem) ∧
  (∀ (s : State) (r : RailRead), hubUp s = true → s.sup.pollAt = 0 ∨ s.sup.pollAt - 1 + 8000000 ≤ s.now → r.rail ≤ 40 → r.failedTries < 3 →
    ∃ t, exec (.pmbusPoll [r]) s = .next t ∧ t.sup.pollAt = s.now + 1 ∧ t.mem = s.mem
      ∧ rail t r.rail = { (rail s r.rail) with mv := r.mv % 65536, deciamps := r.deciamps % 65536, status := r.status % 65536 }
      ∧ (∀ k, k ≠ r.rail → rail t k = rail s k) ∧ t.th.pHist = (((List.range 41).map (railPower t)).sum :: s.th.pHist).take 10
      ∧ t.th.p = t.th.pHist.sum / t.th.pHist.length) ∧
  (∀ (s : State) (ok : Bool), s.power = .ready ∨ s.power = .run → s.plate.minuteAt + 48000000000 ≤ s.now →
    ∃ t, exec (.plateMinute ok) s = .next t ∧ t.plate.minutes = (s.plate.minutes + 1) % 2 ^ 32 ∧ t.plate.minuteAt = s.now ∧ t.plate.swings = s.plate.swings
      ∧ t.mem = s.mem ∧ (ok = true → s.plate.present = true → 59 ≤ s.plate.sinceWrite → t.plate.slotB = (!s.plate.slotB) ∧ t.plate.seq = (s.plate.seq + 1) % 2 ^ 32)) ∧
  (∀ s : State, hubUp s = true → s.th.swingAt + 800000000 ≤ s.now → s.th.hotCount ≠ 0 → s.plate.dirUp = true →
    320 < s.plate.extreme - s.th.hotSum / s.th.hotCount → s.th.hotSum / s.th.hotCount ≤ s.plate.extreme →
    ∃ t, exec .swingJudgement s = .next t ∧ t.plate.swings = (s.plate.swings + 1) % 2 ^ 32 ∧ t.plate.dirUp = false
      ∧ t.plate.extreme = s.th.hotSum / s.th.hotCount ∧ t.th.hotCount = 0 ∧ t.th.swingAt = s.now ∧ t.mem = s.mem) ∧
  (∀ (s : State) (value : Int), Inv s → hubUp s = true → Assoc.sorted s.th.ucal = true → regField s sensagg Off.SENSAGG_UCAL_SEL 9 0 < 524 →
    -32768 ≤ value → value < 32768 →
    let i := regField s sensagg Off.SENSAGG_UCAL_SEL 9 0
    ∃ t, exec (.ucalVal value) s = .next t ∧ Assoc.getD 0 i t.th.ucal = max (-32) (min 32 value) ∧ (∀ j, j ≠ i → Assoc.getD 0 j t.th.ucal = Assoc.getD 0 j s.th.ucal)
      ∧ t.mem = s.mem ∧ (value < -32 ∨ 32 < value → (errSummary t sensagg).testBit Err.SENSAGG_UCAL_CLAMPED = true))

/-- R496, R497, R498, R499, R500, R502, R515, R537: a broken main path passes its rail to the backup, counted and noted, and its return ends that; a VDRAM rail with both paths lost empties its
quadrant's DRAM, VPP lost ends all operation, and VAUX lost puts the package in Off; a core rail lost puts a package in Ready or Run in hold, and no other, until self-refresh is reached and DRAM is
retained; a package that tripped is then Tripped. That the return of a core rail is told by MAIN_RETURN is the model's choice (log entry 79). -/
def Obligations.SupplyPaths : Prop :=
  (∀ (s : State) (r : Nat), Inv s → r ∈ backupRails → s.power ≠ .off → (rail s r).mainGood = true → (rail s r).backupGood = true →
    ∃ t, exec (.backupSwitchover r) s = .next t ∧ rail t r = { (rail s r) with mainGood := false, onBackup := true, switchedAt := s.now } ∧ t.mem = s.mem ∧ t.power = s.power
      ∧ getReg t pmbus Off.PMBUS_SWITCHES = min (2 ^ 32 - 1) (getReg s pmbus Off.PMBUS_SWITCHES + 1)
      ∧ (errSummary t pmbus).testBit Err.PMBUS_SWITCHOVER = true) ∧
  (∀ (s : State) (r : Nat), r ∈ backupRails → s.power ≠ .off → (rail s r).onBackup = true → (rail s r).switchedAt + 80000000 ≤ s.now →
    ∃ t, exec (.mainReturn r) s = .next t ∧ rail t r = { (rail s r) with mainGood := true, onBackup := false } ∧ t = { s with sup := t.sup, shape := t.shape }) ∧
  (∀ (s : State) (r : Nat), r ≤ 32 ∨ r ∈ backupRails → (rail s r).mainGood = false → (rail s r).onBackup = false →
    ∃ t, exec (.mainReturn r) s = .next t ∧ rail t r = { (rail s r) with mainGood := true, switchedAt := s.now } ∧ t = { s with sup := t.sup, shape := t.shape }) ∧
  (∀ (s : State) (q : Nat), q < 4 → s.power ≠ .off →
    ∃ t, exec (.railLost (33 + q)) s = .next t ∧ t.sup.lost = s.sup.lost ||| 2 ^ q ∧ t.sup.retained = false
      ∧ rail t (33 + q) = { (rail s (33 + q)) with mainGood := false, backupGood := false, onBackup := false, switchedAt := s.now }
      ∧ t = { s with sup := t.sup, shape := t.shape }
      ∧ ∀ i c off, placeOf (32 * i) = .dram c off → quadrantOf (c / 16) = q → contentsLost t i = true) ∧
  (∀ s : State, s.power ≠ .off →
    ∃ t, exec (.railLost 37) s = .next t ∧ t.sup.ended = true ∧ t.sup.lost = 15 ∧ t.sup.retained = false ∧ stacksUp t = false ∧ hubUp t = false
      ∧ t = { s with sup := t.sup }) ∧
  (∀ s : State, s.power ≠ .off → ∃ t, exec (.railLost 40) s = .next t ∧ t.power = .off ∧ t.mem = [] ∧ t.now = s.now ∧ t.prog = none) ∧
  (∀ (s : State) (r : Nat), Inv s → r ≤ 32 → stacksUp s = true → s.power = .ready ∨ s.power = .run →
    ∃ t, exec (.retentionEntry r) s = .next t ∧ t.power = .hold ∧ t.sup.holdCause = 1 ∧ t.sup.holdAt = s.now ∧ t.sup.selfRefresh = false ∧ t.sup.retained = false
      ∧ rail t r = { (rail s r) with mainGood := false, switchedAt := s.now } ∧ t.th.fill = 0
      ∧ (ColumnsIdle s → t.mem = s.mem) ∧ (errSummary t pmbus).testBit Err.PMBUS_RAIL_LOST = true ∧ ColumnsHeld t) ∧
  (∀ (s : State) (r : Nat), r ≤ 32 → s.power = .hold ∨ s.power = .aux →
    ∃ t, exec (.retentionEntry r) s = .next t ∧ rail t r = { (rail s r) with mainGood := false, switchedAt := s.now } ∧ t = { s with sup := t.sup }) ∧
  (∀ s : State, s.sup.holdCause ≠ 0 → s.power ≠ .off → s.sup.selfRefresh = false →
    ∃ t, exec .selfRefreshReached s = .next t ∧ t.sup.selfRefresh = true ∧ (t.sup.retained = true ↔ s.sup.lost = 0) ∧ t.sup.holdAt = s.now
      ∧ (t.sup.coreOff = true ↔ s.sup.coreOff = true ∨ 2 ≤ s.sup.holdCause)
      ∧ t = { s with sup := t.sup, power := if s.sup.holdCause = 2 then .tripped else s.power })

/-! ## Bring-up, firmware, identity, sideband (17, 19, 20) -/

/-- R31, R536, R537, R539, R541, R600, R604, R623, R624: PERST_N high with FACTORY low begins a cold bring-up, and FACTORY high leaves the package in reset; PERST_N low puts the package in Off and empties its memories; a bring-up whose
firmware boots publishes the Gnomon and, when the package is fit, reaches Ready with the frame timer at frame 0 and no program, DRAM kept when it is warm; one with a unit that has no valid image stops in recovery; a held package whose rails are good
again begins a bring-up 10 ms later. -/
def Obligations.BringUpPaths : Prop :=
  (∀ (s : State) (straps : Nat), s.power = .off → s.pins.perstHigh = false → vauxGood s = true →
    ∃ t, exec (.perstRise straps false) s = .next t ∧ t.power = .aux ∧ t.shape.step = 1 ∧ t.shape.warm = false ∧ t.pins.perstHigh = true
      ∧ t.pins.straps = straps % 4 ∧ t.sup.coreOff = true ∧ (∀ r, 32 < r → rail t r = rail s r)
      ∧ t = { s with power := t.power, shape := t.shape, pins := t.pins, sup := t.sup }) ∧
  (∀ (s : State) (straps : Nat), s.power = .off → s.pins.perstHigh = false → vauxGood s = true →
    ∃ t, exec (.perstRise straps true) s = .next t ∧ t = { s with pins := t.pins } ∧ t.pins.perstHigh = false) ∧
  (∀ (s : State) (straps : Nat) (factory : Bool), vauxGood s = false → exec (.perstRise straps factory) s = .next s) ∧
  (∀ s : State, ∃ t, exec .packageReset s = .next t ∧ t.power = .off ∧ t.mem = [] ∧ t.regs = [] ∧ t.prog = none ∧ t.now = s.now
      ∧ t.shape.fieldDefects = s.shape.fieldDefects ∧ t.shape.buildCount = s.shape.buildCount ∧ t.pins.perstHigh = false) ∧
  (∀ s : State, s.power = .hold → s.sup.selfRefresh = true → s.sup.ended = false →
    (s.sup.holdCause = 1 → ∀ r, r ≤ 32 → (rail s r).mainGood = true ∧ (rail s r).switchedAt + 8000000 ≤ s.now) →
    (s.sup.holdCause ≠ 1 → s.sup.holdAt + 8000000 ≤ s.now) →
    exec .warmBringUp s = .next { s with power := .aux, sup := { s.sup with coreOff := true }, shape := { s.shape with step := 1, warm := s.sup.retained } }) ∧
  (∀ (s : State) (i : BringUpIn), s.power = .aux → s.shape.step = 1 → s.sup.ended = false → s.ft.tripGate = false → (s.sup.holdCause = 2 → s.sup.selfRefresh = true) →
    (bootFirmware (bringUpBase s)).fw.recovery = false →
    ∃ t, exec (.bringUp i) s = .next t ∧ t.shape.published = true ∧ t.shape.step = 12 ∧ t.shape.gen = (s.shape.gen + 2) % 2 ^ 32
      ∧ t.shape.buildCount = (s.shape.buildCount + 1) % 2 ^ 32 ∧ t.ft.frame = 0 ∧ t.ft.pstate = 0 ∧ t.ft.tickAt = s.now ∧ t.prog = none
      ∧ t.power = (if t.shape.unfit then .aux else .ready) ∧ t.mem = (if s.shape.warm then dramCells s.mem else []) ∧ t.sup.selfRefresh = false) ∧
  (∀ (s : State) (i : BringUpIn), s.power = .aux → s.shape.step = 1 → s.sup.ended = false → s.ft.tripGate = false → (s.sup.holdCause = 2 → s.sup.selfRefresh = true) →
    (bootFirmware (bringUpBase s)).fw.recovery = true →
    ∃ t, exec (.bringUp i) s = .next t ∧ t.power = .aux ∧ t.shape.step = 2 ∧ t.shape.published = false ∧ t.fw.recovery = true ∧ t.mem = dramCells s.mem
      ∧ t.zl.tstate = 1)

/-- R597, R598, R599: STAGE makes the store busy with its unit; a whole, well-formed image is written to the unit's other slot; ARM is accepted for a later frame, DISARM ends
it, and both are ignored with code 6 while the controller is busy; at ACT_FRAME the staged images become trials or pending and the package goes into hold, or the activation is cancelled with code 9 while a program is loaded; what was held for flash is written. -/
def Obligations.FirmwareUpdates : Prop :=
  (∀ (s : State) (u : Nat), hubUp s = true → s.fw.busy = false → flashWritable s = true → 1 ≤ u → u ≤ 6 → (fwUnit s u).other ≠ 2 → s.fw.armed = false →
    exec (.stage u) s = .next { s with fw := { s.fw with busy := true, stageUnit := u } }) ∧
  (∀ s : State, hubUp s = true → s.fw.busy = true →
    let u := s.fw.stageUnit
    let a := pairReg s flash Off.FLASH_FL_SRC_LO Off.FLASH_FL_SRC_HI
    let n := getReg s flash Off.FLASH_FL_LEN
    let b := rawRead s a n
    storeSpan s a n true = true → spanClean s a n → headerOk (b.take 256) = true → bytesAt (b.take 256) 6 1 = u → n ≤ slotSize u → imageSize (b.take 256) = n →
    ∃ t, exec (.stageComplete false) s = .next t ∧ t = { s with fw := t.fw } ∧ t.fw.busy = false ∧ t.fw.code = 0 ∧ (fwUnit t u).other = 1
      ∧ otherSlot (fwUnit t u) = some ⟨b, false⟩ ∧ activeSlot (fwUnit t u) = activeSlot (fwUnit s u) ∧ (∀ k, k ≠ u → fwUnit t k = fwUnit s k)
      ∧ (flashWritable s = true → t.fw.indexA = indexRecord t.fw ∧ t.fw.indexB = indexRecord t.fw) ∧ (flashWritable s = false → t.fw.heldIndex = true)) ∧
  (∀ s : State, hubUp s = true → s.fw.busy = false → s.fw.armed = false →
    frameLater s.ft.frame (pairReg s flash Off.FLASH_ACT_FRAME_LO Off.FLASH_ACT_FRAME_HI) = true →
    exec .arm s = .next { s with fw := { s.fw with armed := true, code := 0 } }) ∧
  (∀ s : State, hubUp s = true → s.fw.busy = true →
    exec .arm s = .next { s with fw := { s.fw with code := 6 } } ∧ exec .disarm s = .next { s with fw := { s.fw with code := 6 } }) ∧
  (∀ s : State, hubUp s = true → s.fw.busy = false → exec .disarm s = .next { s with fw := { s.fw with armed := false, code := 0 } }) ∧
  (∀ s : State, stacksUp s = true → s.power = .ready ∨ s.power = .run → s.fw.armed = true → pos s = 0 → s.ft.frame = pairReg s flash Off.FLASH_ACT_FRAME_LO Off.FLASH_ACT_FRAME_HI →
    (s.ft.pstate = 0 → flashWritable s = true →
      ∃ t, exec .activation s = .next t ∧ t.power = .hold ∧ t.sup.holdCause = 3 ∧ t.fw.armed = false ∧ (ColumnsIdle s → t.mem = s.mem) ∧ ColumnsHeld t
        ∧ t.fw.indexA = indexRecord t.fw ∧ t.fw.indexB = indexRecord t.fw
        ∧ ∀ k, (fwUnit t k).other = (if (fwUnit s k).other = 1 then (if k ≤ 2 then 2 else 4) else (fwUnit s k).other)) ∧
    (s.ft.pstate ≠ 0 → Inv s → ∃ t, exec .activation s = .next t ∧ t.fw = { s.fw with armed := false, code := 9 } ∧ t.power = s.power
        ∧ (errSummary t flash).testBit Err.FLASH_ACT_CANCELLED = true)) ∧
  (∀ s : State, hubUp s = true → flashWritable s = true →
    ∃ t, exec .heldWrite s = .next t ∧ t = { s with shape := t.shape, fw := t.fw } ∧ t.shape.fieldDefects = s.shape.fieldDefects ++ s.shape.heldDefects
      ∧ t.shape.heldDefects = [] ∧ t.fw.heldUcal = false ∧ t.fw.heldIndex = false
      ∧ (s.fw.heldIndex = true → t.fw.indexA = indexRecord t.fw ∧ t.fw.indexB = indexRecord t.fw)
      ∧ ∀ k, (fwUnit t k).heldFloor = none ∧ (fwUnit t k).floor = max (fwUnit s k).floor ((fwUnit s k).heldFloor.getD 0))

/-- R601, R604, R605, R611: a processor's own health word, in time, makes its trial image the active one; without it the previous image runs again, with FALLBACK set; a watchdog that expires
restarts its processor; a kick starts its period anew. In recovery a STATUS request in MBOX 0 is taken and answered in MBOX 64 with the units that lack an image, a LOAD of no unit
with code 2, and a RESTART begins a bring-up. -/
def Obligations.ProcessorsAndRecovery : Prop :=
  (∀ (s : State) (p : Nat), p < 2 → procUp s p = true → (procOf s p).trial = true → s.now < (procOf s p).healthAt - 1 + 24000000000 + 3 →
    ∃ t, exec (.health (if p = 0 then .boot else .mgmt) p 0xA5C3) s = .next t ∧ (procOf t p).trial = false ∧ (procOf t p).healthy = true
      ∧ (fwUnit t (p + 1)).activeB = !(fwUnit s (p + 1)).activeB ∧ (fwUnit t (p + 1)).other = 0 ∧ t = { s with fw := t.fw }) ∧
  (∀ (s : State) (p : Nat), Inv s → p < 2 → procUp s p = true → (procOf s p).trial = true → (procOf s p).healthy = false →
    (procOf s p).healthAt - 1 + 24000000000 + 3 ≤ s.now →
    ∃ t, exec (.healthTimeout p) s = .next t ∧ (procOf t p).trial = false ∧ (procOf t p).fellBack = true ∧ (procOf t p).wdogAt = s.now + 1
      ∧ (fwUnit t (p + 1)).other = 3 ∧ (fwUnit t (p + 1)).activeB = (fwUnit s (p + 1)).activeB ∧ t.mem = s.mem
      ∧ (errSummary t (procBlk p)).testBit Err.BOOTP_FALLBACK = true) ∧
  (∀ (s : State) (p : Nat), Inv s → p < 2 → procUp s p = true → (procOf s p).trial = false → (procOf s p).wdogAt - 1 + wdogPeriod s p + 3 ≤ s.now →
    ∃ t, exec (.watchdogExpiry p) s = .next t ∧ (procOf t p).wdogAt = s.now + 1 ∧ (procOf t p).healthy = false ∧ t.mem = s.mem
      ∧ (errSummary t (procBlk p)).testBit Err.BOOTP_WDOG_EXPIRED = true ∧ (running s = false → t.chord.halt = s.chord.halt)) ∧
  (∀ (s : State) (p : Nat), Inv s → p < 2 → procUp s p = true → (procOf s p).trial = false →
    ∃ t, exec (.processorMemoryUncorr p) s = .next t ∧ (procOf t p).wdogAt = s.now + 1 ∧ t.mem = s.mem
      ∧ (errSummary t (procBlk p)).testBit Err.CTRL_UNCORR = true) ∧
  (∀ (s : State) (p : Nat), p < 2 → procUp s p = true → s.now < (procOf s p).wdogAt - 1 + wdogPeriod s p + 3 →
    ∃ t, exec (.wdogKick p) s = .next t ∧ procOf t p = { (procOf s p) with wdogAt := s.now + 1 } ∧ t = { s with fw := t.fw }) ∧
  (∀ (s : State) (p : Nat), p < 2 → (procOf s p).wdogAt - 1 + wdogPeriod s p + 3 ≤ s.now → exec (.wdogKick p) s = .next s) ∧
  (∀ (s : State) (e : List Byte) (n : Nat), recoveryRequest s = some e → (mbWhole s 0).2.1 = some n → 2 ≤ n → n ≤ 1024 → (mbx s 64).dropping = false →
    rdSeen (mbx s 64) < 2048 → (mbx s 64).resv < 2048 → 2 ≤ mbFree (mbx s 64) → QueueClean s 0 → QueueClean s 64 →
    let Answered (t : State) (op code : Nat) : Prop :=
      (mbx t 0).rd = ((mbx s 0).rd + n) % 2048 ∧ (mbx t 64).commitTo = ((mbx s 64).resv + 2) % 2048 ∧ (mbx t 64).isOpen = false
        ∧ (mbx t 64).entry ((mbx s 64).resv + 1) = leBytes 1 op ++ leBytes 1 code ++ leBytes 2 0 ++ leBytes 4 (missingUnits s) ++ List.replicate 8 0
        ∧ t.mem = s.mem
    (bytesAt e 0 1 = 1 → ∃ t, exec .recoveryStatus s = .next t ∧ Answered t 1 0 ∧ t.fw = s.fw) ∧
    (bytesAt e 0 1 = 2 → bytesAt e 1 1 = 0 → ∃ t, exec (.recoveryLoad false) s = .next t ∧ Answered t 2 2 ∧ t.fw = s.fw) ∧
    (bytesAt e 0 1 = 3 → ∃ t, exec .recoveryRestart s = .next t ∧ Answered t 3 0 ∧ t.fw.recovery = false ∧ t.shape.step = 1 ∧ t.shape.warm = s.sup.retained) ∧
    (∀ (a len : Nat), bytesAt e 0 1 = 2 → 1 ≤ bytesAt e 1 1 → bytesAt e 1 1 ≤ 6 → bytesAt e 8 8 = a → storeSpan s a 256 false = true → spanClean s a 256 →
      imageSize (rawRead s a 256) = len → storeSpan s a len false = true → spanClean s a len → flashWritable s = true →
      let c := imageCheck s (bytesAt e 1 1) (rawRead s a len)
      ∃ t, exec (.recoveryLoad false) s = .next t ∧ (c = 0 → (fwUnit t (bytesAt e 1 1)).missing = false) ∧ (c ≠ 0 → Answered t 2 c ∧ t.fw = s.fw)
        ∧ (mbx t 0).rd = ((mbx s 0).rd + n) % 2048 ∧ (mbx t 64).commitTo = ((mbx s 64).resv + 2) % 2048 ∧ t.mem = s.mem))

/-- R607, R609, R630, R632: an ATT command begins when none runs, and is ignored with code 2 while one does; its result is written to SLM scratchpad with its length, and no other byte changes; the I2C slave
takes its read offset, gives consecutive bytes of its status block, and refreshes the block; a JTAG instruction that drives pins acts only while PERST_N is low. -/
def Obligations.AttestationAndSideband : Prop :=
  (∀ s : State, hubUp s = true → s.fw.attBusy = false →
    let Begun (t : State) (cmd : Nat) : Prop :=
      t = { s with fw := t.fw } ∧ t.fw.attBusy = true ∧ t.fw.attCmd = cmd ∧ t.fw.attFrame = s.ft.frame ∧ t.fw.units = s.fw.units
    (∃ t, exec .attEvidence s = .next t ∧ Begun t 1) ∧ (∃ t, exec .attCertificates s = .next t ∧ Begun t 2) ∧ ∃ t, exec .attPublicKey s = .next t ∧ Begun t 3) ∧
  (∀ s : State, hubUp s = true → s.fw.attBusy = true → exec .attEvidence s = .next { s with fw := { s.fw with attCode := 2 } }) ∧
  (∀ s : State, Inv s → hubUp s = true → s.fw.attBusy = true → s.fw.attCmd = 3 →
    let a := pairReg s seceng Off.SECENG_ATT_ADDR_LO Off.SECENG_ATT_ADDR_HI
    a % 32 = 0 →
    (storeSpan s a 64 false = true →
      ∃ t, exec .attestationComplete s = .next t ∧ t.fw = { s.fw with attBusy := false, attCode := 0, attLen := 64 }
        ∧ rawRead t a 64 = fit attPublic 64 ∧ sameMemBut a 64 s t ∧ t.regs = s.regs) ∧
    (storeSpan s a 64 false = false →
      ∃ t, exec .attestationComplete s = .next t ∧ t.fw = { s.fw with attBusy := false, attCode := 1, attLen := 0 } ∧ t.mem = s.mem
        ∧ (errSummary t seceng).testBit Err.SECENG_ATT_FAIL = true)) ∧
  (∀ (s : State) (b : Byte), i2cUp s = true → exec (.i2cOffsetWrite b) s = .next { s with pins := { s.pins with i2cOff := b.toNat } }) ∧
  (∀ s : State, i2cUp s = true → s.pins.i2cAt = 0 ∨ s.pins.i2cAt - 1 + 8000000 ≤ s.now →
    exec .i2cBlockRefresh s = .next { s with pins := { s.pins with i2cBlock := statusBlock s, i2cAt := s.now + 1 } }) ∧
  (∀ (s : State) (n : Nat), i2cUp s = true → s.pins.i2cBlock ≠ [] →
    ∃ t, exec (.i2cRead n) s = .next t ∧ t.outs = s.outs ++ [.i2c ((List.range n).map (fun i => s.pins.i2cBlock.getD ((s.pins.i2cOff + i) % 256) 0))]
      ∧ t.pins.i2cReads = min 65535 (s.pins.i2cReads + 1) ∧ t = { s with pins := t.pins, outs := t.outs }) ∧
  (∀ (s : State) (code : Nat), ∃ t, exec (.jtagInstruction code) s = .next t ∧ t = { s with pins := t.pins }
      ∧ t.pins.jtag = (if code = 1 then 1 else if 2 ≤ code ∧ code ≤ 6 ∧ s.pins.perstHigh = false then code else 0))

/-! ## The words of the Chord network (11) -/

/-- R344, R346: the 32 bits of a first word are its fields and give them back, whatever they are; every block of the package has a node and a local unit
that R344 lists, and no two requesters of a register access share a code. -/
def Obligations.ChordWordsCarryTheirFields : Prop :=
  (∀ w : Word, (chordFields w).bits = w) ∧
  (∀ w : ChordWord, w.ty < 16 → w.node < 64 → w.unit < 64 → w.arg < 65536 → chordFields w.bits = w) ∧
  (∀ b, b < blockCount → placeListed (chordUnit b).1 (chordUnit b).2 = true ∧ (chordUnit b).1 ≤ 32) ∧
  (∀ a b : Requester, requesterCode a = requesterCode b → a = b)

/-! ## The whole machine -/

/-- R42: a command for a unit that the package does not have stops, in the families whose commands name a unit. -/
def Obligations.AbsentUnitsStop : Prop :=
  ∀ s : State, (∀ g, 128 ≤ g → exec (.nop g) s = .fault .noSuchUnit ∧ exec (.macStep g) s = .fault .noSuchUnit) ∧
    (∀ v, 32 ≤ v → exec (.vcoreNop v) s = .fault .noSuchUnit) ∧ (∀ c, 512 ≤ c → exec (.rowStepStart c) s = .fault .noSuchUnit) ∧
    (∀ p, 20 ≤ p → exec (.portDone p) s = .fault .noSuchUnit) ∧ (∀ q, 128 ≤ q → exec (.staleTimeout q) s = .fault .noSuchUnit) ∧
    (∀ b, blockCount ≤ b → exec (.lock b) s = .fault .noSuchUnit)

/-- R31, R106, R536: after power-on the package is in Off with no program, frame 0 and PSTATE 0, and every V-core and M-core is idle. -/
def Obligations.ResetState : Prop :=
  State.reset.power = .off ∧ State.reset.prog = none ∧ State.reset.ft.frame = 0 ∧ State.reset.ft.pstate = 0 ∧ State.reset.pending = [] ∧
    (∀ g, (mc State.reset g).running = false) ∧ (∀ v, (vc State.reset v).running = false) ∧ hubUp State.reset = false ∧
    (∀ b o, getReg State.reset b o = regReset b o) ∧ ∀ a, Memory.get State.reset.mem a = memDefault

/-- The invariant holds at reset. -/
def Obligations.InvAtReset : Prop := Inv State.reset

/-- Every step keeps the invariant: device memory, the stored check-bit differences and the registers stay in canonical form. -/
def Obligations.InvKept : Prop := ∀ s t : State, Inv s → step s = .next t → Inv t
end

