-- ==== Sys2Proof/Laws/Assoc.lean ====
section
/-! SUPPORT. The laws of the sparse tables that State is made of: reading after a replacement, and that a
replacement keeps the keys strictly rising. -/

namespace Sys2Proof

variable {α : Type}

/-- Another key reads as before, whatever was put. -/
@[simp] theorem Assoc.get?_put_ne (l : List (Nat × α)) (k j : Nat) (v : Option α) (h : j ≠ k) :
    Assoc.get? j (Assoc.put k v l) = Assoc.get? j l := by
  induction l with
  | nil => cases v <;> simp [Assoc.put, Assoc.get?, Ne.symm h]
  | cons p r ih =>
    obtain ⟨i, w⟩ := p
    unfold Assoc.put
    split
    · simp [Assoc.get?, ih]
    · split
      · subst i
        cases v <;> simp [Assoc.get?, Ne.symm h]
      · cases v <;> simp [Assoc.get?, Ne.symm h]

/-- The key put with a value reads as that value. -/
@[simp] theorem Assoc.get?_put_some (l : List (Nat × α)) (k : Nat) (x : α) :
    Assoc.get? k (Assoc.put k (some x) l) = some x := by
  induction l with
  | nil => simp [Assoc.put, Assoc.get?]
  | cons p r ih =>
    obtain ⟨i, w⟩ := p
    unfold Assoc.put
    split
    · simp [Assoc.get?, ih]; omega
    · split <;> simp [Assoc.get?]

theorem Assoc.getD_put_some (l : List (Nat × α)) (d : α) (k j : Nat) (x : α) :
    Assoc.getD d j (Assoc.put k (some x) l) = if j = k then x else Assoc.getD d j l := by
  unfold Assoc.getD
  split
  · subst j; simp
  · rename_i h; simp [h]

@[simp] theorem Assoc.getD_put_same (l : List (Nat × α)) (d : α) (k : Nat) (x : α) :
    Assoc.getD d k (Assoc.put k (some x) l) = x := by simp [Assoc.getD]

@[simp] theorem Assoc.getD_put_ne (l : List (Nat × α)) (d : α) (k j : Nat) (v : Option α) (h : j ≠ k) :
    Assoc.getD d j (Assoc.put k v l) = Assoc.getD d j l := by simp [Assoc.getD, h]

/-- A sorted table tail is sorted. -/
theorem Assoc.sorted_tail {p : Nat × α} {l : List (Nat × α)} (h : Assoc.sorted (p :: l) = true) : Assoc.sorted l = true := by
  cases l with
  | nil => rfl
  | cons q r => simp [Assoc.sorted] at h; exact h.2

/-- Sorted means pairwise rising. -/
theorem Assoc.sorted_iff (l : List (Nat × α)) : Assoc.sorted l = true ↔ l.Pairwise (fun x y => x.1 < y.1) := by
  induction l with
  | nil => simp [Assoc.sorted]
  | cons p r ih =>
    cases r with
    | nil => simp [Assoc.sorted]
    | cons q t =>
      obtain ⟨a, x⟩ := p
      obtain ⟨b, y⟩ := q
      simp only [Assoc.sorted, Bool.and_eq_true, decide_eq_true_eq, List.pairwise_cons, ih]
      constructor
      · rintro ⟨h1, h2, h3⟩
        refine ⟨?_, h2, h3⟩
        intro z hz
        rcases List.mem_cons.mp hz with rfl | hz
        · exact h1
        · exact Nat.lt_trans h1 (h2 z hz)
      · rintro ⟨h1, h2, h3⟩
        exact ⟨h1 (b, y) (by simp), h2, h3⟩

/-- Every entry of a table after a replacement is an old one or the new one. -/
theorem Assoc.mem_put {l : List (Nat × α)} {k : Nat} {v : Option α} {z : Nat × α} (h : z ∈ Assoc.put k v l) :
    z ∈ l ∨ ∃ x, v = some x ∧ z = (k, x) := by
  induction l with
  | nil =>
    cases v with
    | none => simp [Assoc.put] at h
    | some x => simp [Assoc.put] at h; exact .inr ⟨x, rfl, h⟩
  | cons p r ih =>
    obtain ⟨i, w⟩ := p
    unfold Assoc.put at h
    split at h
    · rcases List.mem_cons.mp h with rfl | h
      · exact .inl (by simp)
      · rcases ih h with h | h
        · exact .inl (by simp [h])
        · exact .inr h
    · split at h
      · cases v with
        | none => exact .inl (by simp at h; simp [h])
        | some x =>
          rcases List.mem_cons.mp h with rfl | h
          · exact .inr ⟨x, rfl, rfl⟩
          · exact .inl (by simp [h])
      · cases v with
        | none => exact .inl h
        | some x =>
          rcases List.mem_cons.mp h with rfl | h
          · exact .inr ⟨x, rfl, rfl⟩
          · exact .inl h

/-- A replacement keeps the keys strictly rising. -/
theorem Assoc.sorted_put {l : List (Nat × α)} (k : Nat) (v : Option α) (h : Assoc.sorted l = true) :
    Assoc.sorted (Assoc.put k v l) = true := by
  rw [Assoc.sorted_iff] at h ⊢
  induction l with
  | nil => cases v <;> simp [Assoc.put]
  | cons p r ih =>
    obtain ⟨i, w⟩ := p
    obtain ⟨h1, h2⟩ := List.pairwise_cons.mp h
    unfold Assoc.put
    split
    · rename_i hk
      refine List.pairwise_cons.mpr ⟨?_, ih h2⟩
      intro z hz
      rcases Assoc.mem_put hz with hz | ⟨x, -, rfl⟩
      · exact h1 z hz
      · exact hk
    · split
      · rename_i hk
        subst i
        cases v with
        | none => exact h2
        | some x => exact List.pairwise_cons.mpr ⟨h1, h2⟩
      · rename_i h3 h4
        cases v with
        | none => exact h
        | some x =>
          refine List.pairwise_cons.mpr ⟨?_, h⟩
          intro z hz
          rcases List.mem_cons.mp hz with rfl | hz
          · simp; omega
          · have := h1 z hz; simp at this ⊢; omega

/-- A key below every key of a table is not in it. -/
theorem Assoc.get?_none_of_lt {l : List (Nat × α)} {k : Nat} (h : ∀ z ∈ l, k < z.1) : Assoc.get? k l = none := by
  induction l with
  | nil => rfl
  | cons p r ih =>
    obtain ⟨i, w⟩ := p
    have := h (i, w) (by simp)
    simp only [Assoc.get?]
    rw [if_neg (by simp at this; omega)]
    exact ih (fun z hz => h z (by simp [hz]))

/-- A key removed from a sorted table reads as nothing. -/
theorem Assoc.get?_put_none {l : List (Nat × α)} (k : Nat) (h : Assoc.sorted l = true) :
    Assoc.get? k (Assoc.put k none l) = none := by
  rw [Assoc.sorted_iff] at h
  induction l with
  | nil => rfl
  | cons p r ih =>
    obtain ⟨i, w⟩ := p
    obtain ⟨h1, h2⟩ := List.pairwise_cons.mp h
    unfold Assoc.put
    split
    · simp only [Assoc.get?]
      rw [if_neg (by omega)]
      exact ih h2
    · split
      · subst i; exact Assoc.get?_none_of_lt (fun z hz => h1 z hz)
      · refine Assoc.get?_none_of_lt (fun z hz => ?_)
        rcases List.mem_cons.mp hz with rfl | hz
        · simp; omega
        · have := h1 z hz; simp at this; omega

/-- In a sorted table the key put reads as what was put. -/
theorem Assoc.get?_put {l : List (Nat × α)} (k : Nat) (v : Option α) (h : Assoc.sorted l = true) :
    Assoc.get? k (Assoc.put k v l) = v := by
  cases v with
  | none => exact Assoc.get?_put_none k h
  | some x => exact Assoc.get?_put_some l k x

/-- A table cut down to some of its entries is sorted. -/
theorem Assoc.sorted_filter {l : List (Nat × α)} (p : Nat × α → Bool) (h : Assoc.sorted l = true) :
    Assoc.sorted (l.filter p) = true := by
  rw [Assoc.sorted_iff] at h ⊢
  exact h.sublist List.filter_sublist

end Sys2Proof
end

