-- ==== Sys2Proof/Laws/State.lean ====
section
/-! SUPPORT. Every field of the state after each of the update operations that the units share: a field that the
operation does not touch is as before, true by unfolding. -/

namespace Sys2Proof.Machine

/-! ### setMc -/

@[simp] theorem setMc_now (s : State) (g : Nat) (f : MCore → MCore) : (setMc s g f).now = s.now := rfl
@[simp] theorem setMc_pending (s : State) (g : Nat) (f : MCore → MCore) : (setMc s g f).pending = s.pending := rfl
@[simp] theorem setMc_freeCtr (s : State) (g : Nat) (f : MCore → MCore) : (setMc s g f).freeCtr = s.freeCtr := rfl
@[simp] theorem setMc_power (s : State) (g : Nat) (f : MCore → MCore) : (setMc s g f).power = s.power := rfl
@[simp] theorem setMc_mem (s : State) (g : Nat) (f : MCore → MCore) : (setMc s g f).mem = s.mem := rfl
@[simp] theorem setMc_synd (s : State) (g : Nat) (f : MCore → MCore) : (setMc s g f).synd = s.synd := rfl
@[simp] theorem setMc_writeBacks (s : State) (g : Nat) (f : MCore → MCore) : (setMc s g f).writeBacks = s.writeBacks := rfl
@[simp] theorem setMc_ctrlWords (s : State) (g : Nat) (f : MCore → MCore) : (setMc s g f).ctrlWords = s.ctrlWords := rfl
@[simp] theorem setMc_regs (s : State) (g : Nat) (f : MCore → MCore) : (setMc s g f).regs = s.regs := rfl
@[simp] theorem setMc_regCc (s : State) (g : Nat) (f : MCore → MCore) : (setMc s g f).regCc = s.regCc := rfl
@[simp] theorem setMc_heldEnable (s : State) (g : Nat) (f : MCore → MCore) : (setMc s g f).heldEnable = s.heldEnable := rfl
@[simp] theorem setMc_ft (s : State) (g : Nat) (f : MCore → MCore) : (setMc s g f).ft = s.ft := rfl
@[simp] theorem setMc_prog (s : State) (g : Nat) (f : MCore → MCore) : (setMc s g f).prog = s.prog := rfl
@[simp] theorem setMc_mcores (s : State) (g : Nat) (f : MCore → MCore) : (setMc s g f).mcores = Assoc.put g (some (f (mc s g))) s.mcores := rfl
@[simp] theorem setMc_vcores (s : State) (g : Nat) (f : MCore → MCore) : (setMc s g f).vcores = s.vcores := rfl
@[simp] theorem setMc_cols (s : State) (g : Nat) (f : MCore → MCore) : (setMc s g f).cols = s.cols := rfl
@[simp] theorem setMc_slm (s : State) (g : Nat) (f : MCore → MCore) : (setMc s g f).slm = s.slm := rfl
@[simp] theorem setMc_routers (s : State) (g : Nat) (f : MCore → MCore) : (setMc s g f).routers = s.routers := rfl
@[simp] theorem setMc_flights (s : State) (g : Nat) (f : MCore → MCore) : (setMc s g f).flights = s.flights := rfl
@[simp] theorem setMc_packets (s : State) (g : Nat) (f : MCore → MCore) : (setMc s g f).packets = s.packets := rfl
@[simp] theorem setMc_nextPacket (s : State) (g : Nat) (f : MCore → MCore) : (setMc s g f).nextPacket = s.nextPacket := rfl
@[simp] theorem setMc_coreReqs (s : State) (g : Nat) (f : MCore → MCore) : (setMc s g f).coreReqs = s.coreReqs := rfl
@[simp] theorem setMc_d2d (s : State) (g : Nat) (f : MCore → MCore) : (setMc s g f).d2d = s.d2d := rfl
@[simp] theorem setMc_chord (s : State) (g : Nat) (f : MCore → MCore) : (setMc s g f).chord = s.chord := rfl
@[simp] theorem setMc_kv (s : State) (g : Nat) (f : MCore → MCore) : (setMc s g f).kv = s.kv := rfl
@[simp] theorem setMc_smovers (s : State) (g : Nat) (f : MCore → MCore) : (setMc s g f).smovers = s.smovers := rfl
@[simp] theorem setMc_hmovers (s : State) (g : Nat) (f : MCore → MCore) : (setMc s g f).hmovers = s.hmovers := rfl
@[simp] theorem setMc_mboxes (s : State) (g : Nat) (f : MCore → MCore) : (setMc s g f).mboxes = s.mboxes := rfl
@[simp] theorem setMc_gports (s : State) (g : Nat) (f : MCore → MCore) : (setMc s g f).gports = s.gports := rfl
@[simp] theorem setMc_zl (s : State) (g : Nat) (f : MCore → MCore) : (setMc s g f).zl = s.zl := rfl
@[simp] theorem setMc_th (s : State) (g : Nat) (f : MCore → MCore) : (setMc s g f).th = s.th := rfl
@[simp] theorem setMc_sup (s : State) (g : Nat) (f : MCore → MCore) : (setMc s g f).sup = s.sup := rfl
@[simp] theorem setMc_plate (s : State) (g : Nat) (f : MCore → MCore) : (setMc s g f).plate = s.plate := rfl
@[simp] theorem setMc_shape (s : State) (g : Nat) (f : MCore → MCore) : (setMc s g f).shape = s.shape := rfl
@[simp] theorem setMc_fw (s : State) (g : Nat) (f : MCore → MCore) : (setMc s g f).fw = s.fw := rfl
@[simp] theorem setMc_pins (s : State) (g : Nat) (f : MCore → MCore) : (setMc s g f).pins = s.pins := rfl
@[simp] theorem setMc_outs (s : State) (g : Nat) (f : MCore → MCore) : (setMc s g f).outs = s.outs := rfl

/-! ### setVc -/

@[simp] theorem setVc_now (s : State) (g : Nat) (f : VCore → VCore) : (setVc s g f).now = s.now := rfl
@[simp] theorem setVc_pending (s : State) (g : Nat) (f : VCore → VCore) : (setVc s g f).pending = s.pending := rfl
@[simp] theorem setVc_freeCtr (s : State) (g : Nat) (f : VCore → VCore) : (setVc s g f).freeCtr = s.freeCtr := rfl
@[simp] theorem setVc_power (s : State) (g : Nat) (f : VCore → VCore) : (setVc s g f).power = s.power := rfl
@[simp] theorem setVc_mem (s : State) (g : Nat) (f : VCore → VCore) : (setVc s g f).mem = s.mem := rfl
@[simp] theorem setVc_synd (s : State) (g : Nat) (f : VCore → VCore) : (setVc s g f).synd = s.synd := rfl
@[simp] theorem setVc_writeBacks (s : State) (g : Nat) (f : VCore → VCore) : (setVc s g f).writeBacks = s.writeBacks := rfl
@[simp] theorem setVc_ctrlWords (s : State) (g : Nat) (f : VCore → VCore) : (setVc s g f).ctrlWords = s.ctrlWords := rfl
@[simp] theorem setVc_regs (s : State) (g : Nat) (f : VCore → VCore) : (setVc s g f).regs = s.regs := rfl
@[simp] theorem setVc_regCc (s : State) (g : Nat) (f : VCore → VCore) : (setVc s g f).regCc = s.regCc := rfl
@[simp] theorem setVc_heldEnable (s : State) (g : Nat) (f : VCore → VCore) : (setVc s g f).heldEnable = s.heldEnable := rfl
@[simp] theorem setVc_ft (s : State) (g : Nat) (f : VCore → VCore) : (setVc s g f).ft = s.ft := rfl
@[simp] theorem setVc_prog (s : State) (g : Nat) (f : VCore → VCore) : (setVc s g f).prog = s.prog := rfl
@[simp] theorem setVc_mcores (s : State) (g : Nat) (f : VCore → VCore) : (setVc s g f).mcores = s.mcores := rfl
@[simp] theorem setVc_vcores (s : State) (g : Nat) (f : VCore → VCore) : (setVc s g f).vcores = Assoc.put g (some (f (vc s g))) s.vcores := rfl
@[simp] theorem setVc_cols (s : State) (g : Nat) (f : VCore → VCore) : (setVc s g f).cols = s.cols := rfl
@[simp] theorem setVc_slm (s : State) (g : Nat) (f : VCore → VCore) : (setVc s g f).slm = s.slm := rfl
@[simp] theorem setVc_routers (s : State) (g : Nat) (f : VCore → VCore) : (setVc s g f).routers = s.routers := rfl
@[simp] theorem setVc_flights (s : State) (g : Nat) (f : VCore → VCore) : (setVc s g f).flights = s.flights := rfl
@[simp] theorem setVc_packets (s : State) (g : Nat) (f : VCore → VCore) : (setVc s g f).packets = s.packets := rfl
@[simp] theorem setVc_nextPacket (s : State) (g : Nat) (f : VCore → VCore) : (setVc s g f).nextPacket = s.nextPacket := rfl
@[simp] theorem setVc_coreReqs (s : State) (g : Nat) (f : VCore → VCore) : (setVc s g f).coreReqs = s.coreReqs := rfl
@[simp] theorem setVc_d2d (s : State) (g : Nat) (f : VCore → VCore) : (setVc s g f).d2d = s.d2d := rfl
@[simp] theorem setVc_chord (s : State) (g : Nat) (f : VCore → VCore) : (setVc s g f).chord = s.chord := rfl
@[simp] theorem setVc_kv (s : State) (g : Nat) (f : VCore → VCore) : (setVc s g f).kv = s.kv := rfl
@[simp] theorem setVc_smovers (s : State) (g : Nat) (f : VCore → VCore) : (setVc s g f).smovers = s.smovers := rfl
@[simp] theorem setVc_hmovers (s : State) (g : Nat) (f : VCore → VCore) : (setVc s g f).hmovers = s.hmovers := rfl
@[simp] theorem setVc_mboxes (s : State) (g : Nat) (f : VCore → VCore) : (setVc s g f).mboxes = s.mboxes := rfl
@[simp] theorem setVc_gports (s : State) (g : Nat) (f : VCore → VCore) : (setVc s g f).gports = s.gports := rfl
@[simp] theorem setVc_zl (s : State) (g : Nat) (f : VCore → VCore) : (setVc s g f).zl = s.zl := rfl
@[simp] theorem setVc_th (s : State) (g : Nat) (f : VCore → VCore) : (setVc s g f).th = s.th := rfl
@[simp] theorem setVc_sup (s : State) (g : Nat) (f : VCore → VCore) : (setVc s g f).sup = s.sup := rfl
@[simp] theorem setVc_plate (s : State) (g : Nat) (f : VCore → VCore) : (setVc s g f).plate = s.plate := rfl
@[simp] theorem setVc_shape (s : State) (g : Nat) (f : VCore → VCore) : (setVc s g f).shape = s.shape := rfl
@[simp] theorem setVc_fw (s : State) (g : Nat) (f : VCore → VCore) : (setVc s g f).fw = s.fw := rfl
@[simp] theorem setVc_pins (s : State) (g : Nat) (f : VCore → VCore) : (setVc s g f).pins = s.pins := rfl
@[simp] theorem setVc_outs (s : State) (g : Nat) (f : VCore → VCore) : (setVc s g f).outs = s.outs := rfl

/-! ### setCol -/

@[simp] theorem setCol_now (s : State) (g : Nat) (f : Column → Column) : (setCol s g f).now = s.now := rfl
@[simp] theorem setCol_pending (s : State) (g : Nat) (f : Column → Column) : (setCol s g f).pending = s.pending := rfl
@[simp] theorem setCol_freeCtr (s : State) (g : Nat) (f : Column → Column) : (setCol s g f).freeCtr = s.freeCtr := rfl
@[simp] theorem setCol_power (s : State) (g : Nat) (f : Column → Column) : (setCol s g f).power = s.power := rfl
@[simp] theorem setCol_mem (s : State) (g : Nat) (f : Column → Column) : (setCol s g f).mem = s.mem := rfl
@[simp] theorem setCol_synd (s : State) (g : Nat) (f : Column → Column) : (setCol s g f).synd = s.synd := rfl
@[simp] theorem setCol_writeBacks (s : State) (g : Nat) (f : Column → Column) : (setCol s g f).writeBacks = s.writeBacks := rfl
@[simp] theorem setCol_ctrlWords (s : State) (g : Nat) (f : Column → Column) : (setCol s g f).ctrlWords = s.ctrlWords := rfl
@[simp] theorem setCol_regs (s : State) (g : Nat) (f : Column → Column) : (setCol s g f).regs = s.regs := rfl
@[simp] theorem setCol_regCc (s : State) (g : Nat) (f : Column → Column) : (setCol s g f).regCc = s.regCc := rfl
@[simp] theorem setCol_heldEnable (s : State) (g : Nat) (f : Column → Column) : (setCol s g f).heldEnable = s.heldEnable := rfl
@[simp] theorem setCol_ft (s : State) (g : Nat) (f : Column → Column) : (setCol s g f).ft = s.ft := rfl
@[simp] theorem setCol_prog (s : State) (g : Nat) (f : Column → Column) : (setCol s g f).prog = s.prog := rfl
@[simp] theorem setCol_mcores (s : State) (g : Nat) (f : Column → Column) : (setCol s g f).mcores = s.mcores := rfl
@[simp] theorem setCol_vcores (s : State) (g : Nat) (f : Column → Column) : (setCol s g f).vcores = s.vcores := rfl
@[simp] theorem setCol_cols (s : State) (g : Nat) (f : Column → Column) : (setCol s g f).cols = Assoc.put g (some (f (col s g))) s.cols := rfl
@[simp] theorem setCol_slm (s : State) (g : Nat) (f : Column → Column) : (setCol s g f).slm = s.slm := rfl
@[simp] theorem setCol_routers (s : State) (g : Nat) (f : Column → Column) : (setCol s g f).routers = s.routers := rfl
@[simp] theorem setCol_flights (s : State) (g : Nat) (f : Column → Column) : (setCol s g f).flights = s.flights := rfl
@[simp] theorem setCol_packets (s : State) (g : Nat) (f : Column → Column) : (setCol s g f).packets = s.packets := rfl
@[simp] theorem setCol_nextPacket (s : State) (g : Nat) (f : Column → Column) : (setCol s g f).nextPacket = s.nextPacket := rfl
@[simp] theorem setCol_coreReqs (s : State) (g : Nat) (f : Column → Column) : (setCol s g f).coreReqs = s.coreReqs := rfl
@[simp] theorem setCol_d2d (s : State) (g : Nat) (f : Column → Column) : (setCol s g f).d2d = s.d2d := rfl
@[simp] theorem setCol_chord (s : State) (g : Nat) (f : Column → Column) : (setCol s g f).chord = s.chord := rfl
@[simp] theorem setCol_kv (s : State) (g : Nat) (f : Column → Column) : (setCol s g f).kv = s.kv := rfl
@[simp] theorem setCol_smovers (s : State) (g : Nat) (f : Column → Column) : (setCol s g f).smovers = s.smovers := rfl
@[simp] theorem setCol_hmovers (s : State) (g : Nat) (f : Column → Column) : (setCol s g f).hmovers = s.hmovers := rfl
@[simp] theorem setCol_mboxes (s : State) (g : Nat) (f : Column → Column) : (setCol s g f).mboxes = s.mboxes := rfl
@[simp] theorem setCol_gports (s : State) (g : Nat) (f : Column → Column) : (setCol s g f).gports = s.gports := rfl
@[simp] theorem setCol_zl (s : State) (g : Nat) (f : Column → Column) : (setCol s g f).zl = s.zl := rfl
@[simp] theorem setCol_th (s : State) (g : Nat) (f : Column → Column) : (setCol s g f).th = s.th := rfl
@[simp] theorem setCol_sup (s : State) (g : Nat) (f : Column → Column) : (setCol s g f).sup = s.sup := rfl
@[simp] theorem setCol_plate (s : State) (g : Nat) (f : Column → Column) : (setCol s g f).plate = s.plate := rfl
@[simp] theorem setCol_shape (s : State) (g : Nat) (f : Column → Column) : (setCol s g f).shape = s.shape := rfl
@[simp] theorem setCol_fw (s : State) (g : Nat) (f : Column → Column) : (setCol s g f).fw = s.fw := rfl
@[simp] theorem setCol_pins (s : State) (g : Nat) (f : Column → Column) : (setCol s g f).pins = s.pins := rfl
@[simp] theorem setCol_outs (s : State) (g : Nat) (f : Column → Column) : (setCol s g f).outs = s.outs := rfl

/-! ### setRtr -/

@[simp] theorem setRtr_now (s : State) (g : Nat) (f : Router → Router) : (setRtr s g f).now = s.now := rfl
@[simp] theorem setRtr_pending (s : State) (g : Nat) (f : Router → Router) : (setRtr s g f).pending = s.pending := rfl
@[simp] theorem setRtr_freeCtr (s : State) (g : Nat) (f : Router → Router) : (setRtr s g f).freeCtr = s.freeCtr := rfl
@[simp] theorem setRtr_power (s : State) (g : Nat) (f : Router → Router) : (setRtr s g f).power = s.power := rfl
@[simp] theorem setRtr_mem (s : State) (g : Nat) (f : Router → Router) : (setRtr s g f).mem = s.mem := rfl
@[simp] theorem setRtr_synd (s : State) (g : Nat) (f : Router → Router) : (setRtr s g f).synd = s.synd := rfl
@[simp] theorem setRtr_writeBacks (s : State) (g : Nat) (f : Router → Router) : (setRtr s g f).writeBacks = s.writeBacks := rfl
@[simp] theorem setRtr_ctrlWords (s : State) (g : Nat) (f : Router → Router) : (setRtr s g f).ctrlWords = s.ctrlWords := rfl
@[simp] theorem setRtr_regs (s : State) (g : Nat) (f : Router → Router) : (setRtr s g f).regs = s.regs := rfl
@[simp] theorem setRtr_regCc (s : State) (g : Nat) (f : Router → Router) : (setRtr s g f).regCc = s.regCc := rfl
@[simp] theorem setRtr_heldEnable (s : State) (g : Nat) (f : Router → Router) : (setRtr s g f).heldEnable = s.heldEnable := rfl
@[simp] theorem setRtr_ft (s : State) (g : Nat) (f : Router → Router) : (setRtr s g f).ft = s.ft := rfl
@[simp] theorem setRtr_prog (s : State) (g : Nat) (f : Router → Router) : (setRtr s g f).prog = s.prog := rfl
@[simp] theorem setRtr_mcores (s : State) (g : Nat) (f : Router → Router) : (setRtr s g f).mcores = s.mcores := rfl
@[simp] theorem setRtr_vcores (s : State) (g : Nat) (f : Router → Router) : (setRtr s g f).vcores = s.vcores := rfl
@[simp] theorem setRtr_cols (s : State) (g : Nat) (f : Router → Router) : (setRtr s g f).cols = s.cols := rfl
@[simp] theorem setRtr_slm (s : State) (g : Nat) (f : Router → Router) : (setRtr s g f).slm = s.slm := rfl
@[simp] theorem setRtr_routers (s : State) (g : Nat) (f : Router → Router) : (setRtr s g f).routers = Assoc.put g (some (f (rtr s g))) s.routers := rfl
@[simp] theorem setRtr_flights (s : State) (g : Nat) (f : Router → Router) : (setRtr s g f).flights = s.flights := rfl
@[simp] theorem setRtr_packets (s : State) (g : Nat) (f : Router → Router) : (setRtr s g f).packets = s.packets := rfl
@[simp] theorem setRtr_nextPacket (s : State) (g : Nat) (f : Router → Router) : (setRtr s g f).nextPacket = s.nextPacket := rfl
@[simp] theorem setRtr_coreReqs (s : State) (g : Nat) (f : Router → Router) : (setRtr s g f).coreReqs = s.coreReqs := rfl
@[simp] theorem setRtr_d2d (s : State) (g : Nat) (f : Router → Router) : (setRtr s g f).d2d = s.d2d := rfl
@[simp] theorem setRtr_chord (s : State) (g : Nat) (f : Router → Router) : (setRtr s g f).chord = s.chord := rfl
@[simp] theorem setRtr_kv (s : State) (g : Nat) (f : Router → Router) : (setRtr s g f).kv = s.kv := rfl
@[simp] theorem setRtr_smovers (s : State) (g : Nat) (f : Router → Router) : (setRtr s g f).smovers = s.smovers := rfl
@[simp] theorem setRtr_hmovers (s : State) (g : Nat) (f : Router → Router) : (setRtr s g f).hmovers = s.hmovers := rfl
@[simp] theorem setRtr_mboxes (s : State) (g : Nat) (f : Router → Router) : (setRtr s g f).mboxes = s.mboxes := rfl
@[simp] theorem setRtr_gports (s : State) (g : Nat) (f : Router → Router) : (setRtr s g f).gports = s.gports := rfl
@[simp] theorem setRtr_zl (s : State) (g : Nat) (f : Router → Router) : (setRtr s g f).zl = s.zl := rfl
@[simp] theorem setRtr_th (s : State) (g : Nat) (f : Router → Router) : (setRtr s g f).th = s.th := rfl
@[simp] theorem setRtr_sup (s : State) (g : Nat) (f : Router → Router) : (setRtr s g f).sup = s.sup := rfl
@[simp] theorem setRtr_plate (s : State) (g : Nat) (f : Router → Router) : (setRtr s g f).plate = s.plate := rfl
@[simp] theorem setRtr_shape (s : State) (g : Nat) (f : Router → Router) : (setRtr s g f).shape = s.shape := rfl
@[simp] theorem setRtr_fw (s : State) (g : Nat) (f : Router → Router) : (setRtr s g f).fw = s.fw := rfl
@[simp] theorem setRtr_pins (s : State) (g : Nat) (f : Router → Router) : (setRtr s g f).pins = s.pins := rfl
@[simp] theorem setRtr_outs (s : State) (g : Nat) (f : Router → Router) : (setRtr s g f).outs = s.outs := rfl

/-! ### setDd -/

@[simp] theorem setDd_now (s : State) (g : Nat) (f : D2DEnd → D2DEnd) : (setDd s g f).now = s.now := rfl
@[simp] theorem setDd_pending (s : State) (g : Nat) (f : D2DEnd → D2DEnd) : (setDd s g f).pending = s.pending := rfl
@[simp] theorem setDd_freeCtr (s : State) (g : Nat) (f : D2DEnd → D2DEnd) : (setDd s g f).freeCtr = s.freeCtr := rfl
@[simp] theorem setDd_power (s : State) (g : Nat) (f : D2DEnd → D2DEnd) : (setDd s g f).power = s.power := rfl
@[simp] theorem setDd_mem (s : State) (g : Nat) (f : D2DEnd → D2DEnd) : (setDd s g f).mem = s.mem := rfl
@[simp] theorem setDd_synd (s : State) (g : Nat) (f : D2DEnd → D2DEnd) : (setDd s g f).synd = s.synd := rfl
@[simp] theorem setDd_writeBacks (s : State) (g : Nat) (f : D2DEnd → D2DEnd) : (setDd s g f).writeBacks = s.writeBacks := rfl
@[simp] theorem setDd_ctrlWords (s : State) (g : Nat) (f : D2DEnd → D2DEnd) : (setDd s g f).ctrlWords = s.ctrlWords := rfl
@[simp] theorem setDd_regs (s : State) (g : Nat) (f : D2DEnd → D2DEnd) : (setDd s g f).regs = s.regs := rfl
@[simp] theorem setDd_regCc (s : State) (g : Nat) (f : D2DEnd → D2DEnd) : (setDd s g f).regCc = s.regCc := rfl
@[simp] theorem setDd_heldEnable (s : State) (g : Nat) (f : D2DEnd → D2DEnd) : (setDd s g f).heldEnable = s.heldEnable := rfl
@[simp] theorem setDd_ft (s : State) (g : Nat) (f : D2DEnd → D2DEnd) : (setDd s g f).ft = s.ft := rfl
@[simp] theorem setDd_prog (s : State) (g : Nat) (f : D2DEnd → D2DEnd) : (setDd s g f).prog = s.prog := rfl
@[simp] theorem setDd_mcores (s : State) (g : Nat) (f : D2DEnd → D2DEnd) : (setDd s g f).mcores = s.mcores := rfl
@[simp] theorem setDd_vcores (s : State) (g : Nat) (f : D2DEnd → D2DEnd) : (setDd s g f).vcores = s.vcores := rfl
@[simp] theorem setDd_cols (s : State) (g : Nat) (f : D2DEnd → D2DEnd) : (setDd s g f).cols = s.cols := rfl
@[simp] theorem setDd_slm (s : State) (g : Nat) (f : D2DEnd → D2DEnd) : (setDd s g f).slm = s.slm := rfl
@[simp] theorem setDd_routers (s : State) (g : Nat) (f : D2DEnd → D2DEnd) : (setDd s g f).routers = s.routers := rfl
@[simp] theorem setDd_flights (s : State) (g : Nat) (f : D2DEnd → D2DEnd) : (setDd s g f).flights = s.flights := rfl
@[simp] theorem setDd_packets (s : State) (g : Nat) (f : D2DEnd → D2DEnd) : (setDd s g f).packets = s.packets := rfl
@[simp] theorem setDd_nextPacket (s : State) (g : Nat) (f : D2DEnd → D2DEnd) : (setDd s g f).nextPacket = s.nextPacket := rfl
@[simp] theorem setDd_coreReqs (s : State) (g : Nat) (f : D2DEnd → D2DEnd) : (setDd s g f).coreReqs = s.coreReqs := rfl
@[simp] theorem setDd_d2d (s : State) (g : Nat) (f : D2DEnd → D2DEnd) : (setDd s g f).d2d = Assoc.put g (some (f (dd s g))) s.d2d := rfl
@[simp] theorem setDd_chord (s : State) (g : Nat) (f : D2DEnd → D2DEnd) : (setDd s g f).chord = s.chord := rfl
@[simp] theorem setDd_kv (s : State) (g : Nat) (f : D2DEnd → D2DEnd) : (setDd s g f).kv = s.kv := rfl
@[simp] theorem setDd_smovers (s : State) (g : Nat) (f : D2DEnd → D2DEnd) : (setDd s g f).smovers = s.smovers := rfl
@[simp] theorem setDd_hmovers (s : State) (g : Nat) (f : D2DEnd → D2DEnd) : (setDd s g f).hmovers = s.hmovers := rfl
@[simp] theorem setDd_mboxes (s : State) (g : Nat) (f : D2DEnd → D2DEnd) : (setDd s g f).mboxes = s.mboxes := rfl
@[simp] theorem setDd_gports (s : State) (g : Nat) (f : D2DEnd → D2DEnd) : (setDd s g f).gports = s.gports := rfl
@[simp] theorem setDd_zl (s : State) (g : Nat) (f : D2DEnd → D2DEnd) : (setDd s g f).zl = s.zl := rfl
@[simp] theorem setDd_th (s : State) (g : Nat) (f : D2DEnd → D2DEnd) : (setDd s g f).th = s.th := rfl
@[simp] theorem setDd_sup (s : State) (g : Nat) (f : D2DEnd → D2DEnd) : (setDd s g f).sup = s.sup := rfl
@[simp] theorem setDd_plate (s : State) (g : Nat) (f : D2DEnd → D2DEnd) : (setDd s g f).plate = s.plate := rfl
@[simp] theorem setDd_shape (s : State) (g : Nat) (f : D2DEnd → D2DEnd) : (setDd s g f).shape = s.shape := rfl
@[simp] theorem setDd_fw (s : State) (g : Nat) (f : D2DEnd → D2DEnd) : (setDd s g f).fw = s.fw := rfl
@[simp] theorem setDd_pins (s : State) (g : Nat) (f : D2DEnd → D2DEnd) : (setDd s g f).pins = s.pins := rfl
@[simp] theorem setDd_outs (s : State) (g : Nat) (f : D2DEnd → D2DEnd) : (setDd s g f).outs = s.outs := rfl

/-! ### setSmv -/

@[simp] theorem setSmv_now (s : State) (g : Nat) (f : SMover → SMover) : (setSmv s g f).now = s.now := rfl
@[simp] theorem setSmv_pending (s : State) (g : Nat) (f : SMover → SMover) : (setSmv s g f).pending = s.pending := rfl
@[simp] theorem setSmv_freeCtr (s : State) (g : Nat) (f : SMover → SMover) : (setSmv s g f).freeCtr = s.freeCtr := rfl
@[simp] theorem setSmv_power (s : State) (g : Nat) (f : SMover → SMover) : (setSmv s g f).power = s.power := rfl
@[simp] theorem setSmv_mem (s : State) (g : Nat) (f : SMover → SMover) : (setSmv s g f).mem = s.mem := rfl
@[simp] theorem setSmv_synd (s : State) (g : Nat) (f : SMover → SMover) : (setSmv s g f).synd = s.synd := rfl
@[simp] theorem setSmv_writeBacks (s : State) (g : Nat) (f : SMover → SMover) : (setSmv s g f).writeBacks = s.writeBacks := rfl
@[simp] theorem setSmv_ctrlWords (s : State) (g : Nat) (f : SMover → SMover) : (setSmv s g f).ctrlWords = s.ctrlWords := rfl
@[simp] theorem setSmv_regs (s : State) (g : Nat) (f : SMover → SMover) : (setSmv s g f).regs = s.regs := rfl
@[simp] theorem setSmv_regCc (s : State) (g : Nat) (f : SMover → SMover) : (setSmv s g f).regCc = s.regCc := rfl
@[simp] theorem setSmv_heldEnable (s : State) (g : Nat) (f : SMover → SMover) : (setSmv s g f).heldEnable = s.heldEnable := rfl
@[simp] theorem setSmv_ft (s : State) (g : Nat) (f : SMover → SMover) : (setSmv s g f).ft = s.ft := rfl
@[simp] theorem setSmv_prog (s : State) (g : Nat) (f : SMover → SMover) : (setSmv s g f).prog = s.prog := rfl
@[simp] theorem setSmv_mcores (s : State) (g : Nat) (f : SMover → SMover) : (setSmv s g f).mcores = s.mcores := rfl
@[simp] theorem setSmv_vcores (s : State) (g : Nat) (f : SMover → SMover) : (setSmv s g f).vcores = s.vcores := rfl
@[simp] theorem setSmv_cols (s : State) (g : Nat) (f : SMover → SMover) : (setSmv s g f).cols = s.cols := rfl
@[simp] theorem setSmv_slm (s : State) (g : Nat) (f : SMover → SMover) : (setSmv s g f).slm = s.slm := rfl
@[simp] theorem setSmv_routers (s : State) (g : Nat) (f : SMover → SMover) : (setSmv s g f).routers = s.routers := rfl
@[simp] theorem setSmv_flights (s : State) (g : Nat) (f : SMover → SMover) : (setSmv s g f).flights = s.flights := rfl
@[simp] theorem setSmv_packets (s : State) (g : Nat) (f : SMover → SMover) : (setSmv s g f).packets = s.packets := rfl
@[simp] theorem setSmv_nextPacket (s : State) (g : Nat) (f : SMover → SMover) : (setSmv s g f).nextPacket = s.nextPacket := rfl
@[simp] theorem setSmv_coreReqs (s : State) (g : Nat) (f : SMover → SMover) : (setSmv s g f).coreReqs = s.coreReqs := rfl
@[simp] theorem setSmv_d2d (s : State) (g : Nat) (f : SMover → SMover) : (setSmv s g f).d2d = s.d2d := rfl
@[simp] theorem setSmv_chord (s : State) (g : Nat) (f : SMover → SMover) : (setSmv s g f).chord = s.chord := rfl
@[simp] theorem setSmv_kv (s : State) (g : Nat) (f : SMover → SMover) : (setSmv s g f).kv = s.kv := rfl
@[simp] theorem setSmv_smovers (s : State) (g : Nat) (f : SMover → SMover) : (setSmv s g f).smovers = Assoc.put g (some (f (smv s g))) s.smovers := rfl
@[simp] theorem setSmv_hmovers (s : State) (g : Nat) (f : SMover → SMover) : (setSmv s g f).hmovers = s.hmovers := rfl
@[simp] theorem setSmv_mboxes (s : State) (g : Nat) (f : SMover → SMover) : (setSmv s g f).mboxes = s.mboxes := rfl
@[simp] theorem setSmv_gports (s : State) (g : Nat) (f : SMover → SMover) : (setSmv s g f).gports = s.gports := rfl
@[simp] theorem setSmv_zl (s : State) (g : Nat) (f : SMover → SMover) : (setSmv s g f).zl = s.zl := rfl
@[simp] theorem setSmv_th (s : State) (g : Nat) (f : SMover → SMover) : (setSmv s g f).th = s.th := rfl
@[simp] theorem setSmv_sup (s : State) (g : Nat) (f : SMover → SMover) : (setSmv s g f).sup = s.sup := rfl
@[simp] theorem setSmv_plate (s : State) (g : Nat) (f : SMover → SMover) : (setSmv s g f).plate = s.plate := rfl
@[simp] theorem setSmv_shape (s : State) (g : Nat) (f : SMover → SMover) : (setSmv s g f).shape = s.shape := rfl
@[simp] theorem setSmv_fw (s : State) (g : Nat) (f : SMover → SMover) : (setSmv s g f).fw = s.fw := rfl
@[simp] theorem setSmv_pins (s : State) (g : Nat) (f : SMover → SMover) : (setSmv s g f).pins = s.pins := rfl
@[simp] theorem setSmv_outs (s : State) (g : Nat) (f : SMover → SMover) : (setSmv s g f).outs = s.outs := rfl

/-! ### setHmv -/

@[simp] theorem setHmv_now (s : State) (g : Nat) (f : HMover → HMover) : (setHmv s g f).now = s.now := rfl
@[simp] theorem setHmv_pending (s : State) (g : Nat) (f : HMover → HMover) : (setHmv s g f).pending = s.pending := rfl
@[simp] theorem setHmv_freeCtr (s : State) (g : Nat) (f : HMover → HMover) : (setHmv s g f).freeCtr = s.freeCtr := rfl
@[simp] theorem setHmv_power (s : State) (g : Nat) (f : HMover → HMover) : (setHmv s g f).power = s.power := rfl
@[simp] theorem setHmv_mem (s : State) (g : Nat) (f : HMover → HMover) : (setHmv s g f).mem = s.mem := rfl
@[simp] theorem setHmv_synd (s : State) (g : Nat) (f : HMover → HMover) : (setHmv s g f).synd = s.synd := rfl
@[simp] theorem setHmv_writeBacks (s : State) (g : Nat) (f : HMover → HMover) : (setHmv s g f).writeBacks = s.writeBacks := rfl
@[simp] theorem setHmv_ctrlWords (s : State) (g : Nat) (f : HMover → HMover) : (setHmv s g f).ctrlWords = s.ctrlWords := rfl
@[simp] theorem setHmv_regs (s : State) (g : Nat) (f : HMover → HMover) : (setHmv s g f).regs = s.regs := rfl
@[simp] theorem setHmv_regCc (s : State) (g : Nat) (f : HMover → HMover) : (setHmv s g f).regCc = s.regCc := rfl
@[simp] theorem setHmv_heldEnable (s : State) (g : Nat) (f : HMover → HMover) : (setHmv s g f).heldEnable = s.heldEnable := rfl
@[simp] theorem setHmv_ft (s : State) (g : Nat) (f : HMover → HMover) : (setHmv s g f).ft = s.ft := rfl
@[simp] theorem setHmv_prog (s : State) (g : Nat) (f : HMover → HMover) : (setHmv s g f).prog = s.prog := rfl
@[simp] theorem setHmv_mcores (s : State) (g : Nat) (f : HMover → HMover) : (setHmv s g f).mcores = s.mcores := rfl
@[simp] theorem setHmv_vcores (s : State) (g : Nat) (f : HMover → HMover) : (setHmv s g f).vcores = s.vcores := rfl
@[simp] theorem setHmv_cols (s : State) (g : Nat) (f : HMover → HMover) : (setHmv s g f).cols = s.cols := rfl
@[simp] theorem setHmv_slm (s : State) (g : Nat) (f : HMover → HMover) : (setHmv s g f).slm = s.slm := rfl
@[simp] theorem setHmv_routers (s : State) (g : Nat) (f : HMover → HMover) : (setHmv s g f).routers = s.routers := rfl
@[simp] theorem setHmv_flights (s : State) (g : Nat) (f : HMover → HMover) : (setHmv s g f).flights = s.flights := rfl
@[simp] theorem setHmv_packets (s : State) (g : Nat) (f : HMover → HMover) : (setHmv s g f).packets = s.packets := rfl
@[simp] theorem setHmv_nextPacket (s : State) (g : Nat) (f : HMover → HMover) : (setHmv s g f).nextPacket = s.nextPacket := rfl
@[simp] theorem setHmv_coreReqs (s : State) (g : Nat) (f : HMover → HMover) : (setHmv s g f).coreReqs = s.coreReqs := rfl
@[simp] theorem setHmv_d2d (s : State) (g : Nat) (f : HMover → HMover) : (setHmv s g f).d2d = s.d2d := rfl
@[simp] theorem setHmv_chord (s : State) (g : Nat) (f : HMover → HMover) : (setHmv s g f).chord = s.chord := rfl
@[simp] theorem setHmv_kv (s : State) (g : Nat) (f : HMover → HMover) : (setHmv s g f).kv = s.kv := rfl
@[simp] theorem setHmv_smovers (s : State) (g : Nat) (f : HMover → HMover) : (setHmv s g f).smovers = s.smovers := rfl
@[simp] theorem setHmv_hmovers (s : State) (g : Nat) (f : HMover → HMover) : (setHmv s g f).hmovers = Assoc.put g (some (f (hmv s g))) s.hmovers := rfl
@[simp] theorem setHmv_mboxes (s : State) (g : Nat) (f : HMover → HMover) : (setHmv s g f).mboxes = s.mboxes := rfl
@[simp] theorem setHmv_gports (s : State) (g : Nat) (f : HMover → HMover) : (setHmv s g f).gports = s.gports := rfl
@[simp] theorem setHmv_zl (s : State) (g : Nat) (f : HMover → HMover) : (setHmv s g f).zl = s.zl := rfl
@[simp] theorem setHmv_th (s : State) (g : Nat) (f : HMover → HMover) : (setHmv s g f).th = s.th := rfl
@[simp] theorem setHmv_sup (s : State) (g : Nat) (f : HMover → HMover) : (setHmv s g f).sup = s.sup := rfl
@[simp] theorem setHmv_plate (s : State) (g : Nat) (f : HMover → HMover) : (setHmv s g f).plate = s.plate := rfl
@[simp] theorem setHmv_shape (s : State) (g : Nat) (f : HMover → HMover) : (setHmv s g f).shape = s.shape := rfl
@[simp] theorem setHmv_fw (s : State) (g : Nat) (f : HMover → HMover) : (setHmv s g f).fw = s.fw := rfl
@[simp] theorem setHmv_pins (s : State) (g : Nat) (f : HMover → HMover) : (setHmv s g f).pins = s.pins := rfl
@[simp] theorem setHmv_outs (s : State) (g : Nat) (f : HMover → HMover) : (setHmv s g f).outs = s.outs := rfl

/-! ### setMbx -/

@[simp] theorem setMbx_now (s : State) (g : Nat) (f : MBox → MBox) : (setMbx s g f).now = s.now := rfl
@[simp] theorem setMbx_pending (s : State) (g : Nat) (f : MBox → MBox) : (setMbx s g f).pending = s.pending := rfl
@[simp] theorem setMbx_freeCtr (s : State) (g : Nat) (f : MBox → MBox) : (setMbx s g f).freeCtr = s.freeCtr := rfl
@[simp] theorem setMbx_power (s : State) (g : Nat) (f : MBox → MBox) : (setMbx s g f).power = s.power := rfl
@[simp] theorem setMbx_mem (s : State) (g : Nat) (f : MBox → MBox) : (setMbx s g f).mem = s.mem := rfl
@[simp] theorem setMbx_synd (s : State) (g : Nat) (f : MBox → MBox) : (setMbx s g f).synd = s.synd := rfl
@[simp] theorem setMbx_writeBacks (s : State) (g : Nat) (f : MBox → MBox) : (setMbx s g f).writeBacks = s.writeBacks := rfl
@[simp] theorem setMbx_ctrlWords (s : State) (g : Nat) (f : MBox → MBox) : (setMbx s g f).ctrlWords = s.ctrlWords := rfl
@[simp] theorem setMbx_regs (s : State) (g : Nat) (f : MBox → MBox) : (setMbx s g f).regs = s.regs := rfl
@[simp] theorem setMbx_regCc (s : State) (g : Nat) (f : MBox → MBox) : (setMbx s g f).regCc = s.regCc := rfl
@[simp] theorem setMbx_heldEnable (s : State) (g : Nat) (f : MBox → MBox) : (setMbx s g f).heldEnable = s.heldEnable := rfl
@[simp] theorem setMbx_ft (s : State) (g : Nat) (f : MBox → MBox) : (setMbx s g f).ft = s.ft := rfl
@[simp] theorem setMbx_prog (s : State) (g : Nat) (f : MBox → MBox) : (setMbx s g f).prog = s.prog := rfl
@[simp] theorem setMbx_mcores (s : State) (g : Nat) (f : MBox → MBox) : (setMbx s g f).mcores = s.mcores := rfl
@[simp] theorem setMbx_vcores (s : State) (g : Nat) (f : MBox → MBox) : (setMbx s g f).vcores = s.vcores := rfl
@[simp] theorem setMbx_cols (s : State) (g : Nat) (f : MBox → MBox) : (setMbx s g f).cols = s.cols := rfl
@[simp] theorem setMbx_slm (s : State) (g : Nat) (f : MBox → MBox) : (setMbx s g f).slm = s.slm := rfl
@[simp] theorem setMbx_routers (s : State) (g : Nat) (f : MBox → MBox) : (setMbx s g f).routers = s.routers := rfl
@[simp] theorem setMbx_flights (s : State) (g : Nat) (f : MBox → MBox) : (setMbx s g f).flights = s.flights := rfl
@[simp] theorem setMbx_packets (s : State) (g : Nat) (f : MBox → MBox) : (setMbx s g f).packets = s.packets := rfl
@[simp] theorem setMbx_nextPacket (s : State) (g : Nat) (f : MBox → MBox) : (setMbx s g f).nextPacket = s.nextPacket := rfl
@[simp] theorem setMbx_coreReqs (s : State) (g : Nat) (f : MBox → MBox) : (setMbx s g f).coreReqs = s.coreReqs := rfl
@[simp] theorem setMbx_d2d (s : State) (g : Nat) (f : MBox → MBox) : (setMbx s g f).d2d = s.d2d := rfl
@[simp] theorem setMbx_chord (s : State) (g : Nat) (f : MBox → MBox) : (setMbx s g f).chord = s.chord := rfl
@[simp] theorem setMbx_kv (s : State) (g : Nat) (f : MBox → MBox) : (setMbx s g f).kv = s.kv := rfl
@[simp] theorem setMbx_smovers (s : State) (g : Nat) (f : MBox → MBox) : (setMbx s g f).smovers = s.smovers := rfl
@[simp] theorem setMbx_hmovers (s : State) (g : Nat) (f : MBox → MBox) : (setMbx s g f).hmovers = s.hmovers := rfl
@[simp] theorem setMbx_mboxes (s : State) (g : Nat) (f : MBox → MBox) : (setMbx s g f).mboxes = Assoc.put g (some (f (mbx s g))) s.mboxes := rfl
@[simp] theorem setMbx_gports (s : State) (g : Nat) (f : MBox → MBox) : (setMbx s g f).gports = s.gports := rfl
@[simp] theorem setMbx_zl (s : State) (g : Nat) (f : MBox → MBox) : (setMbx s g f).zl = s.zl := rfl
@[simp] theorem setMbx_th (s : State) (g : Nat) (f : MBox → MBox) : (setMbx s g f).th = s.th := rfl
@[simp] theorem setMbx_sup (s : State) (g : Nat) (f : MBox → MBox) : (setMbx s g f).sup = s.sup := rfl
@[simp] theorem setMbx_plate (s : State) (g : Nat) (f : MBox → MBox) : (setMbx s g f).plate = s.plate := rfl
@[simp] theorem setMbx_shape (s : State) (g : Nat) (f : MBox → MBox) : (setMbx s g f).shape = s.shape := rfl
@[simp] theorem setMbx_fw (s : State) (g : Nat) (f : MBox → MBox) : (setMbx s g f).fw = s.fw := rfl
@[simp] theorem setMbx_pins (s : State) (g : Nat) (f : MBox → MBox) : (setMbx s g f).pins = s.pins := rfl
@[simp] theorem setMbx_outs (s : State) (g : Nat) (f : MBox → MBox) : (setMbx s g f).outs = s.outs := rfl

/-! ### setGp -/

@[simp] theorem setGp_now (s : State) (g : Nat) (f : GPort → GPort) : (setGp s g f).now = s.now := rfl
@[simp] theorem setGp_pending (s : State) (g : Nat) (f : GPort → GPort) : (setGp s g f).pending = s.pending := rfl
@[simp] theorem setGp_freeCtr (s : State) (g : Nat) (f : GPort → GPort) : (setGp s g f).freeCtr = s.freeCtr := rfl
@[simp] theorem setGp_power (s : State) (g : Nat) (f : GPort → GPort) : (setGp s g f).power = s.power := rfl
@[simp] theorem setGp_mem (s : State) (g : Nat) (f : GPort → GPort) : (setGp s g f).mem = s.mem := rfl
@[simp] theorem setGp_synd (s : State) (g : Nat) (f : GPort → GPort) : (setGp s g f).synd = s.synd := rfl
@[simp] theorem setGp_writeBacks (s : State) (g : Nat) (f : GPort → GPort) : (setGp s g f).writeBacks = s.writeBacks := rfl
@[simp] theorem setGp_ctrlWords (s : State) (g : Nat) (f : GPort → GPort) : (setGp s g f).ctrlWords = s.ctrlWords := rfl
@[simp] theorem setGp_regs (s : State) (g : Nat) (f : GPort → GPort) : (setGp s g f).regs = s.regs := rfl
@[simp] theorem setGp_regCc (s : State) (g : Nat) (f : GPort → GPort) : (setGp s g f).regCc = s.regCc := rfl
@[simp] theorem setGp_heldEnable (s : State) (g : Nat) (f : GPort → GPort) : (setGp s g f).heldEnable = s.heldEnable := rfl
@[simp] theorem setGp_ft (s : State) (g : Nat) (f : GPort → GPort) : (setGp s g f).ft = s.ft := rfl
@[simp] theorem setGp_prog (s : State) (g : Nat) (f : GPort → GPort) : (setGp s g f).prog = s.prog := rfl
@[simp] theorem setGp_mcores (s : State) (g : Nat) (f : GPort → GPort) : (setGp s g f).mcores = s.mcores := rfl
@[simp] theorem setGp_vcores (s : State) (g : Nat) (f : GPort → GPort) : (setGp s g f).vcores = s.vcores := rfl
@[simp] theorem setGp_cols (s : State) (g : Nat) (f : GPort → GPort) : (setGp s g f).cols = s.cols := rfl
@[simp] theorem setGp_slm (s : State) (g : Nat) (f : GPort → GPort) : (setGp s g f).slm = s.slm := rfl
@[simp] theorem setGp_routers (s : State) (g : Nat) (f : GPort → GPort) : (setGp s g f).routers = s.routers := rfl
@[simp] theorem setGp_flights (s : State) (g : Nat) (f : GPort → GPort) : (setGp s g f).flights = s.flights := rfl
@[simp] theorem setGp_packets (s : State) (g : Nat) (f : GPort → GPort) : (setGp s g f).packets = s.packets := rfl
@[simp] theorem setGp_nextPacket (s : State) (g : Nat) (f : GPort → GPort) : (setGp s g f).nextPacket = s.nextPacket := rfl
@[simp] theorem setGp_coreReqs (s : State) (g : Nat) (f : GPort → GPort) : (setGp s g f).coreReqs = s.coreReqs := rfl
@[simp] theorem setGp_d2d (s : State) (g : Nat) (f : GPort → GPort) : (setGp s g f).d2d = s.d2d := rfl
@[simp] theorem setGp_chord (s : State) (g : Nat) (f : GPort → GPort) : (setGp s g f).chord = s.chord := rfl
@[simp] theorem setGp_kv (s : State) (g : Nat) (f : GPort → GPort) : (setGp s g f).kv = s.kv := rfl
@[simp] theorem setGp_smovers (s : State) (g : Nat) (f : GPort → GPort) : (setGp s g f).smovers = s.smovers := rfl
@[simp] theorem setGp_hmovers (s : State) (g : Nat) (f : GPort → GPort) : (setGp s g f).hmovers = s.hmovers := rfl
@[simp] theorem setGp_mboxes (s : State) (g : Nat) (f : GPort → GPort) : (setGp s g f).mboxes = s.mboxes := rfl
@[simp] theorem setGp_gports (s : State) (g : Nat) (f : GPort → GPort) : (setGp s g f).gports = Assoc.put g (some (f (gp s g))) s.gports := rfl
@[simp] theorem setGp_zl (s : State) (g : Nat) (f : GPort → GPort) : (setGp s g f).zl = s.zl := rfl
@[simp] theorem setGp_th (s : State) (g : Nat) (f : GPort → GPort) : (setGp s g f).th = s.th := rfl
@[simp] theorem setGp_sup (s : State) (g : Nat) (f : GPort → GPort) : (setGp s g f).sup = s.sup := rfl
@[simp] theorem setGp_plate (s : State) (g : Nat) (f : GPort → GPort) : (setGp s g f).plate = s.plate := rfl
@[simp] theorem setGp_shape (s : State) (g : Nat) (f : GPort → GPort) : (setGp s g f).shape = s.shape := rfl
@[simp] theorem setGp_fw (s : State) (g : Nat) (f : GPort → GPort) : (setGp s g f).fw = s.fw := rfl
@[simp] theorem setGp_pins (s : State) (g : Nat) (f : GPort → GPort) : (setGp s g f).pins = s.pins := rfl
@[simp] theorem setGp_outs (s : State) (g : Nat) (f : GPort → GPort) : (setGp s g f).outs = s.outs := rfl

/-! ### setSlm -/

@[simp] theorem setSlm_now (s : State) (f : Slm → Slm) : (setSlm s f).now = s.now := rfl
@[simp] theorem setSlm_pending (s : State) (f : Slm → Slm) : (setSlm s f).pending = s.pending := rfl
@[simp] theorem setSlm_freeCtr (s : State) (f : Slm → Slm) : (setSlm s f).freeCtr = s.freeCtr := rfl
@[simp] theorem setSlm_power (s : State) (f : Slm → Slm) : (setSlm s f).power = s.power := rfl
@[simp] theorem setSlm_mem (s : State) (f : Slm → Slm) : (setSlm s f).mem = s.mem := rfl
@[simp] theorem setSlm_synd (s : State) (f : Slm → Slm) : (setSlm s f).synd = s.synd := rfl
@[simp] theorem setSlm_writeBacks (s : State) (f : Slm → Slm) : (setSlm s f).writeBacks = s.writeBacks := rfl
@[simp] theorem setSlm_ctrlWords (s : State) (f : Slm → Slm) : (setSlm s f).ctrlWords = s.ctrlWords := rfl
@[simp] theorem setSlm_regs (s : State) (f : Slm → Slm) : (setSlm s f).regs = s.regs := rfl
@[simp] theorem setSlm_regCc (s : State) (f : Slm → Slm) : (setSlm s f).regCc = s.regCc := rfl
@[simp] theorem setSlm_heldEnable (s : State) (f : Slm → Slm) : (setSlm s f).heldEnable = s.heldEnable := rfl
@[simp] theorem setSlm_ft (s : State) (f : Slm → Slm) : (setSlm s f).ft = s.ft := rfl
@[simp] theorem setSlm_prog (s : State) (f : Slm → Slm) : (setSlm s f).prog = s.prog := rfl
@[simp] theorem setSlm_mcores (s : State) (f : Slm → Slm) : (setSlm s f).mcores = s.mcores := rfl
@[simp] theorem setSlm_vcores (s : State) (f : Slm → Slm) : (setSlm s f).vcores = s.vcores := rfl
@[simp] theorem setSlm_cols (s : State) (f : Slm → Slm) : (setSlm s f).cols = s.cols := rfl
@[simp] theorem setSlm_slm (s : State) (f : Slm → Slm) : (setSlm s f).slm = f s.slm := rfl
@[simp] theorem setSlm_routers (s : State) (f : Slm → Slm) : (setSlm s f).routers = s.routers := rfl
@[simp] theorem setSlm_flights (s : State) (f : Slm → Slm) : (setSlm s f).flights = s.flights := rfl
@[simp] theorem setSlm_packets (s : State) (f : Slm → Slm) : (setSlm s f).packets = s.packets := rfl
@[simp] theorem setSlm_nextPacket (s : State) (f : Slm → Slm) : (setSlm s f).nextPacket = s.nextPacket := rfl
@[simp] theorem setSlm_coreReqs (s : State) (f : Slm → Slm) : (setSlm s f).coreReqs = s.coreReqs := rfl
@[simp] theorem setSlm_d2d (s : State) (f : Slm → Slm) : (setSlm s f).d2d = s.d2d := rfl
@[simp] theorem setSlm_chord (s : State) (f : Slm → Slm) : (setSlm s f).chord = s.chord := rfl
@[simp] theorem setSlm_kv (s : State) (f : Slm → Slm) : (setSlm s f).kv = s.kv := rfl
@[simp] theorem setSlm_smovers (s : State) (f : Slm → Slm) : (setSlm s f).smovers = s.smovers := rfl
@[simp] theorem setSlm_hmovers (s : State) (f : Slm → Slm) : (setSlm s f).hmovers = s.hmovers := rfl
@[simp] theorem setSlm_mboxes (s : State) (f : Slm → Slm) : (setSlm s f).mboxes = s.mboxes := rfl
@[simp] theorem setSlm_gports (s : State) (f : Slm → Slm) : (setSlm s f).gports = s.gports := rfl
@[simp] theorem setSlm_zl (s : State) (f : Slm → Slm) : (setSlm s f).zl = s.zl := rfl
@[simp] theorem setSlm_th (s : State) (f : Slm → Slm) : (setSlm s f).th = s.th := rfl
@[simp] theorem setSlm_sup (s : State) (f : Slm → Slm) : (setSlm s f).sup = s.sup := rfl
@[simp] theorem setSlm_plate (s : State) (f : Slm → Slm) : (setSlm s f).plate = s.plate := rfl
@[simp] theorem setSlm_shape (s : State) (f : Slm → Slm) : (setSlm s f).shape = s.shape := rfl
@[simp] theorem setSlm_fw (s : State) (f : Slm → Slm) : (setSlm s f).fw = s.fw := rfl
@[simp] theorem setSlm_pins (s : State) (f : Slm → Slm) : (setSlm s f).pins = s.pins := rfl
@[simp] theorem setSlm_outs (s : State) (f : Slm → Slm) : (setSlm s f).outs = s.outs := rfl

/-! ### setKv -/

@[simp] theorem setKv_now (s : State) (f : Prefix → Prefix) : (setKv s f).now = s.now := rfl
@[simp] theorem setKv_pending (s : State) (f : Prefix → Prefix) : (setKv s f).pending = s.pending := rfl
@[simp] theorem setKv_freeCtr (s : State) (f : Prefix → Prefix) : (setKv s f).freeCtr = s.freeCtr := rfl
@[simp] theorem setKv_power (s : State) (f : Prefix → Prefix) : (setKv s f).power = s.power := rfl
@[simp] theorem setKv_mem (s : State) (f : Prefix → Prefix) : (setKv s f).mem = s.mem := rfl
@[simp] theorem setKv_synd (s : State) (f : Prefix → Prefix) : (setKv s f).synd = s.synd := rfl
@[simp] theorem setKv_writeBacks (s : State) (f : Prefix → Prefix) : (setKv s f).writeBacks = s.writeBacks := rfl
@[simp] theorem setKv_ctrlWords (s : State) (f : Prefix → Prefix) : (setKv s f).ctrlWords = s.ctrlWords := rfl
@[simp] theorem setKv_regs (s : State) (f : Prefix → Prefix) : (setKv s f).regs = s.regs := rfl
@[simp] theorem setKv_regCc (s : State) (f : Prefix → Prefix) : (setKv s f).regCc = s.regCc := rfl
@[simp] theorem setKv_heldEnable (s : State) (f : Prefix → Prefix) : (setKv s f).heldEnable = s.heldEnable := rfl
@[simp] theorem setKv_ft (s : State) (f : Prefix → Prefix) : (setKv s f).ft = s.ft := rfl
@[simp] theorem setKv_prog (s : State) (f : Prefix → Prefix) : (setKv s f).prog = s.prog := rfl
@[simp] theorem setKv_mcores (s : State) (f : Prefix → Prefix) : (setKv s f).mcores = s.mcores := rfl
@[simp] theorem setKv_vcores (s : State) (f : Prefix → Prefix) : (setKv s f).vcores = s.vcores := rfl
@[simp] theorem setKv_cols (s : State) (f : Prefix → Prefix) : (setKv s f).cols = s.cols := rfl
@[simp] theorem setKv_slm (s : State) (f : Prefix → Prefix) : (setKv s f).slm = s.slm := rfl
@[simp] theorem setKv_routers (s : State) (f : Prefix → Prefix) : (setKv s f).routers = s.routers := rfl
@[simp] theorem setKv_flights (s : State) (f : Prefix → Prefix) : (setKv s f).flights = s.flights := rfl
@[simp] theorem setKv_packets (s : State) (f : Prefix → Prefix) : (setKv s f).packets = s.packets := rfl
@[simp] theorem setKv_nextPacket (s : State) (f : Prefix → Prefix) : (setKv s f).nextPacket = s.nextPacket := rfl
@[simp] theorem setKv_coreReqs (s : State) (f : Prefix → Prefix) : (setKv s f).coreReqs = s.coreReqs := rfl
@[simp] theorem setKv_d2d (s : State) (f : Prefix → Prefix) : (setKv s f).d2d = s.d2d := rfl
@[simp] theorem setKv_chord (s : State) (f : Prefix → Prefix) : (setKv s f).chord = s.chord := rfl
@[simp] theorem setKv_kv (s : State) (f : Prefix → Prefix) : (setKv s f).kv = f s.kv := rfl
@[simp] theorem setKv_smovers (s : State) (f : Prefix → Prefix) : (setKv s f).smovers = s.smovers := rfl
@[simp] theorem setKv_hmovers (s : State) (f : Prefix → Prefix) : (setKv s f).hmovers = s.hmovers := rfl
@[simp] theorem setKv_mboxes (s : State) (f : Prefix → Prefix) : (setKv s f).mboxes = s.mboxes := rfl
@[simp] theorem setKv_gports (s : State) (f : Prefix → Prefix) : (setKv s f).gports = s.gports := rfl
@[simp] theorem setKv_zl (s : State) (f : Prefix → Prefix) : (setKv s f).zl = s.zl := rfl
@[simp] theorem setKv_th (s : State) (f : Prefix → Prefix) : (setKv s f).th = s.th := rfl
@[simp] theorem setKv_sup (s : State) (f : Prefix → Prefix) : (setKv s f).sup = s.sup := rfl
@[simp] theorem setKv_plate (s : State) (f : Prefix → Prefix) : (setKv s f).plate = s.plate := rfl
@[simp] theorem setKv_shape (s : State) (f : Prefix → Prefix) : (setKv s f).shape = s.shape := rfl
@[simp] theorem setKv_fw (s : State) (f : Prefix → Prefix) : (setKv s f).fw = s.fw := rfl
@[simp] theorem setKv_pins (s : State) (f : Prefix → Prefix) : (setKv s f).pins = s.pins := rfl
@[simp] theorem setKv_outs (s : State) (f : Prefix → Prefix) : (setKv s f).outs = s.outs := rfl

/-! ### setZl -/

@[simp] theorem setZl_now (s : State) (f : Zeleri → Zeleri) : (setZl s f).now = s.now := rfl
@[simp] theorem setZl_pending (s : State) (f : Zeleri → Zeleri) : (setZl s f).pending = s.pending := rfl
@[simp] theorem setZl_freeCtr (s : State) (f : Zeleri → Zeleri) : (setZl s f).freeCtr = s.freeCtr := rfl
@[simp] theorem setZl_power (s : State) (f : Zeleri → Zeleri) : (setZl s f).power = s.power := rfl
@[simp] theorem setZl_mem (s : State) (f : Zeleri → Zeleri) : (setZl s f).mem = s.mem := rfl
@[simp] theorem setZl_synd (s : State) (f : Zeleri → Zeleri) : (setZl s f).synd = s.synd := rfl
@[simp] theorem setZl_writeBacks (s : State) (f : Zeleri → Zeleri) : (setZl s f).writeBacks = s.writeBacks := rfl
@[simp] theorem setZl_ctrlWords (s : State) (f : Zeleri → Zeleri) : (setZl s f).ctrlWords = s.ctrlWords := rfl
@[simp] theorem setZl_regs (s : State) (f : Zeleri → Zeleri) : (setZl s f).regs = s.regs := rfl
@[simp] theorem setZl_regCc (s : State) (f : Zeleri → Zeleri) : (setZl s f).regCc = s.regCc := rfl
@[simp] theorem setZl_heldEnable (s : State) (f : Zeleri → Zeleri) : (setZl s f).heldEnable = s.heldEnable := rfl
@[simp] theorem setZl_ft (s : State) (f : Zeleri → Zeleri) : (setZl s f).ft = s.ft := rfl
@[simp] theorem setZl_prog (s : State) (f : Zeleri → Zeleri) : (setZl s f).prog = s.prog := rfl
@[simp] theorem setZl_mcores (s : State) (f : Zeleri → Zeleri) : (setZl s f).mcores = s.mcores := rfl
@[simp] theorem setZl_vcores (s : State) (f : Zeleri → Zeleri) : (setZl s f).vcores = s.vcores := rfl
@[simp] theorem setZl_cols (s : State) (f : Zeleri → Zeleri) : (setZl s f).cols = s.cols := rfl
@[simp] theorem setZl_slm (s : State) (f : Zeleri → Zeleri) : (setZl s f).slm = s.slm := rfl
@[simp] theorem setZl_routers (s : State) (f : Zeleri → Zeleri) : (setZl s f).routers = s.routers := rfl
@[simp] theorem setZl_flights (s : State) (f : Zeleri → Zeleri) : (setZl s f).flights = s.flights := rfl
@[simp] theorem setZl_packets (s : State) (f : Zeleri → Zeleri) : (setZl s f).packets = s.packets := rfl
@[simp] theorem setZl_nextPacket (s : State) (f : Zeleri → Zeleri) : (setZl s f).nextPacket = s.nextPacket := rfl
@[simp] theorem setZl_coreReqs (s : State) (f : Zeleri → Zeleri) : (setZl s f).coreReqs = s.coreReqs := rfl
@[simp] theorem setZl_d2d (s : State) (f : Zeleri → Zeleri) : (setZl s f).d2d = s.d2d := rfl
@[simp] theorem setZl_chord (s : State) (f : Zeleri → Zeleri) : (setZl s f).chord = s.chord := rfl
@[simp] theorem setZl_kv (s : State) (f : Zeleri → Zeleri) : (setZl s f).kv = s.kv := rfl
@[simp] theorem setZl_smovers (s : State) (f : Zeleri → Zeleri) : (setZl s f).smovers = s.smovers := rfl
@[simp] theorem setZl_hmovers (s : State) (f : Zeleri → Zeleri) : (setZl s f).hmovers = s.hmovers := rfl
@[simp] theorem setZl_mboxes (s : State) (f : Zeleri → Zeleri) : (setZl s f).mboxes = s.mboxes := rfl
@[simp] theorem setZl_gports (s : State) (f : Zeleri → Zeleri) : (setZl s f).gports = s.gports := rfl
@[simp] theorem setZl_zl (s : State) (f : Zeleri → Zeleri) : (setZl s f).zl = f s.zl := rfl
@[simp] theorem setZl_th (s : State) (f : Zeleri → Zeleri) : (setZl s f).th = s.th := rfl
@[simp] theorem setZl_sup (s : State) (f : Zeleri → Zeleri) : (setZl s f).sup = s.sup := rfl
@[simp] theorem setZl_plate (s : State) (f : Zeleri → Zeleri) : (setZl s f).plate = s.plate := rfl
@[simp] theorem setZl_shape (s : State) (f : Zeleri → Zeleri) : (setZl s f).shape = s.shape := rfl
@[simp] theorem setZl_fw (s : State) (f : Zeleri → Zeleri) : (setZl s f).fw = s.fw := rfl
@[simp] theorem setZl_pins (s : State) (f : Zeleri → Zeleri) : (setZl s f).pins = s.pins := rfl
@[simp] theorem setZl_outs (s : State) (f : Zeleri → Zeleri) : (setZl s f).outs = s.outs := rfl

/-! ### setTh -/

@[simp] theorem setTh_now (s : State) (f : Thermal → Thermal) : (setTh s f).now = s.now := rfl
@[simp] theorem setTh_pending (s : State) (f : Thermal → Thermal) : (setTh s f).pending = s.pending := rfl
@[simp] theorem setTh_freeCtr (s : State) (f : Thermal → Thermal) : (setTh s f).freeCtr = s.freeCtr := rfl
@[simp] theorem setTh_power (s : State) (f : Thermal → Thermal) : (setTh s f).power = s.power := rfl
@[simp] theorem setTh_mem (s : State) (f : Thermal → Thermal) : (setTh s f).mem = s.mem := rfl
@[simp] theorem setTh_synd (s : State) (f : Thermal → Thermal) : (setTh s f).synd = s.synd := rfl
@[simp] theorem setTh_writeBacks (s : State) (f : Thermal → Thermal) : (setTh s f).writeBacks = s.writeBacks := rfl
@[simp] theorem setTh_ctrlWords (s : State) (f : Thermal → Thermal) : (setTh s f).ctrlWords = s.ctrlWords := rfl
@[simp] theorem setTh_regs (s : State) (f : Thermal → Thermal) : (setTh s f).regs = s.regs := rfl
@[simp] theorem setTh_regCc (s : State) (f : Thermal → Thermal) : (setTh s f).regCc = s.regCc := rfl
@[simp] theorem setTh_heldEnable (s : State) (f : Thermal → Thermal) : (setTh s f).heldEnable = s.heldEnable := rfl
@[simp] theorem setTh_ft (s : State) (f : Thermal → Thermal) : (setTh s f).ft = s.ft := rfl
@[simp] theorem setTh_prog (s : State) (f : Thermal → Thermal) : (setTh s f).prog = s.prog := rfl
@[simp] theorem setTh_mcores (s : State) (f : Thermal → Thermal) : (setTh s f).mcores = s.mcores := rfl
@[simp] theorem setTh_vcores (s : State) (f : Thermal → Thermal) : (setTh s f).vcores = s.vcores := rfl
@[simp] theorem setTh_cols (s : State) (f : Thermal → Thermal) : (setTh s f).cols = s.cols := rfl
@[simp] theorem setTh_slm (s : State) (f : Thermal → Thermal) : (setTh s f).slm = s.slm := rfl
@[simp] theorem setTh_routers (s : State) (f : Thermal → Thermal) : (setTh s f).routers = s.routers := rfl
@[simp] theorem setTh_flights (s : State) (f : Thermal → Thermal) : (setTh s f).flights = s.flights := rfl
@[simp] theorem setTh_packets (s : State) (f : Thermal → Thermal) : (setTh s f).packets = s.packets := rfl
@[simp] theorem setTh_nextPacket (s : State) (f : Thermal → Thermal) : (setTh s f).nextPacket = s.nextPacket := rfl
@[simp] theorem setTh_coreReqs (s : State) (f : Thermal → Thermal) : (setTh s f).coreReqs = s.coreReqs := rfl
@[simp] theorem setTh_d2d (s : State) (f : Thermal → Thermal) : (setTh s f).d2d = s.d2d := rfl
@[simp] theorem setTh_chord (s : State) (f : Thermal → Thermal) : (setTh s f).chord = s.chord := rfl
@[simp] theorem setTh_kv (s : State) (f : Thermal → Thermal) : (setTh s f).kv = s.kv := rfl
@[simp] theorem setTh_smovers (s : State) (f : Thermal → Thermal) : (setTh s f).smovers = s.smovers := rfl
@[simp] theorem setTh_hmovers (s : State) (f : Thermal → Thermal) : (setTh s f).hmovers = s.hmovers := rfl
@[simp] theorem setTh_mboxes (s : State) (f : Thermal → Thermal) : (setTh s f).mboxes = s.mboxes := rfl
@[simp] theorem setTh_gports (s : State) (f : Thermal → Thermal) : (setTh s f).gports = s.gports := rfl
@[simp] theorem setTh_zl (s : State) (f : Thermal → Thermal) : (setTh s f).zl = s.zl := rfl
@[simp] theorem setTh_th (s : State) (f : Thermal → Thermal) : (setTh s f).th = f s.th := rfl
@[simp] theorem setTh_sup (s : State) (f : Thermal → Thermal) : (setTh s f).sup = s.sup := rfl
@[simp] theorem setTh_plate (s : State) (f : Thermal → Thermal) : (setTh s f).plate = s.plate := rfl
@[simp] theorem setTh_shape (s : State) (f : Thermal → Thermal) : (setTh s f).shape = s.shape := rfl
@[simp] theorem setTh_fw (s : State) (f : Thermal → Thermal) : (setTh s f).fw = s.fw := rfl
@[simp] theorem setTh_pins (s : State) (f : Thermal → Thermal) : (setTh s f).pins = s.pins := rfl
@[simp] theorem setTh_outs (s : State) (f : Thermal → Thermal) : (setTh s f).outs = s.outs := rfl

/-! ### setSup -/

@[simp] theorem setSup_now (s : State) (f : Supply → Supply) : (setSup s f).now = s.now := rfl
@[simp] theorem setSup_pending (s : State) (f : Supply → Supply) : (setSup s f).pending = s.pending := rfl
@[simp] theorem setSup_freeCtr (s : State) (f : Supply → Supply) : (setSup s f).freeCtr = s.freeCtr := rfl
@[simp] theorem setSup_power (s : State) (f : Supply → Supply) : (setSup s f).power = s.power := rfl
@[simp] theorem setSup_mem (s : State) (f : Supply → Supply) : (setSup s f).mem = s.mem := rfl
@[simp] theorem setSup_synd (s : State) (f : Supply → Supply) : (setSup s f).synd = s.synd := rfl
@[simp] theorem setSup_writeBacks (s : State) (f : Supply → Supply) : (setSup s f).writeBacks = s.writeBacks := rfl
@[simp] theorem setSup_ctrlWords (s : State) (f : Supply → Supply) : (setSup s f).ctrlWords = s.ctrlWords := rfl
@[simp] theorem setSup_regs (s : State) (f : Supply → Supply) : (setSup s f).regs = s.regs := rfl
@[simp] theorem setSup_regCc (s : State) (f : Supply → Supply) : (setSup s f).regCc = s.regCc := rfl
@[simp] theorem setSup_heldEnable (s : State) (f : Supply → Supply) : (setSup s f).heldEnable = s.heldEnable := rfl
@[simp] theorem setSup_ft (s : State) (f : Supply → Supply) : (setSup s f).ft = s.ft := rfl
@[simp] theorem setSup_prog (s : State) (f : Supply → Supply) : (setSup s f).prog = s.prog := rfl
@[simp] theorem setSup_mcores (s : State) (f : Supply → Supply) : (setSup s f).mcores = s.mcores := rfl
@[simp] theorem setSup_vcores (s : State) (f : Supply → Supply) : (setSup s f).vcores = s.vcores := rfl
@[simp] theorem setSup_cols (s : State) (f : Supply → Supply) : (setSup s f).cols = s.cols := rfl
@[simp] theorem setSup_slm (s : State) (f : Supply → Supply) : (setSup s f).slm = s.slm := rfl
@[simp] theorem setSup_routers (s : State) (f : Supply → Supply) : (setSup s f).routers = s.routers := rfl
@[simp] theorem setSup_flights (s : State) (f : Supply → Supply) : (setSup s f).flights = s.flights := rfl
@[simp] theorem setSup_packets (s : State) (f : Supply → Supply) : (setSup s f).packets = s.packets := rfl
@[simp] theorem setSup_nextPacket (s : State) (f : Supply → Supply) : (setSup s f).nextPacket = s.nextPacket := rfl
@[simp] theorem setSup_coreReqs (s : State) (f : Supply → Supply) : (setSup s f).coreReqs = s.coreReqs := rfl
@[simp] theorem setSup_d2d (s : State) (f : Supply → Supply) : (setSup s f).d2d = s.d2d := rfl
@[simp] theorem setSup_chord (s : State) (f : Supply → Supply) : (setSup s f).chord = s.chord := rfl
@[simp] theorem setSup_kv (s : State) (f : Supply → Supply) : (setSup s f).kv = s.kv := rfl
@[simp] theorem setSup_smovers (s : State) (f : Supply → Supply) : (setSup s f).smovers = s.smovers := rfl
@[simp] theorem setSup_hmovers (s : State) (f : Supply → Supply) : (setSup s f).hmovers = s.hmovers := rfl
@[simp] theorem setSup_mboxes (s : State) (f : Supply → Supply) : (setSup s f).mboxes = s.mboxes := rfl
@[simp] theorem setSup_gports (s : State) (f : Supply → Supply) : (setSup s f).gports = s.gports := rfl
@[simp] theorem setSup_zl (s : State) (f : Supply → Supply) : (setSup s f).zl = s.zl := rfl
@[simp] theorem setSup_th (s : State) (f : Supply → Supply) : (setSup s f).th = s.th := rfl
@[simp] theorem setSup_sup (s : State) (f : Supply → Supply) : (setSup s f).sup = f s.sup := rfl
@[simp] theorem setSup_plate (s : State) (f : Supply → Supply) : (setSup s f).plate = s.plate := rfl
@[simp] theorem setSup_shape (s : State) (f : Supply → Supply) : (setSup s f).shape = s.shape := rfl
@[simp] theorem setSup_fw (s : State) (f : Supply → Supply) : (setSup s f).fw = s.fw := rfl
@[simp] theorem setSup_pins (s : State) (f : Supply → Supply) : (setSup s f).pins = s.pins := rfl
@[simp] theorem setSup_outs (s : State) (f : Supply → Supply) : (setSup s f).outs = s.outs := rfl

/-! ### setPlate -/

@[simp] theorem setPlate_now (s : State) (f : Plate → Plate) : (setPlate s f).now = s.now := rfl
@[simp] theorem setPlate_pending (s : State) (f : Plate → Plate) : (setPlate s f).pending = s.pending := rfl
@[simp] theorem setPlate_freeCtr (s : State) (f : Plate → Plate) : (setPlate s f).freeCtr = s.freeCtr := rfl
@[simp] theorem setPlate_power (s : State) (f : Plate → Plate) : (setPlate s f).power = s.power := rfl
@[simp] theorem setPlate_mem (s : State) (f : Plate → Plate) : (setPlate s f).mem = s.mem := rfl
@[simp] theorem setPlate_synd (s : State) (f : Plate → Plate) : (setPlate s f).synd = s.synd := rfl
@[simp] theorem setPlate_writeBacks (s : State) (f : Plate → Plate) : (setPlate s f).writeBacks = s.writeBacks := rfl
@[simp] theorem setPlate_ctrlWords (s : State) (f : Plate → Plate) : (setPlate s f).ctrlWords = s.ctrlWords := rfl
@[simp] theorem setPlate_regs (s : State) (f : Plate → Plate) : (setPlate s f).regs = s.regs := rfl
@[simp] theorem setPlate_regCc (s : State) (f : Plate → Plate) : (setPlate s f).regCc = s.regCc := rfl
@[simp] theorem setPlate_heldEnable (s : State) (f : Plate → Plate) : (setPlate s f).heldEnable = s.heldEnable := rfl
@[simp] theorem setPlate_ft (s : State) (f : Plate → Plate) : (setPlate s f).ft = s.ft := rfl
@[simp] theorem setPlate_prog (s : State) (f : Plate → Plate) : (setPlate s f).prog = s.prog := rfl
@[simp] theorem setPlate_mcores (s : State) (f : Plate → Plate) : (setPlate s f).mcores = s.mcores := rfl
@[simp] theorem setPlate_vcores (s : State) (f : Plate → Plate) : (setPlate s f).vcores = s.vcores := rfl
@[simp] theorem setPlate_cols (s : State) (f : Plate → Plate) : (setPlate s f).cols = s.cols := rfl
@[simp] theorem setPlate_slm (s : State) (f : Plate → Plate) : (setPlate s f).slm = s.slm := rfl
@[simp] theorem setPlate_routers (s : State) (f : Plate → Plate) : (setPlate s f).routers = s.routers := rfl
@[simp] theorem setPlate_flights (s : State) (f : Plate → Plate) : (setPlate s f).flights = s.flights := rfl
@[simp] theorem setPlate_packets (s : State) (f : Plate → Plate) : (setPlate s f).packets = s.packets := rfl
@[simp] theorem setPlate_nextPacket (s : State) (f : Plate → Plate) : (setPlate s f).nextPacket = s.nextPacket := rfl
@[simp] theorem setPlate_coreReqs (s : State) (f : Plate → Plate) : (setPlate s f).coreReqs = s.coreReqs := rfl
@[simp] theorem setPlate_d2d (s : State) (f : Plate → Plate) : (setPlate s f).d2d = s.d2d := rfl
@[simp] theorem setPlate_chord (s : State) (f : Plate → Plate) : (setPlate s f).chord = s.chord := rfl
@[simp] theorem setPlate_kv (s : State) (f : Plate → Plate) : (setPlate s f).kv = s.kv := rfl
@[simp] theorem setPlate_smovers (s : State) (f : Plate → Plate) : (setPlate s f).smovers = s.smovers := rfl
@[simp] theorem setPlate_hmovers (s : State) (f : Plate → Plate) : (setPlate s f).hmovers = s.hmovers := rfl
@[simp] theorem setPlate_mboxes (s : State) (f : Plate → Plate) : (setPlate s f).mboxes = s.mboxes := rfl
@[simp] theorem setPlate_gports (s : State) (f : Plate → Plate) : (setPlate s f).gports = s.gports := rfl
@[simp] theorem setPlate_zl (s : State) (f : Plate → Plate) : (setPlate s f).zl = s.zl := rfl
@[simp] theorem setPlate_th (s : State) (f : Plate → Plate) : (setPlate s f).th = s.th := rfl
@[simp] theorem setPlate_sup (s : State) (f : Plate → Plate) : (setPlate s f).sup = s.sup := rfl
@[simp] theorem setPlate_plate (s : State) (f : Plate → Plate) : (setPlate s f).plate = f s.plate := rfl
@[simp] theorem setPlate_shape (s : State) (f : Plate → Plate) : (setPlate s f).shape = s.shape := rfl
@[simp] theorem setPlate_fw (s : State) (f : Plate → Plate) : (setPlate s f).fw = s.fw := rfl
@[simp] theorem setPlate_pins (s : State) (f : Plate → Plate) : (setPlate s f).pins = s.pins := rfl
@[simp] theorem setPlate_outs (s : State) (f : Plate → Plate) : (setPlate s f).outs = s.outs := rfl

/-! ### setShape -/

@[simp] theorem setShape_now (s : State) (f : Shape → Shape) : (setShape s f).now = s.now := rfl
@[simp] theorem setShape_pending (s : State) (f : Shape → Shape) : (setShape s f).pending = s.pending := rfl
@[simp] theorem setShape_freeCtr (s : State) (f : Shape → Shape) : (setShape s f).freeCtr = s.freeCtr := rfl
@[simp] theorem setShape_power (s : State) (f : Shape → Shape) : (setShape s f).power = s.power := rfl
@[simp] theorem setShape_mem (s : State) (f : Shape → Shape) : (setShape s f).mem = s.mem := rfl
@[simp] theorem setShape_synd (s : State) (f : Shape → Shape) : (setShape s f).synd = s.synd := rfl
@[simp] theorem setShape_writeBacks (s : State) (f : Shape → Shape) : (setShape s f).writeBacks = s.writeBacks := rfl
@[simp] theorem setShape_ctrlWords (s : State) (f : Shape → Shape) : (setShape s f).ctrlWords = s.ctrlWords := rfl
@[simp] theorem setShape_regs (s : State) (f : Shape → Shape) : (setShape s f).regs = s.regs := rfl
@[simp] theorem setShape_regCc (s : State) (f : Shape → Shape) : (setShape s f).regCc = s.regCc := rfl
@[simp] theorem setShape_heldEnable (s : State) (f : Shape → Shape) : (setShape s f).heldEnable = s.heldEnable := rfl
@[simp] theorem setShape_ft (s : State) (f : Shape → Shape) : (setShape s f).ft = s.ft := rfl
@[simp] theorem setShape_prog (s : State) (f : Shape → Shape) : (setShape s f).prog = s.prog := rfl
@[simp] theorem setShape_mcores (s : State) (f : Shape → Shape) : (setShape s f).mcores = s.mcores := rfl
@[simp] theorem setShape_vcores (s : State) (f : Shape → Shape) : (setShape s f).vcores = s.vcores := rfl
@[simp] theorem setShape_cols (s : State) (f : Shape → Shape) : (setShape s f).cols = s.cols := rfl
@[simp] theorem setShape_slm (s : State) (f : Shape → Shape) : (setShape s f).slm = s.slm := rfl
@[simp] theorem setShape_routers (s : State) (f : Shape → Shape) : (setShape s f).routers = s.routers := rfl
@[simp] theorem setShape_flights (s : State) (f : Shape → Shape) : (setShape s f).flights = s.flights := rfl
@[simp] theorem setShape_packets (s : State) (f : Shape → Shape) : (setShape s f).packets = s.packets := rfl
@[simp] theorem setShape_nextPacket (s : State) (f : Shape → Shape) : (setShape s f).nextPacket = s.nextPacket := rfl
@[simp] theorem setShape_coreReqs (s : State) (f : Shape → Shape) : (setShape s f).coreReqs = s.coreReqs := rfl
@[simp] theorem setShape_d2d (s : State) (f : Shape → Shape) : (setShape s f).d2d = s.d2d := rfl
@[simp] theorem setShape_chord (s : State) (f : Shape → Shape) : (setShape s f).chord = s.chord := rfl
@[simp] theorem setShape_kv (s : State) (f : Shape → Shape) : (setShape s f).kv = s.kv := rfl
@[simp] theorem setShape_smovers (s : State) (f : Shape → Shape) : (setShape s f).smovers = s.smovers := rfl
@[simp] theorem setShape_hmovers (s : State) (f : Shape → Shape) : (setShape s f).hmovers = s.hmovers := rfl
@[simp] theorem setShape_mboxes (s : State) (f : Shape → Shape) : (setShape s f).mboxes = s.mboxes := rfl
@[simp] theorem setShape_gports (s : State) (f : Shape → Shape) : (setShape s f).gports = s.gports := rfl
@[simp] theorem setShape_zl (s : State) (f : Shape → Shape) : (setShape s f).zl = s.zl := rfl
@[simp] theorem setShape_th (s : State) (f : Shape → Shape) : (setShape s f).th = s.th := rfl
@[simp] theorem setShape_sup (s : State) (f : Shape → Shape) : (setShape s f).sup = s.sup := rfl
@[simp] theorem setShape_plate (s : State) (f : Shape → Shape) : (setShape s f).plate = s.plate := rfl
@[simp] theorem setShape_shape (s : State) (f : Shape → Shape) : (setShape s f).shape = f s.shape := rfl
@[simp] theorem setShape_fw (s : State) (f : Shape → Shape) : (setShape s f).fw = s.fw := rfl
@[simp] theorem setShape_pins (s : State) (f : Shape → Shape) : (setShape s f).pins = s.pins := rfl
@[simp] theorem setShape_outs (s : State) (f : Shape → Shape) : (setShape s f).outs = s.outs := rfl

/-! ### setFw -/

@[simp] theorem setFw_now (s : State) (f : Firmware → Firmware) : (setFw s f).now = s.now := rfl
@[simp] theorem setFw_pending (s : State) (f : Firmware → Firmware) : (setFw s f).pending = s.pending := rfl
@[simp] theorem setFw_freeCtr (s : State) (f : Firmware → Firmware) : (setFw s f).freeCtr = s.freeCtr := rfl
@[simp] theorem setFw_power (s : State) (f : Firmware → Firmware) : (setFw s f).power = s.power := rfl
@[simp] theorem setFw_mem (s : State) (f : Firmware → Firmware) : (setFw s f).mem = s.mem := rfl
@[simp] theorem setFw_synd (s : State) (f : Firmware → Firmware) : (setFw s f).synd = s.synd := rfl
@[simp] theorem setFw_writeBacks (s : State) (f : Firmware → Firmware) : (setFw s f).writeBacks = s.writeBacks := rfl
@[simp] theorem setFw_ctrlWords (s : State) (f : Firmware → Firmware) : (setFw s f).ctrlWords = s.ctrlWords := rfl
@[simp] theorem setFw_regs (s : State) (f : Firmware → Firmware) : (setFw s f).regs = s.regs := rfl
@[simp] theorem setFw_regCc (s : State) (f : Firmware → Firmware) : (setFw s f).regCc = s.regCc := rfl
@[simp] theorem setFw_heldEnable (s : State) (f : Firmware → Firmware) : (setFw s f).heldEnable = s.heldEnable := rfl
@[simp] theorem setFw_ft (s : State) (f : Firmware → Firmware) : (setFw s f).ft = s.ft := rfl
@[simp] theorem setFw_prog (s : State) (f : Firmware → Firmware) : (setFw s f).prog = s.prog := rfl
@[simp] theorem setFw_mcores (s : State) (f : Firmware → Firmware) : (setFw s f).mcores = s.mcores := rfl
@[simp] theorem setFw_vcores (s : State) (f : Firmware → Firmware) : (setFw s f).vcores = s.vcores := rfl
@[simp] theorem setFw_cols (s : State) (f : Firmware → Firmware) : (setFw s f).cols = s.cols := rfl
@[simp] theorem setFw_slm (s : State) (f : Firmware → Firmware) : (setFw s f).slm = s.slm := rfl
@[simp] theorem setFw_routers (s : State) (f : Firmware → Firmware) : (setFw s f).routers = s.routers := rfl
@[simp] theorem setFw_flights (s : State) (f : Firmware → Firmware) : (setFw s f).flights = s.flights := rfl
@[simp] theorem setFw_packets (s : State) (f : Firmware → Firmware) : (setFw s f).packets = s.packets := rfl
@[simp] theorem setFw_nextPacket (s : State) (f : Firmware → Firmware) : (setFw s f).nextPacket = s.nextPacket := rfl
@[simp] theorem setFw_coreReqs (s : State) (f : Firmware → Firmware) : (setFw s f).coreReqs = s.coreReqs := rfl
@[simp] theorem setFw_d2d (s : State) (f : Firmware → Firmware) : (setFw s f).d2d = s.d2d := rfl
@[simp] theorem setFw_chord (s : State) (f : Firmware → Firmware) : (setFw s f).chord = s.chord := rfl
@[simp] theorem setFw_kv (s : State) (f : Firmware → Firmware) : (setFw s f).kv = s.kv := rfl
@[simp] theorem setFw_smovers (s : State) (f : Firmware → Firmware) : (setFw s f).smovers = s.smovers := rfl
@[simp] theorem setFw_hmovers (s : State) (f : Firmware → Firmware) : (setFw s f).hmovers = s.hmovers := rfl
@[simp] theorem setFw_mboxes (s : State) (f : Firmware → Firmware) : (setFw s f).mboxes = s.mboxes := rfl
@[simp] theorem setFw_gports (s : State) (f : Firmware → Firmware) : (setFw s f).gports = s.gports := rfl
@[simp] theorem setFw_zl (s : State) (f : Firmware → Firmware) : (setFw s f).zl = s.zl := rfl
@[simp] theorem setFw_th (s : State) (f : Firmware → Firmware) : (setFw s f).th = s.th := rfl
@[simp] theorem setFw_sup (s : State) (f : Firmware → Firmware) : (setFw s f).sup = s.sup := rfl
@[simp] theorem setFw_plate (s : State) (f : Firmware → Firmware) : (setFw s f).plate = s.plate := rfl
@[simp] theorem setFw_shape (s : State) (f : Firmware → Firmware) : (setFw s f).shape = s.shape := rfl
@[simp] theorem setFw_fw (s : State) (f : Firmware → Firmware) : (setFw s f).fw = f s.fw := rfl
@[simp] theorem setFw_pins (s : State) (f : Firmware → Firmware) : (setFw s f).pins = s.pins := rfl
@[simp] theorem setFw_outs (s : State) (f : Firmware → Firmware) : (setFw s f).outs = s.outs := rfl

/-! ### setPins -/

@[simp] theorem setPins_now (s : State) (f : Pins → Pins) : (setPins s f).now = s.now := rfl
@[simp] theorem setPins_pending (s : State) (f : Pins → Pins) : (setPins s f).pending = s.pending := rfl
@[simp] theorem setPins_freeCtr (s : State) (f : Pins → Pins) : (setPins s f).freeCtr = s.freeCtr := rfl
@[simp] theorem setPins_power (s : State) (f : Pins → Pins) : (setPins s f).power = s.power := rfl
@[simp] theorem setPins_mem (s : State) (f : Pins → Pins) : (setPins s f).mem = s.mem := rfl
@[simp] theorem setPins_synd (s : State) (f : Pins → Pins) : (setPins s f).synd = s.synd := rfl
@[simp] theorem setPins_writeBacks (s : State) (f : Pins → Pins) : (setPins s f).writeBacks = s.writeBacks := rfl
@[simp] theorem setPins_ctrlWords (s : State) (f : Pins → Pins) : (setPins s f).ctrlWords = s.ctrlWords := rfl
@[simp] theorem setPins_regs (s : State) (f : Pins → Pins) : (setPins s f).regs = s.regs := rfl
@[simp] theorem setPins_regCc (s : State) (f : Pins → Pins) : (setPins s f).regCc = s.regCc := rfl
@[simp] theorem setPins_heldEnable (s : State) (f : Pins → Pins) : (setPins s f).heldEnable = s.heldEnable := rfl
@[simp] theorem setPins_ft (s : State) (f : Pins → Pins) : (setPins s f).ft = s.ft := rfl
@[simp] theorem setPins_prog (s : State) (f : Pins → Pins) : (setPins s f).prog = s.prog := rfl
@[simp] theorem setPins_mcores (s : State) (f : Pins → Pins) : (setPins s f).mcores = s.mcores := rfl
@[simp] theorem setPins_vcores (s : State) (f : Pins → Pins) : (setPins s f).vcores = s.vcores := rfl
@[simp] theorem setPins_cols (s : State) (f : Pins → Pins) : (setPins s f).cols = s.cols := rfl
@[simp] theorem setPins_slm (s : State) (f : Pins → Pins) : (setPins s f).slm = s.slm := rfl
@[simp] theorem setPins_routers (s : State) (f : Pins → Pins) : (setPins s f).routers = s.routers := rfl
@[simp] theorem setPins_flights (s : State) (f : Pins → Pins) : (setPins s f).flights = s.flights := rfl
@[simp] theorem setPins_packets (s : State) (f : Pins → Pins) : (setPins s f).packets = s.packets := rfl
@[simp] theorem setPins_nextPacket (s : State) (f : Pins → Pins) : (setPins s f).nextPacket = s.nextPacket := rfl
@[simp] theorem setPins_coreReqs (s : State) (f : Pins → Pins) : (setPins s f).coreReqs = s.coreReqs := rfl
@[simp] theorem setPins_d2d (s : State) (f : Pins → Pins) : (setPins s f).d2d = s.d2d := rfl
@[simp] theorem setPins_chord (s : State) (f : Pins → Pins) : (setPins s f).chord = s.chord := rfl
@[simp] theorem setPins_kv (s : State) (f : Pins → Pins) : (setPins s f).kv = s.kv := rfl
@[simp] theorem setPins_smovers (s : State) (f : Pins → Pins) : (setPins s f).smovers = s.smovers := rfl
@[simp] theorem setPins_hmovers (s : State) (f : Pins → Pins) : (setPins s f).hmovers = s.hmovers := rfl
@[simp] theorem setPins_mboxes (s : State) (f : Pins → Pins) : (setPins s f).mboxes = s.mboxes := rfl
@[simp] theorem setPins_gports (s : State) (f : Pins → Pins) : (setPins s f).gports = s.gports := rfl
@[simp] theorem setPins_zl (s : State) (f : Pins → Pins) : (setPins s f).zl = s.zl := rfl
@[simp] theorem setPins_th (s : State) (f : Pins → Pins) : (setPins s f).th = s.th := rfl
@[simp] theorem setPins_sup (s : State) (f : Pins → Pins) : (setPins s f).sup = s.sup := rfl
@[simp] theorem setPins_plate (s : State) (f : Pins → Pins) : (setPins s f).plate = s.plate := rfl
@[simp] theorem setPins_shape (s : State) (f : Pins → Pins) : (setPins s f).shape = s.shape := rfl
@[simp] theorem setPins_fw (s : State) (f : Pins → Pins) : (setPins s f).fw = s.fw := rfl
@[simp] theorem setPins_pins (s : State) (f : Pins → Pins) : (setPins s f).pins = f s.pins := rfl
@[simp] theorem setPins_outs (s : State) (f : Pins → Pins) : (setPins s f).outs = s.outs := rfl

/-! ### setFt -/

@[simp] theorem setFt_now (s : State) (f : FTimer → FTimer) : (setFt s f).now = s.now := rfl
@[simp] theorem setFt_pending (s : State) (f : FTimer → FTimer) : (setFt s f).pending = s.pending := rfl
@[simp] theorem setFt_freeCtr (s : State) (f : FTimer → FTimer) : (setFt s f).freeCtr = s.freeCtr := rfl
@[simp] theorem setFt_power (s : State) (f : FTimer → FTimer) : (setFt s f).power = s.power := rfl
@[simp] theorem setFt_mem (s : State) (f : FTimer → FTimer) : (setFt s f).mem = s.mem := rfl
@[simp] theorem setFt_synd (s : State) (f : FTimer → FTimer) : (setFt s f).synd = s.synd := rfl
@[simp] theorem setFt_writeBacks (s : State) (f : FTimer → FTimer) : (setFt s f).writeBacks = s.writeBacks := rfl
@[simp] theorem setFt_ctrlWords (s : State) (f : FTimer → FTimer) : (setFt s f).ctrlWords = s.ctrlWords := rfl
@[simp] theorem setFt_regs (s : State) (f : FTimer → FTimer) : (setFt s f).regs = s.regs := rfl
@[simp] theorem setFt_regCc (s : State) (f : FTimer → FTimer) : (setFt s f).regCc = s.regCc := rfl
@[simp] theorem setFt_heldEnable (s : State) (f : FTimer → FTimer) : (setFt s f).heldEnable = s.heldEnable := rfl
@[simp] theorem setFt_ft (s : State) (f : FTimer → FTimer) : (setFt s f).ft = f s.ft := rfl
@[simp] theorem setFt_prog (s : State) (f : FTimer → FTimer) : (setFt s f).prog = s.prog := rfl
@[simp] theorem setFt_mcores (s : State) (f : FTimer → FTimer) : (setFt s f).mcores = s.mcores := rfl
@[simp] theorem setFt_vcores (s : State) (f : FTimer → FTimer) : (setFt s f).vcores = s.vcores := rfl
@[simp] theorem setFt_cols (s : State) (f : FTimer → FTimer) : (setFt s f).cols = s.cols := rfl
@[simp] theorem setFt_slm (s : State) (f : FTimer → FTimer) : (setFt s f).slm = s.slm := rfl
@[simp] theorem setFt_routers (s : State) (f : FTimer → FTimer) : (setFt s f).routers = s.routers := rfl
@[simp] theorem setFt_flights (s : State) (f : FTimer → FTimer) : (setFt s f).flights = s.flights := rfl
@[simp] theorem setFt_packets (s : State) (f : FTimer → FTimer) : (setFt s f).packets = s.packets := rfl
@[simp] theorem setFt_nextPacket (s : State) (f : FTimer → FTimer) : (setFt s f).nextPacket = s.nextPacket := rfl
@[simp] theorem setFt_coreReqs (s : State) (f : FTimer → FTimer) : (setFt s f).coreReqs = s.coreReqs := rfl
@[simp] theorem setFt_d2d (s : State) (f : FTimer → FTimer) : (setFt s f).d2d = s.d2d := rfl
@[simp] theorem setFt_chord (s : State) (f : FTimer → FTimer) : (setFt s f).chord = s.chord := rfl
@[simp] theorem setFt_kv (s : State) (f : FTimer → FTimer) : (setFt s f).kv = s.kv := rfl
@[simp] theorem setFt_smovers (s : State) (f : FTimer → FTimer) : (setFt s f).smovers = s.smovers := rfl
@[simp] theorem setFt_hmovers (s : State) (f : FTimer → FTimer) : (setFt s f).hmovers = s.hmovers := rfl
@[simp] theorem setFt_mboxes (s : State) (f : FTimer → FTimer) : (setFt s f).mboxes = s.mboxes := rfl
@[simp] theorem setFt_gports (s : State) (f : FTimer → FTimer) : (setFt s f).gports = s.gports := rfl
@[simp] theorem setFt_zl (s : State) (f : FTimer → FTimer) : (setFt s f).zl = s.zl := rfl
@[simp] theorem setFt_th (s : State) (f : FTimer → FTimer) : (setFt s f).th = s.th := rfl
@[simp] theorem setFt_sup (s : State) (f : FTimer → FTimer) : (setFt s f).sup = s.sup := rfl
@[simp] theorem setFt_plate (s : State) (f : FTimer → FTimer) : (setFt s f).plate = s.plate := rfl
@[simp] theorem setFt_shape (s : State) (f : FTimer → FTimer) : (setFt s f).shape = s.shape := rfl
@[simp] theorem setFt_fw (s : State) (f : FTimer → FTimer) : (setFt s f).fw = s.fw := rfl
@[simp] theorem setFt_pins (s : State) (f : FTimer → FTimer) : (setFt s f).pins = s.pins := rfl
@[simp] theorem setFt_outs (s : State) (f : FTimer → FTimer) : (setFt s f).outs = s.outs := rfl

/-! ### setChord -/

@[simp] theorem setChord_now (s : State) (f : Chord → Chord) : (setChord s f).now = s.now := rfl
@[simp] theorem setChord_pending (s : State) (f : Chord → Chord) : (setChord s f).pending = s.pending := rfl
@[simp] theorem setChord_freeCtr (s : State) (f : Chord → Chord) : (setChord s f).freeCtr = s.freeCtr := rfl
@[simp] theorem setChord_power (s : State) (f : Chord → Chord) : (setChord s f).power = s.power := rfl
@[simp] theorem setChord_mem (s : State) (f : Chord → Chord) : (setChord s f).mem = s.mem := rfl
@[simp] theorem setChord_synd (s : State) (f : Chord → Chord) : (setChord s f).synd = s.synd := rfl
@[simp] theorem setChord_writeBacks (s : State) (f : Chord → Chord) : (setChord s f).writeBacks = s.writeBacks := rfl
@[simp] theorem setChord_ctrlWords (s : State) (f : Chord → Chord) : (setChord s f).ctrlWords = s.ctrlWords := rfl
@[simp] theorem setChord_regs (s : State) (f : Chord → Chord) : (setChord s f).regs = s.regs := rfl
@[simp] theorem setChord_regCc (s : State) (f : Chord → Chord) : (setChord s f).regCc = s.regCc := rfl
@[simp] theorem setChord_heldEnable (s : State) (f : Chord → Chord) : (setChord s f).heldEnable = s.heldEnable := rfl
@[simp] theorem setChord_ft (s : State) (f : Chord → Chord) : (setChord s f).ft = s.ft := rfl
@[simp] theorem setChord_prog (s : State) (f : Chord → Chord) : (setChord s f).prog = s.prog := rfl
@[simp] theorem setChord_mcores (s : State) (f : Chord → Chord) : (setChord s f).mcores = s.mcores := rfl
@[simp] theorem setChord_vcores (s : State) (f : Chord → Chord) : (setChord s f).vcores = s.vcores := rfl
@[simp] theorem setChord_cols (s : State) (f : Chord → Chord) : (setChord s f).cols = s.cols := rfl
@[simp] theorem setChord_slm (s : State) (f : Chord → Chord) : (setChord s f).slm = s.slm := rfl
@[simp] theorem setChord_routers (s : State) (f : Chord → Chord) : (setChord s f).routers = s.routers := rfl
@[simp] theorem setChord_flights (s : State) (f : Chord → Chord) : (setChord s f).flights = s.flights := rfl
@[simp] theorem setChord_packets (s : State) (f : Chord → Chord) : (setChord s f).packets = s.packets := rfl
@[simp] theorem setChord_nextPacket (s : State) (f : Chord → Chord) : (setChord s f).nextPacket = s.nextPacket := rfl
@[simp] theorem setChord_coreReqs (s : State) (f : Chord → Chord) : (setChord s f).coreReqs = s.coreReqs := rfl
@[simp] theorem setChord_d2d (s : State) (f : Chord → Chord) : (setChord s f).d2d = s.d2d := rfl
@[simp] theorem setChord_chord (s : State) (f : Chord → Chord) : (setChord s f).chord = f s.chord := rfl
@[simp] theorem setChord_kv (s : State) (f : Chord → Chord) : (setChord s f).kv = s.kv := rfl
@[simp] theorem setChord_smovers (s : State) (f : Chord → Chord) : (setChord s f).smovers = s.smovers := rfl
@[simp] theorem setChord_hmovers (s : State) (f : Chord → Chord) : (setChord s f).hmovers = s.hmovers := rfl
@[simp] theorem setChord_mboxes (s : State) (f : Chord → Chord) : (setChord s f).mboxes = s.mboxes := rfl
@[simp] theorem setChord_gports (s : State) (f : Chord → Chord) : (setChord s f).gports = s.gports := rfl
@[simp] theorem setChord_zl (s : State) (f : Chord → Chord) : (setChord s f).zl = s.zl := rfl
@[simp] theorem setChord_th (s : State) (f : Chord → Chord) : (setChord s f).th = s.th := rfl
@[simp] theorem setChord_sup (s : State) (f : Chord → Chord) : (setChord s f).sup = s.sup := rfl
@[simp] theorem setChord_plate (s : State) (f : Chord → Chord) : (setChord s f).plate = s.plate := rfl
@[simp] theorem setChord_shape (s : State) (f : Chord → Chord) : (setChord s f).shape = s.shape := rfl
@[simp] theorem setChord_fw (s : State) (f : Chord → Chord) : (setChord s f).fw = s.fw := rfl
@[simp] theorem setChord_pins (s : State) (f : Chord → Chord) : (setChord s f).pins = s.pins := rfl
@[simp] theorem setChord_outs (s : State) (f : Chord → Chord) : (setChord s f).outs = s.outs := rfl

/-! ### addOut -/

@[simp] theorem addOut_now (s : State) (x : Out) : (addOut s x).now = s.now := rfl
@[simp] theorem addOut_pending (s : State) (x : Out) : (addOut s x).pending = s.pending := rfl
@[simp] theorem addOut_freeCtr (s : State) (x : Out) : (addOut s x).freeCtr = s.freeCtr := rfl
@[simp] theorem addOut_power (s : State) (x : Out) : (addOut s x).power = s.power := rfl
@[simp] theorem addOut_mem (s : State) (x : Out) : (addOut s x).mem = s.mem := rfl
@[simp] theorem addOut_synd (s : State) (x : Out) : (addOut s x).synd = s.synd := rfl
@[simp] theorem addOut_writeBacks (s : State) (x : Out) : (addOut s x).writeBacks = s.writeBacks := rfl
@[simp] theorem addOut_ctrlWords (s : State) (x : Out) : (addOut s x).ctrlWords = s.ctrlWords := rfl
@[simp] theorem addOut_regs (s : State) (x : Out) : (addOut s x).regs = s.regs := rfl
@[simp] theorem addOut_regCc (s : State) (x : Out) : (addOut s x).regCc = s.regCc := rfl
@[simp] theorem addOut_heldEnable (s : State) (x : Out) : (addOut s x).heldEnable = s.heldEnable := rfl
@[simp] theorem addOut_ft (s : State) (x : Out) : (addOut s x).ft = s.ft := rfl
@[simp] theorem addOut_prog (s : State) (x : Out) : (addOut s x).prog = s.prog := rfl
@[simp] theorem addOut_mcores (s : State) (x : Out) : (addOut s x).mcores = s.mcores := rfl
@[simp] theorem addOut_vcores (s : State) (x : Out) : (addOut s x).vcores = s.vcores := rfl
@[simp] theorem addOut_cols (s : State) (x : Out) : (addOut s x).cols = s.cols := rfl
@[simp] theorem addOut_slm (s : State) (x : Out) : (addOut s x).slm = s.slm := rfl
@[simp] theorem addOut_routers (s : State) (x : Out) : (addOut s x).routers = s.routers := rfl
@[simp] theorem addOut_flights (s : State) (x : Out) : (addOut s x).flights = s.flights := rfl
@[simp] theorem addOut_packets (s : State) (x : Out) : (addOut s x).packets = s.packets := rfl
@[simp] theorem addOut_nextPacket (s : State) (x : Out) : (addOut s x).nextPacket = s.nextPacket := rfl
@[simp] theorem addOut_coreReqs (s : State) (x : Out) : (addOut s x).coreReqs = s.coreReqs := rfl
@[simp] theorem addOut_d2d (s : State) (x : Out) : (addOut s x).d2d = s.d2d := rfl
@[simp] theorem addOut_chord (s : State) (x : Out) : (addOut s x).chord = s.chord := rfl
@[simp] theorem addOut_kv (s : State) (x : Out) : (addOut s x).kv = s.kv := rfl
@[simp] theorem addOut_smovers (s : State) (x : Out) : (addOut s x).smovers = s.smovers := rfl
@[simp] theorem addOut_hmovers (s : State) (x : Out) : (addOut s x).hmovers = s.hmovers := rfl
@[simp] theorem addOut_mboxes (s : State) (x : Out) : (addOut s x).mboxes = s.mboxes := rfl
@[simp] theorem addOut_gports (s : State) (x : Out) : (addOut s x).gports = s.gports := rfl
@[simp] theorem addOut_zl (s : State) (x : Out) : (addOut s x).zl = s.zl := rfl
@[simp] theorem addOut_th (s : State) (x : Out) : (addOut s x).th = s.th := rfl
@[simp] theorem addOut_sup (s : State) (x : Out) : (addOut s x).sup = s.sup := rfl
@[simp] theorem addOut_plate (s : State) (x : Out) : (addOut s x).plate = s.plate := rfl
@[simp] theorem addOut_shape (s : State) (x : Out) : (addOut s x).shape = s.shape := rfl
@[simp] theorem addOut_fw (s : State) (x : Out) : (addOut s x).fw = s.fw := rfl
@[simp] theorem addOut_pins (s : State) (x : Out) : (addOut s x).pins = s.pins := rfl
@[simp] theorem addOut_outs (s : State) (x : Out) : (addOut s x).outs = s.outs ++ [x] := rfl

/-! ### setReg -/

@[simp] theorem setReg_now (s : State) (b o v : Nat) : (setReg s b o v).now = s.now := rfl
@[simp] theorem setReg_pending (s : State) (b o v : Nat) : (setReg s b o v).pending = s.pending := rfl
@[simp] theorem setReg_freeCtr (s : State) (b o v : Nat) : (setReg s b o v).freeCtr = s.freeCtr := rfl
@[simp] theorem setReg_power (s : State) (b o v : Nat) : (setReg s b o v).power = s.power := rfl
@[simp] theorem setReg_mem (s : State) (b o v : Nat) : (setReg s b o v).mem = s.mem := rfl
@[simp] theorem setReg_synd (s : State) (b o v : Nat) : (setReg s b o v).synd = s.synd := rfl
@[simp] theorem setReg_writeBacks (s : State) (b o v : Nat) : (setReg s b o v).writeBacks = s.writeBacks := rfl
@[simp] theorem setReg_ctrlWords (s : State) (b o v : Nat) : (setReg s b o v).ctrlWords = s.ctrlWords := rfl
@[simp] theorem setReg_regCc (s : State) (b o v : Nat) : (setReg s b o v).regCc = s.regCc := rfl
@[simp] theorem setReg_heldEnable (s : State) (b o v : Nat) : (setReg s b o v).heldEnable = s.heldEnable := rfl
@[simp] theorem setReg_ft (s : State) (b o v : Nat) : (setReg s b o v).ft = s.ft := rfl
@[simp] theorem setReg_prog (s : State) (b o v : Nat) : (setReg s b o v).prog = s.prog := rfl
@[simp] theorem setReg_mcores (s : State) (b o v : Nat) : (setReg s b o v).mcores = s.mcores := rfl
@[simp] theorem setReg_vcores (s : State) (b o v : Nat) : (setReg s b o v).vcores = s.vcores := rfl
@[simp] theorem setReg_cols (s : State) (b o v : Nat) : (setReg s b o v).cols = s.cols := rfl
@[simp] theorem setReg_slm (s : State) (b o v : Nat) : (setReg s b o v).slm = s.slm := rfl
@[simp] theorem setReg_routers (s : State) (b o v : Nat) : (setReg s b o v).routers = s.routers := rfl
@[simp] theorem setReg_flights (s : State) (b o v : Nat) : (setReg s b o v).flights = s.flights := rfl
@[simp] theorem setReg_packets (s : State) (b o v : Nat) : (setReg s b o v).packets = s.packets := rfl
@[simp] theorem setReg_nextPacket (s : State) (b o v : Nat) : (setReg s b o v).nextPacket = s.nextPacket := rfl
@[simp] theorem setReg_coreReqs (s : State) (b o v : Nat) : (setReg s b o v).coreReqs = s.coreReqs := rfl
@[simp] theorem setReg_d2d (s : State) (b o v : Nat) : (setReg s b o v).d2d = s.d2d := rfl
@[simp] theorem setReg_chord (s : State) (b o v : Nat) : (setReg s b o v).chord = s.chord := rfl
@[simp] theorem setReg_kv (s : State) (b o v : Nat) : (setReg s b o v).kv = s.kv := rfl
@[simp] theorem setReg_smovers (s : State) (b o v : Nat) : (setReg s b o v).smovers = s.smovers := rfl
@[simp] theorem setReg_hmovers (s : State) (b o v : Nat) : (setReg s b o v).hmovers = s.hmovers := rfl
@[simp] theorem setReg_mboxes (s : State) (b o v : Nat) : (setReg s b o v).mboxes = s.mboxes := rfl
@[simp] theorem setReg_gports (s : State) (b o v : Nat) : (setReg s b o v).gports = s.gports := rfl
@[simp] theorem setReg_zl (s : State) (b o v : Nat) : (setReg s b o v).zl = s.zl := rfl
@[simp] theorem setReg_th (s : State) (b o v : Nat) : (setReg s b o v).th = s.th := rfl
@[simp] theorem setReg_sup (s : State) (b o v : Nat) : (setReg s b o v).sup = s.sup := rfl
@[simp] theorem setReg_plate (s : State) (b o v : Nat) : (setReg s b o v).plate = s.plate := rfl
@[simp] theorem setReg_shape (s : State) (b o v : Nat) : (setReg s b o v).shape = s.shape := rfl
@[simp] theorem setReg_fw (s : State) (b o v : Nat) : (setReg s b o v).fw = s.fw := rfl
@[simp] theorem setReg_pins (s : State) (b o v : Nat) : (setReg s b o v).pins = s.pins := rfl
@[simp] theorem setReg_outs (s : State) (b o v : Nat) : (setReg s b o v).outs = s.outs := rfl

/-! ### setRegField -/

@[simp] theorem setRegField_now (s : State) (b o hi lo v : Nat) : (setRegField s b o hi lo v).now = s.now := rfl
@[simp] theorem setRegField_pending (s : State) (b o hi lo v : Nat) : (setRegField s b o hi lo v).pending = s.pending := rfl
@[simp] theorem setRegField_freeCtr (s : State) (b o hi lo v : Nat) : (setRegField s b o hi lo v).freeCtr = s.freeCtr := rfl
@[simp] theorem setRegField_power (s : State) (b o hi lo v : Nat) : (setRegField s b o hi lo v).power = s.power := rfl
@[simp] theorem setRegField_mem (s : State) (b o hi lo v : Nat) : (setRegField s b o hi lo v).mem = s.mem := rfl
@[simp] theorem setRegField_synd (s : State) (b o hi lo v : Nat) : (setRegField s b o hi lo v).synd = s.synd := rfl
@[simp] theorem setRegField_writeBacks (s : State) (b o hi lo v : Nat) : (setRegField s b o hi lo v).writeBacks = s.writeBacks := rfl
@[simp] theorem setRegField_ctrlWords (s : State) (b o hi lo v : Nat) : (setRegField s b o hi lo v).ctrlWords = s.ctrlWords := rfl
@[simp] theorem setRegField_regCc (s : State) (b o hi lo v : Nat) : (setRegField s b o hi lo v).regCc = s.regCc := rfl
@[simp] theorem setRegField_heldEnable (s : State) (b o hi lo v : Nat) : (setRegField s b o hi lo v).heldEnable = s.heldEnable := rfl
@[simp] theorem setRegField_ft (s : State) (b o hi lo v : Nat) : (setRegField s b o hi lo v).ft = s.ft := rfl
@[simp] theorem setRegField_prog (s : State) (b o hi lo v : Nat) : (setRegField s b o hi lo v).prog = s.prog := rfl
@[simp] theorem setRegField_mcores (s : State) (b o hi lo v : Nat) : (setRegField s b o hi lo v).mcores = s.mcores := rfl
@[simp] theorem setRegField_vcores (s : State) (b o hi lo v : Nat) : (setRegField s b o hi lo v).vcores = s.vcores := rfl
@[simp] theorem setRegField_cols (s : State) (b o hi lo v : Nat) : (setRegField s b o hi lo v).cols = s.cols := rfl
@[simp] theorem setRegField_slm (s : State) (b o hi lo v : Nat) : (setRegField s b o hi lo v).slm = s.slm := rfl
@[simp] theorem setRegField_routers (s : State) (b o hi lo v : Nat) : (setRegField s b o hi lo v).routers = s.routers := rfl
@[simp] theorem setRegField_flights (s : State) (b o hi lo v : Nat) : (setRegField s b o hi lo v).flights = s.flights := rfl
@[simp] theorem setRegField_packets (s : State) (b o hi lo v : Nat) : (setRegField s b o hi lo v).packets = s.packets := rfl
@[simp] theorem setRegField_nextPacket (s : State) (b o hi lo v : Nat) : (setRegField s b o hi lo v).nextPacket = s.nextPacket := rfl
@[simp] theorem setRegField_coreReqs (s : State) (b o hi lo v : Nat) : (setRegField s b o hi lo v).coreReqs = s.coreReqs := rfl
@[simp] theorem setRegField_d2d (s : State) (b o hi lo v : Nat) : (setRegField s b o hi lo v).d2d = s.d2d := rfl
@[simp] theorem setRegField_chord (s : State) (b o hi lo v : Nat) : (setRegField s b o hi lo v).chord = s.chord := rfl
@[simp] theorem setRegField_kv (s : State) (b o hi lo v : Nat) : (setRegField s b o hi lo v).kv = s.kv := rfl
@[simp] theorem setRegField_smovers (s : State) (b o hi lo v : Nat) : (setRegField s b o hi lo v).smovers = s.smovers := rfl
@[simp] theorem setRegField_hmovers (s : State) (b o hi lo v : Nat) : (setRegField s b o hi lo v).hmovers = s.hmovers := rfl
@[simp] theorem setRegField_mboxes (s : State) (b o hi lo v : Nat) : (setRegField s b o hi lo v).mboxes = s.mboxes := rfl
@[simp] theorem setRegField_gports (s : State) (b o hi lo v : Nat) : (setRegField s b o hi lo v).gports = s.gports := rfl
@[simp] theorem setRegField_zl (s : State) (b o hi lo v : Nat) : (setRegField s b o hi lo v).zl = s.zl := rfl
@[simp] theorem setRegField_th (s : State) (b o hi lo v : Nat) : (setRegField s b o hi lo v).th = s.th := rfl
@[simp] theorem setRegField_sup (s : State) (b o hi lo v : Nat) : (setRegField s b o hi lo v).sup = s.sup := rfl
@[simp] theorem setRegField_plate (s : State) (b o hi lo v : Nat) : (setRegField s b o hi lo v).plate = s.plate := rfl
@[simp] theorem setRegField_shape (s : State) (b o hi lo v : Nat) : (setRegField s b o hi lo v).shape = s.shape := rfl
@[simp] theorem setRegField_fw (s : State) (b o hi lo v : Nat) : (setRegField s b o hi lo v).fw = s.fw := rfl
@[simp] theorem setRegField_pins (s : State) (b o hi lo v : Nat) : (setRegField s b o hi lo v).pins = s.pins := rfl
@[simp] theorem setRegField_outs (s : State) (b o hi lo v : Nat) : (setRegField s b o hi lo v).outs = s.outs := rfl

/-! ### countField -/

@[simp] theorem countField_now (s : State) (b o hi lo n : Nat) : (countField s b o hi lo n).now = s.now := rfl
@[simp] theorem countField_pending (s : State) (b o hi lo n : Nat) : (countField s b o hi lo n).pending = s.pending := rfl
@[simp] theorem countField_freeCtr (s : State) (b o hi lo n : Nat) : (countField s b o hi lo n).freeCtr = s.freeCtr := rfl
@[simp] theorem countField_power (s : State) (b o hi lo n : Nat) : (countField s b o hi lo n).power = s.power := rfl
@[simp] theorem countField_mem (s : State) (b o hi lo n : Nat) : (countField s b o hi lo n).mem = s.mem := rfl
@[simp] theorem countField_synd (s : State) (b o hi lo n : Nat) : (countField s b o hi lo n).synd = s.synd := rfl
@[simp] theorem countField_writeBacks (s : State) (b o hi lo n : Nat) : (countField s b o hi lo n).writeBacks = s.writeBacks := rfl
@[simp] theorem countField_ctrlWords (s : State) (b o hi lo n : Nat) : (countField s b o hi lo n).ctrlWords = s.ctrlWords := rfl
@[simp] theorem countField_regCc (s : State) (b o hi lo n : Nat) : (countField s b o hi lo n).regCc = s.regCc := rfl
@[simp] theorem countField_heldEnable (s : State) (b o hi lo n : Nat) : (countField s b o hi lo n).heldEnable = s.heldEnable := rfl
@[simp] theorem countField_ft (s : State) (b o hi lo n : Nat) : (countField s b o hi lo n).ft = s.ft := rfl
@[simp] theorem countField_prog (s : State) (b o hi lo n : Nat) : (countField s b o hi lo n).prog = s.prog := rfl
@[simp] theorem countField_mcores (s : State) (b o hi lo n : Nat) : (countField s b o hi lo n).mcores = s.mcores := rfl
@[simp] theorem countField_vcores (s : State) (b o hi lo n : Nat) : (countField s b o hi lo n).vcores = s.vcores := rfl
@[simp] theorem countField_cols (s : State) (b o hi lo n : Nat) : (countField s b o hi lo n).cols = s.cols := rfl
@[simp] theorem countField_slm (s : State) (b o hi lo n : Nat) : (countField s b o hi lo n).slm = s.slm := rfl
@[simp] theorem countField_routers (s : State) (b o hi lo n : Nat) : (countField s b o hi lo n).routers = s.routers := rfl
@[simp] theorem countField_flights (s : State) (b o hi lo n : Nat) : (countField s b o hi lo n).flights = s.flights := rfl
@[simp] theorem countField_packets (s : State) (b o hi lo n : Nat) : (countField s b o hi lo n).packets = s.packets := rfl
@[simp] theorem countField_nextPacket (s : State) (b o hi lo n : Nat) : (countField s b o hi lo n).nextPacket = s.nextPacket := rfl
@[simp] theorem countField_coreReqs (s : State) (b o hi lo n : Nat) : (countField s b o hi lo n).coreReqs = s.coreReqs := rfl
@[simp] theorem countField_d2d (s : State) (b o hi lo n : Nat) : (countField s b o hi lo n).d2d = s.d2d := rfl
@[simp] theorem countField_chord (s : State) (b o hi lo n : Nat) : (countField s b o hi lo n).chord = s.chord := rfl
@[simp] theorem countField_kv (s : State) (b o hi lo n : Nat) : (countField s b o hi lo n).kv = s.kv := rfl
@[simp] theorem countField_smovers (s : State) (b o hi lo n : Nat) : (countField s b o hi lo n).smovers = s.smovers := rfl
@[simp] theorem countField_hmovers (s : State) (b o hi lo n : Nat) : (countField s b o hi lo n).hmovers = s.hmovers := rfl
@[simp] theorem countField_mboxes (s : State) (b o hi lo n : Nat) : (countField s b o hi lo n).mboxes = s.mboxes := rfl
@[simp] theorem countField_gports (s : State) (b o hi lo n : Nat) : (countField s b o hi lo n).gports = s.gports := rfl
@[simp] theorem countField_zl (s : State) (b o hi lo n : Nat) : (countField s b o hi lo n).zl = s.zl := rfl
@[simp] theorem countField_th (s : State) (b o hi lo n : Nat) : (countField s b o hi lo n).th = s.th := rfl
@[simp] theorem countField_sup (s : State) (b o hi lo n : Nat) : (countField s b o hi lo n).sup = s.sup := rfl
@[simp] theorem countField_plate (s : State) (b o hi lo n : Nat) : (countField s b o hi lo n).plate = s.plate := rfl
@[simp] theorem countField_shape (s : State) (b o hi lo n : Nat) : (countField s b o hi lo n).shape = s.shape := rfl
@[simp] theorem countField_fw (s : State) (b o hi lo n : Nat) : (countField s b o hi lo n).fw = s.fw := rfl
@[simp] theorem countField_pins (s : State) (b o hi lo n : Nat) : (countField s b o hi lo n).pins = s.pins := rfl
@[simp] theorem countField_outs (s : State) (b o hi lo n : Nat) : (countField s b o hi lo n).outs = s.outs := rfl

/-! ### setErrBit -/

@[simp] theorem setErrBit_now (s : State) (b i : Nat) : (setErrBit s b i).now = s.now := rfl
@[simp] theorem setErrBit_pending (s : State) (b i : Nat) : (setErrBit s b i).pending = s.pending := rfl
@[simp] theorem setErrBit_freeCtr (s : State) (b i : Nat) : (setErrBit s b i).freeCtr = s.freeCtr := rfl
@[simp] theorem setErrBit_power (s : State) (b i : Nat) : (setErrBit s b i).power = s.power := rfl
@[simp] theorem setErrBit_mem (s : State) (b i : Nat) : (setErrBit s b i).mem = s.mem := rfl
@[simp] theorem setErrBit_synd (s : State) (b i : Nat) : (setErrBit s b i).synd = s.synd := rfl
@[simp] theorem setErrBit_writeBacks (s : State) (b i : Nat) : (setErrBit s b i).writeBacks = s.writeBacks := rfl
@[simp] theorem setErrBit_ctrlWords (s : State) (b i : Nat) : (setErrBit s b i).ctrlWords = s.ctrlWords := rfl
@[simp] theorem setErrBit_heldEnable (s : State) (b i : Nat) : (setErrBit s b i).heldEnable = s.heldEnable := rfl
@[simp] theorem setErrBit_ft (s : State) (b i : Nat) : (setErrBit s b i).ft = s.ft := rfl
@[simp] theorem setErrBit_prog (s : State) (b i : Nat) : (setErrBit s b i).prog = s.prog := rfl
@[simp] theorem setErrBit_mcores (s : State) (b i : Nat) : (setErrBit s b i).mcores = s.mcores := rfl
@[simp] theorem setErrBit_vcores (s : State) (b i : Nat) : (setErrBit s b i).vcores = s.vcores := rfl
@[simp] theorem setErrBit_cols (s : State) (b i : Nat) : (setErrBit s b i).cols = s.cols := rfl
@[simp] theorem setErrBit_slm (s : State) (b i : Nat) : (setErrBit s b i).slm = s.slm := rfl
@[simp] theorem setErrBit_routers (s : State) (b i : Nat) : (setErrBit s b i).routers = s.routers := rfl
@[simp] theorem setErrBit_flights (s : State) (b i : Nat) : (setErrBit s b i).flights = s.flights := rfl
@[simp] theorem setErrBit_packets (s : State) (b i : Nat) : (setErrBit s b i).packets = s.packets := rfl
@[simp] theorem setErrBit_nextPacket (s : State) (b i : Nat) : (setErrBit s b i).nextPacket = s.nextPacket := rfl
@[simp] theorem setErrBit_coreReqs (s : State) (b i : Nat) : (setErrBit s b i).coreReqs = s.coreReqs := rfl
@[simp] theorem setErrBit_d2d (s : State) (b i : Nat) : (setErrBit s b i).d2d = s.d2d := rfl
@[simp] theorem setErrBit_chord (s : State) (b i : Nat) : (setErrBit s b i).chord = s.chord := rfl
@[simp] theorem setErrBit_kv (s : State) (b i : Nat) : (setErrBit s b i).kv = s.kv := rfl
@[simp] theorem setErrBit_smovers (s : State) (b i : Nat) : (setErrBit s b i).smovers = s.smovers := rfl
@[simp] theorem setErrBit_hmovers (s : State) (b i : Nat) : (setErrBit s b i).hmovers = s.hmovers := rfl
@[simp] theorem setErrBit_mboxes (s : State) (b i : Nat) : (setErrBit s b i).mboxes = s.mboxes := rfl
@[simp] theorem setErrBit_gports (s : State) (b i : Nat) : (setErrBit s b i).gports = s.gports := rfl
@[simp] theorem setErrBit_zl (s : State) (b i : Nat) : (setErrBit s b i).zl = s.zl := rfl
@[simp] theorem setErrBit_th (s : State) (b i : Nat) : (setErrBit s b i).th = s.th := rfl
@[simp] theorem setErrBit_sup (s : State) (b i : Nat) : (setErrBit s b i).sup = s.sup := rfl
@[simp] theorem setErrBit_plate (s : State) (b i : Nat) : (setErrBit s b i).plate = s.plate := rfl
@[simp] theorem setErrBit_shape (s : State) (b i : Nat) : (setErrBit s b i).shape = s.shape := rfl
@[simp] theorem setErrBit_fw (s : State) (b i : Nat) : (setErrBit s b i).fw = s.fw := rfl
@[simp] theorem setErrBit_pins (s : State) (b i : Nat) : (setErrBit s b i).pins = s.pins := rfl
@[simp] theorem setErrBit_outs (s : State) (b i : Nat) : (setErrBit s b i).outs = s.outs := rfl

/-! ### chordSend -/

@[simp] theorem chordSend_now (s : State) (k : ChordKind) (src unit dst lane : Nat) (held : Bool) : (chordSend s k src unit dst lane held).now = s.now := rfl
@[simp] theorem chordSend_pending (s : State) (k : ChordKind) (src unit dst lane : Nat) (held : Bool) : (chordSend s k src unit dst lane held).pending = s.pending := rfl
@[simp] theorem chordSend_freeCtr (s : State) (k : ChordKind) (src unit dst lane : Nat) (held : Bool) : (chordSend s k src unit dst lane held).freeCtr = s.freeCtr := rfl
@[simp] theorem chordSend_power (s : State) (k : ChordKind) (src unit dst lane : Nat) (held : Bool) : (chordSend s k src unit dst lane held).power = s.power := rfl
@[simp] theorem chordSend_mem (s : State) (k : ChordKind) (src unit dst lane : Nat) (held : Bool) : (chordSend s k src unit dst lane held).mem = s.mem := rfl
@[simp] theorem chordSend_synd (s : State) (k : ChordKind) (src unit dst lane : Nat) (held : Bool) : (chordSend s k src unit dst lane held).synd = s.synd := rfl
@[simp] theorem chordSend_writeBacks (s : State) (k : ChordKind) (src unit dst lane : Nat) (held : Bool) : (chordSend s k src unit dst lane held).writeBacks = s.writeBacks := rfl
@[simp] theorem chordSend_ctrlWords (s : State) (k : ChordKind) (src unit dst lane : Nat) (held : Bool) : (chordSend s k src unit dst lane held).ctrlWords = s.ctrlWords := rfl
@[simp] theorem chordSend_regs (s : State) (k : ChordKind) (src unit dst lane : Nat) (held : Bool) : (chordSend s k src unit dst lane held).regs = s.regs := rfl
@[simp] theorem chordSend_regCc (s : State) (k : ChordKind) (src unit dst lane : Nat) (held : Bool) : (chordSend s k src unit dst lane held).regCc = s.regCc := rfl
@[simp] theorem chordSend_heldEnable (s : State) (k : ChordKind) (src unit dst lane : Nat) (held : Bool) : (chordSend s k src unit dst lane held).heldEnable = s.heldEnable := rfl
@[simp] theorem chordSend_ft (s : State) (k : ChordKind) (src unit dst lane : Nat) (held : Bool) : (chordSend s k src unit dst lane held).ft = s.ft := rfl
@[simp] theorem chordSend_prog (s : State) (k : ChordKind) (src unit dst lane : Nat) (held : Bool) : (chordSend s k src unit dst lane held).prog = s.prog := rfl
@[simp] theorem chordSend_mcores (s : State) (k : ChordKind) (src unit dst lane : Nat) (held : Bool) : (chordSend s k src unit dst lane held).mcores = s.mcores := rfl
@[simp] theorem chordSend_vcores (s : State) (k : ChordKind) (src unit dst lane : Nat) (held : Bool) : (chordSend s k src unit dst lane held).vcores = s.vcores := rfl
@[simp] theorem chordSend_cols (s : State) (k : ChordKind) (src unit dst lane : Nat) (held : Bool) : (chordSend s k src unit dst lane held).cols = s.cols := rfl
@[simp] theorem chordSend_slm (s : State) (k : ChordKind) (src unit dst lane : Nat) (held : Bool) : (chordSend s k src unit dst lane held).slm = s.slm := rfl
@[simp] theorem chordSend_routers (s : State) (k : ChordKind) (src unit dst lane : Nat) (held : Bool) : (chordSend s k src unit dst lane held).routers = s.routers := rfl
@[simp] theorem chordSend_flights (s : State) (k : ChordKind) (src unit dst lane : Nat) (held : Bool) : (chordSend s k src unit dst lane held).flights = s.flights := rfl
@[simp] theorem chordSend_packets (s : State) (k : ChordKind) (src unit dst lane : Nat) (held : Bool) : (chordSend s k src unit dst lane held).packets = s.packets := rfl
@[simp] theorem chordSend_nextPacket (s : State) (k : ChordKind) (src unit dst lane : Nat) (held : Bool) : (chordSend s k src unit dst lane held).nextPacket = s.nextPacket := rfl
@[simp] theorem chordSend_coreReqs (s : State) (k : ChordKind) (src unit dst lane : Nat) (held : Bool) : (chordSend s k src unit dst lane held).coreReqs = s.coreReqs := rfl
@[simp] theorem chordSend_d2d (s : State) (k : ChordKind) (src unit dst lane : Nat) (held : Bool) : (chordSend s k src unit dst lane held).d2d = s.d2d := rfl
@[simp] theorem chordSend_kv (s : State) (k : ChordKind) (src unit dst lane : Nat) (held : Bool) : (chordSend s k src unit dst lane held).kv = s.kv := rfl
@[simp] theorem chordSend_smovers (s : State) (k : ChordKind) (src unit dst lane : Nat) (held : Bool) : (chordSend s k src unit dst lane held).smovers = s.smovers := rfl
@[simp] theorem chordSend_hmovers (s : State) (k : ChordKind) (src unit dst lane : Nat) (held : Bool) : (chordSend s k src unit dst lane held).hmovers = s.hmovers := rfl
@[simp] theorem chordSend_mboxes (s : State) (k : ChordKind) (src unit dst lane : Nat) (held : Bool) : (chordSend s k src unit dst lane held).mboxes = s.mboxes := rfl
@[simp] theorem chordSend_gports (s : State) (k : ChordKind) (src unit dst lane : Nat) (held : Bool) : (chordSend s k src unit dst lane held).gports = s.gports := rfl
@[simp] theorem chordSend_zl (s : State) (k : ChordKind) (src unit dst lane : Nat) (held : Bool) : (chordSend s k src unit dst lane held).zl = s.zl := rfl
@[simp] theorem chordSend_th (s : State) (k : ChordKind) (src unit dst lane : Nat) (held : Bool) : (chordSend s k src unit dst lane held).th = s.th := rfl
@[simp] theorem chordSend_sup (s : State) (k : ChordKind) (src unit dst lane : Nat) (held : Bool) : (chordSend s k src unit dst lane held).sup = s.sup := rfl
@[simp] theorem chordSend_plate (s : State) (k : ChordKind) (src unit dst lane : Nat) (held : Bool) : (chordSend s k src unit dst lane held).plate = s.plate := rfl
@[simp] theorem chordSend_shape (s : State) (k : ChordKind) (src unit dst lane : Nat) (held : Bool) : (chordSend s k src unit dst lane held).shape = s.shape := rfl
@[simp] theorem chordSend_fw (s : State) (k : ChordKind) (src unit dst lane : Nat) (held : Bool) : (chordSend s k src unit dst lane held).fw = s.fw := rfl
@[simp] theorem chordSend_pins (s : State) (k : ChordKind) (src unit dst lane : Nat) (held : Bool) : (chordSend s k src unit dst lane held).pins = s.pins := rfl
@[simp] theorem chordSend_outs (s : State) (k : ChordKind) (src unit dst lane : Nat) (held : Bool) : (chordSend s k src unit dst lane held).outs = s.outs := rfl

/-! ### chordDeliver -/

@[simp] theorem chordDeliver_now (s : State) (k : ChordKind) (src dst at_ : Nat) : (chordDeliver s k src dst at_).now = s.now := rfl
@[simp] theorem chordDeliver_pending (s : State) (k : ChordKind) (src dst at_ : Nat) : (chordDeliver s k src dst at_).pending = s.pending := rfl
@[simp] theorem chordDeliver_freeCtr (s : State) (k : ChordKind) (src dst at_ : Nat) : (chordDeliver s k src dst at_).freeCtr = s.freeCtr := rfl
@[simp] theorem chordDeliver_power (s : State) (k : ChordKind) (src dst at_ : Nat) : (chordDeliver s k src dst at_).power = s.power := rfl
@[simp] theorem chordDeliver_mem (s : State) (k : ChordKind) (src dst at_ : Nat) : (chordDeliver s k src dst at_).mem = s.mem := rfl
@[simp] theorem chordDeliver_synd (s : State) (k : ChordKind) (src dst at_ : Nat) : (chordDeliver s k src dst at_).synd = s.synd := rfl
@[simp] theorem chordDeliver_writeBacks (s : State) (k : ChordKind) (src dst at_ : Nat) : (chordDeliver s k src dst at_).writeBacks = s.writeBacks := rfl
@[simp] theorem chordDeliver_ctrlWords (s : State) (k : ChordKind) (src dst at_ : Nat) : (chordDeliver s k src dst at_).ctrlWords = s.ctrlWords := rfl
@[simp] theorem chordDeliver_regs (s : State) (k : ChordKind) (src dst at_ : Nat) : (chordDeliver s k src dst at_).regs = s.regs := rfl
@[simp] theorem chordDeliver_regCc (s : State) (k : ChordKind) (src dst at_ : Nat) : (chordDeliver s k src dst at_).regCc = s.regCc := rfl
@[simp] theorem chordDeliver_heldEnable (s : State) (k : ChordKind) (src dst at_ : Nat) : (chordDeliver s k src dst at_).heldEnable = s.heldEnable := rfl
@[simp] theorem chordDeliver_ft (s : State) (k : ChordKind) (src dst at_ : Nat) : (chordDeliver s k src dst at_).ft = s.ft := rfl
@[simp] theorem chordDeliver_prog (s : State) (k : ChordKind) (src dst at_ : Nat) : (chordDeliver s k src dst at_).prog = s.prog := rfl
@[simp] theorem chordDeliver_mcores (s : State) (k : ChordKind) (src dst at_ : Nat) : (chordDeliver s k src dst at_).mcores = s.mcores := rfl
@[simp] theorem chordDeliver_vcores (s : State) (k : ChordKind) (src dst at_ : Nat) : (chordDeliver s k src dst at_).vcores = s.vcores := rfl
@[simp] theorem chordDeliver_cols (s : State) (k : ChordKind) (src dst at_ : Nat) : (chordDeliver s k src dst at_).cols = s.cols := rfl
@[simp] theorem chordDeliver_slm (s : State) (k : ChordKind) (src dst at_ : Nat) : (chordDeliver s k src dst at_).slm = s.slm := rfl
@[simp] theorem chordDeliver_routers (s : State) (k : ChordKind) (src dst at_ : Nat) : (chordDeliver s k src dst at_).routers = s.routers := rfl
@[simp] theorem chordDeliver_flights (s : State) (k : ChordKind) (src dst at_ : Nat) : (chordDeliver s k src dst at_).flights = s.flights := rfl
@[simp] theorem chordDeliver_packets (s : State) (k : ChordKind) (src dst at_ : Nat) : (chordDeliver s k src dst at_).packets = s.packets := rfl
@[simp] theorem chordDeliver_nextPacket (s : State) (k : ChordKind) (src dst at_ : Nat) : (chordDeliver s k src dst at_).nextPacket = s.nextPacket := rfl
@[simp] theorem chordDeliver_coreReqs (s : State) (k : ChordKind) (src dst at_ : Nat) : (chordDeliver s k src dst at_).coreReqs = s.coreReqs := rfl
@[simp] theorem chordDeliver_d2d (s : State) (k : ChordKind) (src dst at_ : Nat) : (chordDeliver s k src dst at_).d2d = s.d2d := rfl
@[simp] theorem chordDeliver_kv (s : State) (k : ChordKind) (src dst at_ : Nat) : (chordDeliver s k src dst at_).kv = s.kv := rfl
@[simp] theorem chordDeliver_smovers (s : State) (k : ChordKind) (src dst at_ : Nat) : (chordDeliver s k src dst at_).smovers = s.smovers := rfl
@[simp] theorem chordDeliver_hmovers (s : State) (k : ChordKind) (src dst at_ : Nat) : (chordDeliver s k src dst at_).hmovers = s.hmovers := rfl
@[simp] theorem chordDeliver_mboxes (s : State) (k : ChordKind) (src dst at_ : Nat) : (chordDeliver s k src dst at_).mboxes = s.mboxes := rfl
@[simp] theorem chordDeliver_gports (s : State) (k : ChordKind) (src dst at_ : Nat) : (chordDeliver s k src dst at_).gports = s.gports := rfl
@[simp] theorem chordDeliver_zl (s : State) (k : ChordKind) (src dst at_ : Nat) : (chordDeliver s k src dst at_).zl = s.zl := rfl
@[simp] theorem chordDeliver_th (s : State) (k : ChordKind) (src dst at_ : Nat) : (chordDeliver s k src dst at_).th = s.th := rfl
@[simp] theorem chordDeliver_sup (s : State) (k : ChordKind) (src dst at_ : Nat) : (chordDeliver s k src dst at_).sup = s.sup := rfl
@[simp] theorem chordDeliver_plate (s : State) (k : ChordKind) (src dst at_ : Nat) : (chordDeliver s k src dst at_).plate = s.plate := rfl
@[simp] theorem chordDeliver_shape (s : State) (k : ChordKind) (src dst at_ : Nat) : (chordDeliver s k src dst at_).shape = s.shape := rfl
@[simp] theorem chordDeliver_fw (s : State) (k : ChordKind) (src dst at_ : Nat) : (chordDeliver s k src dst at_).fw = s.fw := rfl
@[simp] theorem chordDeliver_pins (s : State) (k : ChordKind) (src dst at_ : Nat) : (chordDeliver s k src dst at_).pins = s.pins := rfl
@[simp] theorem chordDeliver_outs (s : State) (k : ChordKind) (src dst at_ : Nat) : (chordDeliver s k src dst at_).outs = s.outs := rfl

/-! ### chordDrop -/

@[simp] theorem chordDrop_now (s : State) (id : Nat) : (chordDrop s id).now = s.now := rfl
@[simp] theorem chordDrop_pending (s : State) (id : Nat) : (chordDrop s id).pending = s.pending := rfl
@[simp] theorem chordDrop_freeCtr (s : State) (id : Nat) : (chordDrop s id).freeCtr = s.freeCtr := rfl
@[simp] theorem chordDrop_power (s : State) (id : Nat) : (chordDrop s id).power = s.power := rfl
@[simp] theorem chordDrop_mem (s : State) (id : Nat) : (chordDrop s id).mem = s.mem := rfl
@[simp] theorem chordDrop_synd (s : State) (id : Nat) : (chordDrop s id).synd = s.synd := rfl
@[simp] theorem chordDrop_writeBacks (s : State) (id : Nat) : (chordDrop s id).writeBacks = s.writeBacks := rfl
@[simp] theorem chordDrop_ctrlWords (s : State) (id : Nat) : (chordDrop s id).ctrlWords = s.ctrlWords := rfl
@[simp] theorem chordDrop_regs (s : State) (id : Nat) : (chordDrop s id).regs = s.regs := rfl
@[simp] theorem chordDrop_regCc (s : State) (id : Nat) : (chordDrop s id).regCc = s.regCc := rfl
@[simp] theorem chordDrop_heldEnable (s : State) (id : Nat) : (chordDrop s id).heldEnable = s.heldEnable := rfl
@[simp] theorem chordDrop_ft (s : State) (id : Nat) : (chordDrop s id).ft = s.ft := rfl
@[simp] theorem chordDrop_prog (s : State) (id : Nat) : (chordDrop s id).prog = s.prog := rfl
@[simp] theorem chordDrop_mcores (s : State) (id : Nat) : (chordDrop s id).mcores = s.mcores := rfl
@[simp] theorem chordDrop_vcores (s : State) (id : Nat) : (chordDrop s id).vcores = s.vcores := rfl
@[simp] theorem chordDrop_cols (s : State) (id : Nat) : (chordDrop s id).cols = s.cols := rfl
@[simp] theorem chordDrop_slm (s : State) (id : Nat) : (chordDrop s id).slm = s.slm := rfl
@[simp] theorem chordDrop_routers (s : State) (id : Nat) : (chordDrop s id).routers = s.routers := rfl
@[simp] theorem chordDrop_flights (s : State) (id : Nat) : (chordDrop s id).flights = s.flights := rfl
@[simp] theorem chordDrop_packets (s : State) (id : Nat) : (chordDrop s id).packets = s.packets := rfl
@[simp] theorem chordDrop_nextPacket (s : State) (id : Nat) : (chordDrop s id).nextPacket = s.nextPacket := rfl
@[simp] theorem chordDrop_coreReqs (s : State) (id : Nat) : (chordDrop s id).coreReqs = s.coreReqs := rfl
@[simp] theorem chordDrop_d2d (s : State) (id : Nat) : (chordDrop s id).d2d = s.d2d := rfl
@[simp] theorem chordDrop_kv (s : State) (id : Nat) : (chordDrop s id).kv = s.kv := rfl
@[simp] theorem chordDrop_smovers (s : State) (id : Nat) : (chordDrop s id).smovers = s.smovers := rfl
@[simp] theorem chordDrop_hmovers (s : State) (id : Nat) : (chordDrop s id).hmovers = s.hmovers := rfl
@[simp] theorem chordDrop_mboxes (s : State) (id : Nat) : (chordDrop s id).mboxes = s.mboxes := rfl
@[simp] theorem chordDrop_gports (s : State) (id : Nat) : (chordDrop s id).gports = s.gports := rfl
@[simp] theorem chordDrop_zl (s : State) (id : Nat) : (chordDrop s id).zl = s.zl := rfl
@[simp] theorem chordDrop_th (s : State) (id : Nat) : (chordDrop s id).th = s.th := rfl
@[simp] theorem chordDrop_sup (s : State) (id : Nat) : (chordDrop s id).sup = s.sup := rfl
@[simp] theorem chordDrop_plate (s : State) (id : Nat) : (chordDrop s id).plate = s.plate := rfl
@[simp] theorem chordDrop_shape (s : State) (id : Nat) : (chordDrop s id).shape = s.shape := rfl
@[simp] theorem chordDrop_fw (s : State) (id : Nat) : (chordDrop s id).fw = s.fw := rfl
@[simp] theorem chordDrop_pins (s : State) (id : Nat) : (chordDrop s id).pins = s.pins := rfl
@[simp] theorem chordDrop_outs (s : State) (id : Nat) : (chordDrop s id).outs = s.outs := rfl

/-! ### rawWrite -/

@[simp] theorem rawWrite_now (s : State) (a : Nat) (l : List Byte) : (rawWrite s a l).now = s.now := rfl
@[simp] theorem rawWrite_pending (s : State) (a : Nat) (l : List Byte) : (rawWrite s a l).pending = s.pending := rfl
@[simp] theorem rawWrite_freeCtr (s : State) (a : Nat) (l : List Byte) : (rawWrite s a l).freeCtr = s.freeCtr := rfl
@[simp] theorem rawWrite_power (s : State) (a : Nat) (l : List Byte) : (rawWrite s a l).power = s.power := rfl
@[simp] theorem rawWrite_mem (s : State) (a : Nat) (l : List Byte) : (rawWrite s a l).mem = Memory.setBytes s.mem a l := rfl
@[simp] theorem rawWrite_synd (s : State) (a : Nat) (l : List Byte) : (rawWrite s a l).synd = s.synd := rfl
@[simp] theorem rawWrite_writeBacks (s : State) (a : Nat) (l : List Byte) : (rawWrite s a l).writeBacks = s.writeBacks := rfl
@[simp] theorem rawWrite_ctrlWords (s : State) (a : Nat) (l : List Byte) : (rawWrite s a l).ctrlWords = s.ctrlWords := rfl
@[simp] theorem rawWrite_regs (s : State) (a : Nat) (l : List Byte) : (rawWrite s a l).regs = s.regs := rfl
@[simp] theorem rawWrite_regCc (s : State) (a : Nat) (l : List Byte) : (rawWrite s a l).regCc = s.regCc := rfl
@[simp] theorem rawWrite_heldEnable (s : State) (a : Nat) (l : List Byte) : (rawWrite s a l).heldEnable = s.heldEnable := rfl
@[simp] theorem rawWrite_ft (s : State) (a : Nat) (l : List Byte) : (rawWrite s a l).ft = s.ft := rfl
@[simp] theorem rawWrite_prog (s : State) (a : Nat) (l : List Byte) : (rawWrite s a l).prog = s.prog := rfl
@[simp] theorem rawWrite_mcores (s : State) (a : Nat) (l : List Byte) : (rawWrite s a l).mcores = s.mcores := rfl
@[simp] theorem rawWrite_vcores (s : State) (a : Nat) (l : List Byte) : (rawWrite s a l).vcores = s.vcores := rfl
@[simp] theorem rawWrite_cols (s : State) (a : Nat) (l : List Byte) : (rawWrite s a l).cols = s.cols := rfl
@[simp] theorem rawWrite_slm (s : State) (a : Nat) (l : List Byte) : (rawWrite s a l).slm = s.slm := rfl
@[simp] theorem rawWrite_routers (s : State) (a : Nat) (l : List Byte) : (rawWrite s a l).routers = s.routers := rfl
@[simp] theorem rawWrite_flights (s : State) (a : Nat) (l : List Byte) : (rawWrite s a l).flights = s.flights := rfl
@[simp] theorem rawWrite_packets (s : State) (a : Nat) (l : List Byte) : (rawWrite s a l).packets = s.packets := rfl
@[simp] theorem rawWrite_nextPacket (s : State) (a : Nat) (l : List Byte) : (rawWrite s a l).nextPacket = s.nextPacket := rfl
@[simp] theorem rawWrite_coreReqs (s : State) (a : Nat) (l : List Byte) : (rawWrite s a l).coreReqs = s.coreReqs := rfl
@[simp] theorem rawWrite_d2d (s : State) (a : Nat) (l : List Byte) : (rawWrite s a l).d2d = s.d2d := rfl
@[simp] theorem rawWrite_chord (s : State) (a : Nat) (l : List Byte) : (rawWrite s a l).chord = s.chord := rfl
@[simp] theorem rawWrite_kv (s : State) (a : Nat) (l : List Byte) : (rawWrite s a l).kv = s.kv := rfl
@[simp] theorem rawWrite_smovers (s : State) (a : Nat) (l : List Byte) : (rawWrite s a l).smovers = s.smovers := rfl
@[simp] theorem rawWrite_hmovers (s : State) (a : Nat) (l : List Byte) : (rawWrite s a l).hmovers = s.hmovers := rfl
@[simp] theorem rawWrite_mboxes (s : State) (a : Nat) (l : List Byte) : (rawWrite s a l).mboxes = s.mboxes := rfl
@[simp] theorem rawWrite_gports (s : State) (a : Nat) (l : List Byte) : (rawWrite s a l).gports = s.gports := rfl
@[simp] theorem rawWrite_zl (s : State) (a : Nat) (l : List Byte) : (rawWrite s a l).zl = s.zl := rfl
@[simp] theorem rawWrite_th (s : State) (a : Nat) (l : List Byte) : (rawWrite s a l).th = s.th := rfl
@[simp] theorem rawWrite_sup (s : State) (a : Nat) (l : List Byte) : (rawWrite s a l).sup = s.sup := rfl
@[simp] theorem rawWrite_plate (s : State) (a : Nat) (l : List Byte) : (rawWrite s a l).plate = s.plate := rfl
@[simp] theorem rawWrite_shape (s : State) (a : Nat) (l : List Byte) : (rawWrite s a l).shape = s.shape := rfl
@[simp] theorem rawWrite_fw (s : State) (a : Nat) (l : List Byte) : (rawWrite s a l).fw = s.fw := rfl
@[simp] theorem rawWrite_pins (s : State) (a : Nat) (l : List Byte) : (rawWrite s a l).pins = s.pins := rfl
@[simp] theorem rawWrite_outs (s : State) (a : Nat) (l : List Byte) : (rawWrite s a l).outs = s.outs := rfl

end Sys2Proof.Machine
end

