-- ==== Sys2Proof/Laws/Memory.lean ====
section
/-! SUPPORT. The laws of device memory: reading after a write, and that every operation over memory keeps its
canonical form. -/

namespace Sys2Proof.Machine

/-! ## Canonical form -/

theorem Memory.wf_nil : Memory.wf [] = true := rfl

theorem Memory.wf_sorted {m : List Host.Cell} (h : Memory.wf m = true) : Assoc.sorted m = true := by
  simp only [Memory.wf, Bool.and_eq_true] at h; exact h.1

/-- Putting a byte keeps the canonical form. -/
theorem Memory.wf_set {m : List Host.Cell} (a : Nat) (b : Byte) (h : Memory.wf m = true) : Memory.wf (Memory.set m a b) = true := by
  simp only [Memory.wf, Bool.and_eq_true, List.all_eq_true] at h ⊢
  refine ⟨Assoc.sorted_put a _ h.1, fun z hz => ?_⟩
  rcases Assoc.mem_put hz with hz | ⟨x, hx, rfl⟩
  · exact h.2 z hz
  · split at hx
    · cases hx
    · rename_i hb
      cases hx
      simpa using hb

/-- Putting bytes keeps the canonical form. -/
theorem Memory.wf_setBytes {m : List Host.Cell} (a : Nat) (l : List Byte) (h : Memory.wf m = true) :
    Memory.wf (Memory.setBytes m a l) = true := by
  induction l generalizing m a with
  | nil => exact h
  | cons b r ih => exact ih (a + 1) (Memory.wf_set a b h)

/-- A memory cut down to some of its cells keeps the canonical form. -/
theorem Memory.wf_filter {m : List Host.Cell} (p : Host.Cell → Bool) (h : Memory.wf m = true) : Memory.wf (m.filter p) = true := by
  simp only [Memory.wf, Bool.and_eq_true, List.all_eq_true] at h ⊢
  exact ⟨Assoc.sorted_filter p h.1, fun z hz => h.2 z (List.mem_filter.mp hz).1⟩

/-- Memory after reset has it. -/
theorem Memory.wf_reset : Memory.wf State.reset.mem = true := rfl

/-! ## Reading after writing -/

/-- The byte put reads back. -/
theorem Memory.get_set_same {m : List Host.Cell} (a : Nat) (b : Byte) (h : Assoc.sorted m = true) :
    Memory.get (Memory.set m a b) a = b := by
  unfold Memory.get Memory.set Assoc.getD
  rw [Assoc.get?_put a _ h]
  split <;> simp_all

/-- Every other byte reads as before. -/
@[simp] theorem Memory.get_set_ne (m : List Host.Cell) (a x : Nat) (b : Byte) (h : x ≠ a) :
    Memory.get (Memory.set m a b) x = Memory.get m x := by
  unfold Memory.get Memory.set
  exact Assoc.getD_put_ne m memDefault a x _ h

/-- Bytes outside the span keep their value. -/
theorem Memory.get_setBytes_out (m : List Host.Cell) (a x : Nat) (l : List Byte) (h : x < a ∨ a + l.length ≤ x) :
    Memory.get (Memory.setBytes m a l) x = Memory.get m x := by
  induction l generalizing m a with
  | nil => rfl
  | cons b r ih =>
    simp only [List.length_cons] at h
    rw [Memory.setBytes, ih _ _ (by omega), Memory.get_set_ne _ _ _ _ (by omega)]

/-- Byte `i` of the span is byte `i` of what was written. -/
theorem Memory.get_setBytes_in {m : List Host.Cell} (a i : Nat) (l : List Byte) (h : Memory.wf m = true) (hi : i < l.length) :
    Memory.get (Memory.setBytes m a l) (a + i) = l[i] := by
  induction l generalizing m a i with
  | nil => simp at hi
  | cons b r ih =>
    rw [Memory.setBytes]
    cases i with
    | zero =>
      rw [Memory.get_setBytes_out _ _ _ _ (by omega)]
      exact Memory.get_set_same a b (Memory.wf_sorted h)
    | succ n =>
      have := ih (a + 1) n (Memory.wf_set a b h) (by simpa using hi)
      rw [show a + (n + 1) = a + 1 + n by omega, this]
      rfl

@[simp] theorem rawRead_length (s : State) (a n : Nat) : (rawRead s a n).length = n := by simp [rawRead]

/-- What was written over a span reads back. -/
theorem rawRead_rawWrite {s : State} (a : Nat) (l : List Byte) (h : Memory.wf s.mem = true) : rawRead (rawWrite s a l) a l.length = l := by
  apply List.ext_getElem
  · simp
  · intro i h1 h2
    simp only [rawRead, List.getElem_map, List.getElem_range, rawWrite_mem]
    exact Memory.get_setBytes_in a i l h h2

/-- A span apart from the one written reads as before. -/
theorem rawRead_rawWrite_apart (s : State) (a b n : Nat) (l : List Byte) (h : b + n ≤ a ∨ a + l.length ≤ b) :
    rawRead (rawWrite s a l) b n = rawRead s b n := by
  simp only [rawRead, rawWrite_mem]
  refine List.map_congr_left (fun i hi => ?_)
  rw [List.mem_range] at hi
  exact Memory.get_setBytes_out _ _ _ _ (by omega)

/-- A span reads the same in states that agree on it. -/
theorem rawRead_congr {s t : State} (a n : Nat) (h : ∀ x, a ≤ x → x < a + n → Memory.get t.mem x = Memory.get s.mem x) :
    rawRead t a n = rawRead s a n := by
  refine List.map_congr_left (fun i hi => ?_)
  rw [List.mem_range] at hi
  exact h _ (by omega) (by omega)

/-- A span in parts. -/
theorem rawRead_append (s : State) (a n k : Nat) : rawRead s a (n + k) = rawRead s a n ++ rawRead s (a + n) k := by
  apply List.ext_getElem
  · simp
  · intro i h1 h2
    rw [List.getElem_append]
    split
    · simp [rawRead]
    · rename_i h3
      rw [rawRead_length] at h3
      simp only [rawRead, List.getElem_map, List.getElem_range, List.length_map, List.length_range]
      congr 1; omega

end Sys2Proof.Machine
end

