-- ==== Sys2Proof/Laws/Inv.lean ====
section
/-! SUPPORT. The operations the units share keep the invariant. -/

namespace Sys2Proof.Machine

/-- A state with the same memory, check-bit differences and registers. -/
theorem Inv.congr {s t : State} (h : Inv s) (hm : t.mem = s.mem) (hs : t.synd = s.synd) (hr : t.regs = s.regs) : Inv t :=
  ⟨hm ▸ h.mem, hs ▸ h.synd, hr ▸ h.regs⟩

/-- A fold keeps the invariant when its step does. -/
theorem Inv.foldl {α : Type} (f : State → α → State) (l : List α) (hf : ∀ s x, Inv s → Inv (f s x)) :
    ∀ {s : State}, Inv s → Inv (l.foldl f s) := by
  induction l with
  | nil => exact fun h => h
  | cons x r ih => exact fun h => ih (hf _ x h)

theorem Inv.setReg {s : State} (b o v : Nat) (h : Inv s) : Inv (setReg s b o v) := ⟨h.mem, h.synd, Assoc.sorted_put _ _ h.regs⟩
theorem Inv.setRegField {s : State} (b o hi lo v : Nat) (h : Inv s) : Inv (setRegField s b o hi lo v) := Inv.setReg b o _ h
theorem Inv.countField {s : State} (b o hi lo n : Nat) (h : Inv s) : Inv (countField s b o hi lo n) := Inv.setReg b o _ h
theorem Inv.setErrBit {s : State} (b i : Nat) (h : Inv s) : Inv (setErrBit s b i) :=
  ⟨h.mem, h.synd, Assoc.sorted_put _ _ h.regs⟩
theorem Inv.rawWrite {s : State} (a : Nat) (l : List Byte) (h : Inv s) : Inv (rawWrite s a l) :=
  ⟨Memory.wf_setBytes a l h.mem, h.synd, h.regs⟩
theorem Inv.chordSend {s : State} (k : ChordKind) (a b c d : Nat) (e : Bool) (h : Inv s) : Inv (chordSend s k a b c d e) :=
  ⟨h.mem, h.synd, h.regs⟩

theorem Inv.launchNotice {s : State} (src target line cls : Nat) (h : Inv s) : Inv (launchNotice s src target line cls) :=
  ⟨h.mem, h.synd, h.regs⟩

theorem Inv.badTarget {s : State} (n : Nat) (h : Inv s) : Inv (badTarget s n) := by
  unfold Machine.badTarget
  dsimp only
  split
  · exact Inv.launchNotice _ _ _ _ (Inv.setErrBit _ _ h)
  · exact Inv.setErrBit _ _ h

theorem Inv.sendNotice {s : State} (src target line cls : Nat) (h : Inv s) : Inv (sendNotice s src target line cls) := by
  unfold Machine.sendNotice
  split
  · exact Inv.launchNotice _ _ _ _ h
  · exact Inv.badTarget _ h

theorem Inv.routeNotice {s : State} (b : Nat) (h : Inv s) : Inv (routeNotice s b) := by
  unfold Machine.routeNotice
  dsimp only
  split
  · exact Inv.sendNotice _ _ _ _ h
  · exact h

theorem Inv.setErr {s : State} (b i : Nat) (h : Inv s) : Inv (setErr s b i) := by
  unfold Machine.setErr
  dsimp only
  split
  · exact Inv.routeNotice _ (Inv.setErrBit _ _ h)
  · exact Inv.setErrBit _ _ h

theorem Inv.setErrIf {s : State} (c : Bool) (b i : Nat) (h : Inv s) : Inv (setErrIf c s b i) := by
  unfold Machine.setErrIf
  split
  · exact Inv.setErr _ _ h
  · exact h

theorem Inv.markFaulted {s : State} (h : Inv s) : Inv (markFaulted s) := by
  unfold Machine.markFaulted
  split <;> exact ⟨h.mem, h.synd, h.regs⟩

theorem Inv.recordFault {s : State} (l : Bool) (c r n u f : Nat) (h : Inv s) : Inv (recordFault s l c r n u f) := by
  unfold Machine.recordFault
  dsimp only
  split
  · exact h
  · exact Inv.setErr _ _ (Inv.setReg _ _ _ (Inv.setReg _ _ _ (Inv.setReg _ _ _ (Inv.setReg _ _ _ h))))

theorem Inv.haltFrom {s : State} (c n t : Nat) (h : Inv s) : Inv (haltFrom s c n t) := by
  unfold Machine.haltFrom Machine.nodeFrom Machine.copiesBelow
  refine Inv.foldl _ _ ?_ ?_
  · exact fun _ _ h => ⟨h.mem, h.synd, h.regs⟩
  · exact ⟨h.mem, h.synd, h.regs⟩

theorem Inv.haltSend {s : State} (h : Inv s) : Inv (haltSend s) := by
  unfold Machine.haltSend
  split
  · split
    · exact Inv.haltFrom _ _ _ ⟨h.mem, h.synd, h.regs⟩
    · exact h
  · exact h

theorem Inv.lowerUnit {s : State} (c u f t : Nat) (h : Inv s) : Inv (lowerUnit s c u f t) := by
  unfold Machine.lowerUnit
  dsimp only
  split
  · exact Inv.setReg _ _ _ (Inv.setReg _ _ _ (Inv.setRegField _ _ _ _ _ (Inv.setRegField _ _ _ _ _ h)))
  · exact h

theorem Inv.rootSend {s : State} (l : Bool) (c r n u f d : Nat) (h : Inv s) : Inv (rootSend s l c r n u f d) := by
  have h1 := Inv.recordFault l c r n u f h
  unfold Machine.rootSend
  exact Inv.haltSend ⟨h1.mem, h1.synd, h1.regs⟩

theorem Inv.rootHalt {s : State} (l : Bool) (c r n u f d : Nat) (h : Inv s) : Inv (rootHalt s l c r n u f d) := by
  unfold Machine.rootHalt
  split
  · exact h
  · exact Inv.rootSend _ _ _ _ _ _ _ h

theorem Inv.localHalt {s : State} (b c f t d : Nat) (h : Inv s) : Inv (localHalt s b c f t d) := by
  unfold Machine.localHalt
  dsimp only
  split
  · exact Inv.lowerUnit _ _ _ _ h
  · refine Inv.rootHalt _ _ _ _ _ _ _ ?_
    split
    · exact ⟨h.mem, h.synd, h.regs⟩
    · exact h

/-- Raising a frame fault keeps the invariant. -/
theorem Inv.raiseFault {s : State} (b c : Nat) (h : Inv s) : Inv (raiseFault s b c) := by
  unfold Machine.raiseFault
  split
  · dsimp only
    split
    · exact Inv.localHalt _ _ _ _ _ (Inv.markFaulted h)
    · exact Inv.chordSend _ _ _ _ _ _ (Inv.markFaulted h)
  · exact h

theorem Inv.errFault {s : State} (b i c : Nat) (h : Inv s) : Inv (errFault s b i c) := Inv.raiseFault _ _ (Inv.setErr _ _ h)

/-! ## Memory operations -/

theorem Inv.logCorrection {s : State} (c o b : Nat) (h : Inv s) : Inv (logCorrection s c o b) := ⟨h.mem, h.synd, h.regs⟩

theorem Inv.reportCorr {s : State} (i b : Nat) (d : Bool) (h : Inv s) : Inv (reportCorr s i b d) := by
  unfold Machine.reportCorr
  split
  · exact Inv.setErr _ _ (Inv.logCorrection _ _ _ (Inv.setReg _ _ _ (Inv.setReg _ _ _ (Inv.setReg _ _ _ h))))
  · have h1 := Inv.countField (blk Ty.SLM 0) Off.SLM_LATTICE 31 16 1 h
    exact ⟨h1.mem, h1.synd, h1.regs⟩
  · exact Inv.setErr _ _ ⟨h.mem, h.synd, h.regs⟩
  · exact Inv.setErr _ _ ⟨h.mem, h.synd, h.regs⟩
  · exact h

theorem Inv.reportUncorr {s : State} (i : Nat) (h : Inv s) : Inv (reportUncorr s i) := by
  unfold Machine.reportUncorr
  split
  · exact Inv.errFault _ _ _ (Inv.setReg _ _ _ (Inv.setReg _ _ _ h))
  · exact Inv.raiseFault _ _ (Inv.setRegField _ _ _ _ _ h)
  · exact Inv.errFault _ _ _ h
  · exact Inv.errFault _ _ _ h
  · exact h

theorem Inv.granuleRead {s : State} (i : Nat) (h : Inv s) : Inv (granuleRead s i).1 := by
  unfold Machine.granuleRead
  split
  · exact ⟨h.mem, h.synd, h.regs⟩
  · split
    · exact h
    · exact Inv.reportCorr _ _ _ h
    · exact Inv.reportCorr _ _ _ h
    · exact Inv.reportUncorr _ h

theorem Inv.granulesRead (n : Nat) {s : State} (i : Nat) (h : Inv s) : Inv (granulesRead n s i).1 := by
  induction n generalizing s i with
  | zero => exact h
  | succ n ih => exact ih (i + 1) (Inv.granuleRead i h)

theorem Inv.memRead {s : State} (a n : Nat) (h : Inv s) : Inv (memRead s a n).1 := Inv.granulesRead _ _ h

theorem Inv.granuleWrite {s : State} (i : Nat) (d : List Byte) (r : Bool) (h : Inv s) : Inv (granuleWrite s i d r) := by
  unfold Machine.granuleWrite
  extract_lets s1
  have h1 : Inv s1 := ⟨h.mem, Assoc.sorted_put _ _ h.synd, h.regs⟩
  clear_value s1
  split
  · extract_lets b s2 f
    have h2 : Inv s2 := ⟨h1.mem, h1.synd, h1.regs⟩
    clear_value s2
    split
    · have h3 := Inv.setRegField b Off.COLCTL_FLIP 31 31 0 h2
      refine ⟨?_, Assoc.sorted_put _ _ ?_, h3.regs⟩
      · rw [rawWrite_mem]
        exact Memory.wf_setBytes _ _ h3.mem
      · rw [rawWrite_synd, setRegField_synd]
        exact h2.synd
    · exact Inv.rawWrite _ _ h2
  · exact Inv.rawWrite _ _ h1

theorem Inv.granuleMerge {s : State} (i o : Nat) (l : List Byte) (r : Bool) (h : Inv s) : Inv (granuleMerge s i o l r).1 := by
  unfold Machine.granuleMerge
  split
  · exact Inv.granuleWrite _ _ _ h
  · have h1 := Inv.granuleRead i h
    generalize hx : Machine.granuleRead s i = x at h1
    obtain ⟨s1, d, u⟩ := x
    dsimp only
    split
    · exact h1
    · exact Inv.granuleWrite _ _ _ h1

theorem Inv.memWriteGo (n : Nat) {s : State} (a : Nat) (l : List Byte) (r : Bool) (h : Inv s) : Inv (memWriteGo n s a l r).1 := by
  induction n generalizing s a l with
  | zero => exact h
  | succ n ih =>
    unfold Machine.memWriteGo
    split
    · exact h
    · exact ih _ _ (Inv.granuleMerge _ _ _ _ h)

/-- A write of bytes keeps memory, the check-bit differences and the registers in canonical form. -/
theorem Inv.memWrite {s : State} (a : Nat) (l : List Byte) (r : Bool) (h : Inv s) : Inv (memWrite s a l r).1 := Inv.memWriteGo _ _ _ _ h

theorem Inv.adderWrite {s : State} (i aop : Nat) (d : List Byte) (h : Inv s) : Inv (adderWrite s i aop d).1 := by
  unfold Machine.adderWrite
  split
  · exact Inv.granuleWrite _ _ _ h
  · split
    · split
      · exact Inv.setErr _ _ h
      · dsimp only
        split
        · exact Inv.granuleRead _ ⟨h.mem, h.synd, h.regs⟩
        · exact Inv.granuleWrite _ _ _ (Inv.granuleRead _ ⟨h.mem, h.synd, h.regs⟩)
    · split
      · exact Inv.setErr _ _ h
      · dsimp only
        split
        · exact Inv.granuleRead _ h
        · exact Inv.granuleWrite _ _ _ (Inv.granuleRead _ h)
    · exact h

end Sys2Proof.Machine
end

