-- ==== Sys2Proof/Laws/PerInstr.lean ====
section
/-! SUPPORT. Statements made for every command, one lemma per constructor. -/

namespace Sys2Proof.Laws.Unencoded

/-- The table of operations gives the command no bits, so that no word spells it. -/
def Statement (i : Instr) : Prop := ∀ nbits w : Nat, decodeTableWord nbits w ≠ some i

theorem all (i : Instr) : Statement i := fun _ _ h => by cases h

theorem localTick : Statement .localTick := all _
theorem skewWindowClose : Statement .skewWindowClose := all _
theorem eventSettle : Statement .eventSettle := all _
theorem commit : Statement .commit := all _
theorem tickMiss : Statement .tickMiss := all _
theorem boundaryEnableApply : Statement .boundaryEnableApply := all _
theorem slot1Start : Statement .slot1Start := all _
theorem serviceSlotEntry : Statement .serviceSlotEntry := all _
theorem tickMarker (link : Nat) (m : BitVec 128) (arr : Nat) (replay : Bool) : Statement (.tickMarker link m arr replay) := all _
theorem tickMarkerSend : Statement .tickMarkerSend := all _
theorem resyncMarker (link : Nat) (m : BitVec 128) (arr : Nat) : Statement (.resyncMarker link m arr) := all _
theorem resyncCmd (count : Nat) : Statement (.resyncCmd count) := all _
theorem delayProbe (port : Nat) (m : BitVec 128) : Statement (.delayProbe port m) := all _
theorem delayEchoSend (port : Nat) : Statement (.delayEchoSend port) := all _
theorem delayEcho (link : Nat) (m : BitVec 128) (arr : Nat) : Statement (.delayEcho link m arr) := all _
theorem load : Statement .load := all _
theorem loadComplete : Statement .loadComplete := all _
theorem unload : Statement .unload := all _
theorem mac (g : Nat) (o : MacOp) : Statement (.mac g o) := all _
theorem macStep (g : Nat) : Statement (.macStep g) := all _
theorem macWriteback (g : Nat) : Statement (.macWriteback g) := all _
theorem lda (g : Nat) (o : LdaOp) : Statement (.lda g o) := all _
theorem fin (g : Nat) (o : FinOp) : Statement (.fin g o) := all _
theorem finOutput (g : Nat) : Statement (.finOutput g) := all _
theorem clr (g row rows : Nat) : Statement (.clr g row rows) := all _
theorem wait (g slot cc : Nat) : Statement (.wait g slot cc) := all _
theorem waitRelease (g : Nat) : Statement (.waitRelease g) := all _
theorem syncSignal (c : CoreId) (target line : Nat) : Statement (.syncSignal c target line) := all _
theorem syncWait (c : CoreId) (target line : Nat) : Statement (.syncWait c target line) := all _
theorem syncArrive (c : CoreId) (target line : Nat) : Statement (.syncArrive c target line) := all _
theorem syncArriveWait (c : CoreId) (target line : Nat) : Statement (.syncArriveWait c target line) := all _
theorem loop (g count len : Nat) : Statement (.loop g count len) := all _
theorem setb (g reg imm plog stride : Nat) : Statement (.setb g reg imm plog stride) := all _
theorem addb (g reg : Nat) (imm : Int) : Statement (.addb g reg imm) := all _
theorem brf (g plog value skip : Nat) : Statement (.brf g plog value skip) := all _
theorem fill (g count rumask : Nat) : Statement (.fill g count rumask) := all _
theorem nop (g : Nat) : Statement (.nop g) := all _
theorem tileEnd (g : Nat) : Statement (.tileEnd g) := all _
theorem mcoreDone (g : Nat) : Statement (.mcoreDone g) := all _
theorem vcoreNop (v : Nat) : Statement (.vcoreNop v) := all _
theorem sop (v sd sa sb fn : Nat) : Statement (.sop v sd sa sb fn) := all _
theorem saddi (v sd sa : Nat) (imm : Int) : Statement (.saddi v sd sa imm) := all _
theorem smovk (v sd q imm : Nat) : Statement (.smovk v sd q imm) := all _
theorem sld (v sd sa : Nat) (imm : Int) : Statement (.sld v sd sa imm) := all _
theorem sst (v sd sa : Nat) (imm : Int) : Statement (.sst v sd sa imm) := all _
theorem beq (v sa sb : Nat) (off : Int) : Statement (.beq v sa sb off) := all _
theorem bne (v sa sb : Nat) (off : Int) : Statement (.bne v sa sb off) := all _
theorem blt (v sa sb : Nat) (off : Int) : Statement (.blt v sa sb off) := all _
theorem jmp (v : Nat) (off : Int) : Statement (.jmp v off) := all _
theorem csrr (v sd idx : Nat) : Statement (.csrr v sd idx) := all _
theorem waits (v slot cc : Nat) : Statement (.waits v slot cc) := all _
theorem waitsRelease (v : Nat) : Statement (.waitsRelease v) := all _
theorem tblw (v sa mcmask u : Nat) : Statement (.tblw v sa mcmask u) := all _
theorem rld (v sa sb : Nat) : Statement (.rld v sa sb) := all _
theorem rst (v sa sb : Nat) : Statement (.rst v sa sb) := all _
theorem remoteAccessComplete (v : Nat) : Statement (.remoteAccessComplete v) := all _
theorem vcoreEnd (v : Nat) : Statement (.vcoreEnd v) := all _
theorem vld (v vd sa : Nat) (off : Int) : Statement (.vld v vd sa off) := all _
theorem vst (v vd sa : Nat) (off : Int) : Statement (.vst v vd sa off) := all _
theorem vgather (v vd sa vb t : Nat) : Statement (.vgather v vd sa vb t) := all _
theorem vscatter (v vd sa vb t : Nat) : Statement (.vscatter v vd sa vb t) := all _
theorem vint (v vd va vb t fn : Nat) : Statement (.vint v vd va vb t fn) := all _
theorem vflt (v vd va vb t fn : Nat) : Statement (.vflt v vd va vb t fn) := all _
theorem vsel (v vd va vb t : Nat) : Statement (.vsel v vd va vb t) := all _
theorem vbcast (v vd sa t : Nat) : Statement (.vbcast v vd sa t) := all _
theorem vred (v sd va t fn : Nat) : Statement (.vred v sd va t fn) := all _
theorem vcvt (v vd va src t mod : Nat) : Statement (.vcvt v vd va src t mod) := all _
theorem vperm (v vd va vb t : Nat) : Statement (.vperm v vd va vb t) := all _
theorem vsort (v vd va vb t : Nat) : Statement (.vsort v vd va vb t) := all _
theorem vtopk (v vd va vb t : Nat) : Statement (.vtopk v vd va vb t) := all _
theorem vrng (v vd sa sb sc : Nat) : Statement (.vrng v vd sa sb sc) := all _
theorem streamTransfer (g : Nat) : Statement (.streamTransfer g) := all _
theorem portRequest (col : Nat) (src : PortSrc) : Statement (.portRequest col src) := all _
theorem columnDone (col : Nat) : Statement (.columnDone col) := all _
theorem rowStepStart (col : Nat) : Statement (.rowStepStart col) := all _
theorem rowStepEnd (col : Nat) : Statement (.rowStepEnd col) := all _
theorem queuePlace (col : Nat) : Statement (.queuePlace col) := all _
theorem withheldPrecharge : Statement .withheldPrecharge := all _
theorem refreshSlot (col : Nat) : Statement (.refreshSlot col) := all _
theorem scrubStepDue (col : Nat) : Statement (.scrubStepDue col) := all _
theorem bondSubstitution (col : Nat) : Statement (.bondSubstitution col) := all _
theorem calMem (weak : List (Nat × Nat)) : Statement (.calMem weak) := all _
theorem calD2d (weak : List (Nat × Nat × Nat)) : Statement (.calD2d weak) := all _
theorem calGarlet (port : Nat) (eyes : List Nat) (weak : List Nat) : Statement (.calGarlet port eyes weak) := all _
theorem sramWriteBack (a : Nat) : Statement (.sramWriteBack a) := all _
theorem ctrlWriteBack (blk word : Nat) (uncorr : Bool) : Statement (.ctrlWriteBack blk word uncorr) := all _
theorem slmAccess : Statement .slmAccess := all _
theorem flitArrival (r port : Nat) (noise : Flit) : Statement (.flitArrival r port noise) := all _
theorem reductionResult (r : Nat) : Statement (.reductionResult r) := all _
theorem injection (r m q : Nat) : Statement (.injection r m q) := all _
theorem routerDone (r : Nat) : Statement (.routerDone r) := all _
theorem unscheduledFlit (id : Nat) (noise : Flit) : Statement (.unscheduledFlit id noise) := all _
theorem req (id : Nat) : Statement (.req id) := all _
theorem resp (id : Nat) : Statement (.resp id) := all _
theorem d2dRetrainMarker (e : Nat) : Statement (.d2dRetrainMarker e) := all _
theorem d2dMaskReply (e : Nat) : Statement (.d2dMaskReply e) := all _
theorem d2dWidthConfirm (e : Nat) : Statement (.d2dWidthConfirm e) := all _
theorem halt (parityAt : Nat) : Statement (.halt parityAt) := all _
theorem trip : Statement .trip := all _
theorem fence (id : Nat) (parityBad : Bool) : Statement (.fence id parityBad) := all _
theorem fault (id : Nat) (parityBad : Bool) : Statement (.fault id parityBad) := all _
theorem therm (id : Nat) (parityBad : Bool) : Statement (.therm id parityBad) := all _
theorem event (id : Nat) (parityBad : Bool) : Statement (.event id parityBad) := all _
theorem arrive (id : Nat) (parityBad : Bool) : Statement (.arrive id parityBad) := all _
theorem release (id : Nat) (parityBad : Bool) : Statement (.release id parityBad) := all _
theorem notice (id : Nat) (parityBad : Bool) : Statement (.notice id parityBad) := all _
theorem chordTelem (id : Nat) (parityBad : Bool) : Statement (.chordTelem id parityBad) := all _
theorem evtPinWrite (k : Nat) (value : Word) : Statement (.evtPinWrite k value) := all _
theorem eventIn (k : Nat) : Statement (.eventIn k) := all _
theorem pinHalt (held : Bool) : Statement (.pinHalt held) := all _
theorem kvRequest (rec : BitVec 256) : Statement (.kvRequest rec) := all _
theorem copyEndReport (id : Nat) : Statement (.copyEndReport id) := all _
theorem prefixFlushed : Statement .prefixFlushed := all _
theorem descriptorStart (m : Nat) : Statement (.descriptorStart m) := all _
theorem descriptorComplete (m : Nat) : Statement (.descriptorComplete m) := all _
theorem hubDescriptorFetch (ch : Nat) : Statement (.hubDescriptorFetch ch) := all _
theorem hubDescriptorComplete (ch : Nat) : Statement (.hubDescriptorComplete ch) := all _
theorem hmoverTimeout (ch : Nat) : Statement (.hmoverTimeout ch) := all _
theorem doorbell (ch : Nat) : Statement (.doorbell ch) := all _
theorem retry (ch : Nat) : Statement (.retry ch) := all _
theorem skip (ch : Nat) : Statement (.skip ch) := all _
theorem append (q : Nat) (data : BitVec 256) (scheduled : Bool) : Statement (.append q data scheduled) := all _
theorem close (q : Nat) (scheduled : Bool) : Statement (.close q scheduled) := all _
theorem read (q len : Nat) : Statement (.read q len) := all _
theorem staleTimeout (q : Nat) : Statement (.staleTimeout q) := all _
theorem garletRecord (port : Nat) (rec : BitVec 2000) (uncorr : Bool) (corrected : Nat) : Statement (.garletRecord port rec uncorr corrected) := all _
theorem portRelease (port : Nat) : Statement (.portRelease port) := all _
theorem portDone (port : Nat) : Statement (.portDone port) := all _
theorem haltBlock (port : Nat) (b : BitVec 128) : Statement (.haltBlock port b) := all _
theorem mask (port : Nat) (b : BitVec 128) : Statement (.mask port b) := all _
theorem width (port : Nat) (b : BitVec 128) : Statement (.width port b) := all _
theorem swap (port : Nat) (b : BitVec 128) : Statement (.swap port b) := all _
theorem retrain (port : Nat) (b : BitVec 128) : Statement (.retrain port b) := all _
theorem laneSwap (port : Nat) : Statement (.laneSwap port) := all _
theorem garletTraining (port : Nat) (e : GarletStep) : Statement (.garletTraining port e) := all _
theorem qualifyEnd (port : Nat) (badLanes : List Nat) (uncorr : Bool) (symErrs : List Nat) : Statement (.qualifyEnd port badLanes uncorr symErrs) := all _
theorem gportRetrainCmd (port : Nat) : Statement (.gportRetrainCmd port) := all _
theorem zeleriGroup (data : List (BitVec 256)) (ctrl : BitVec 256) (arr : Nat) : Statement (.zeleriGroup data ctrl arr) := all _
theorem unackResend : Statement .unackResend := all _
theorem linkFail : Statement .linkFail := all _
theorem transactionAdmit : Statement .transactionAdmit := all _
theorem mrd (tag len addr : Nat) : Statement (.mrd tag len addr) := all _
theorem mwr (tag aop addr : Nat) (data : List (BitVec 256)) (checks : List Word) : Statement (.mwr tag aop addr data checks) := all _
theorem rrd (tag addr : Nat) : Statement (.rrd tag addr) := all _
theorem rwr (tag addr : Nat) (data : Word) : Statement (.rwr tag addr data) := all _
theorem mbx (tag q : Nat) (odd : Bool) (source : Word) (data : List (BitVec 256)) (checks : List Word) : Statement (.mbx tag q odd source data checks) := all _
theorem mbr (tag len q : Nat) : Statement (.mbr tag len q) := all _
theorem evt (tag cls : Nat) (data : Word) : Statement (.evt tag cls data) := all _
theorem telem (item : Nat) (value : Word) : Statement (.telem item value) := all _
theorem cpl (tag status : Nat) (data : List (BitVec 256)) (checks : List Word) : Statement (.cpl tag status data checks) := all _
theorem hostHalt (b : BitVec 128) : Statement (.hostHalt b) := all _
theorem zeleriTraining (e : ZeleriStep) : Statement (.zeleriTraining e) := all _
theorem zlinkRetrainCmd : Statement .zlinkRetrainCmd := all _
theorem sensorRead (reads : List Int) : Statement (.sensorRead reads) := all _
theorem graceExpiry : Statement .graceExpiry := all _
theorem thermalTrip : Statement .thermalTrip := all _
theorem tripClear : Statement .tripClear := all _
theorem telemStale : Statement .telemStale := all _
theorem lowFlow : Statement .lowFlow := all _
theorem powerWindow : Statement .powerWindow := all _
theorem pmbusPoll (reads : List RailRead) : Statement (.pmbusPoll reads) := all _
theorem backupSwitchover (rail : Nat) : Statement (.backupSwitchover rail) := all _
theorem mainReturn (rail : Nat) : Statement (.mainReturn rail) := all _
theorem railLost (rail : Nat) : Statement (.railLost rail) := all _
theorem retentionEntry (rail : Nat) : Statement (.retentionEntry rail) := all _
theorem selfRefreshReached : Statement .selfRefreshReached := all _
theorem plateMinute (writeOk : Bool) : Statement (.plateMinute writeOk) := all _
theorem swingJudgement : Statement .swingJudgement := all _
theorem ucalVal (value : Int) : Statement (.ucalVal value) := all _
theorem perstRise (addrStraps : Nat) (factory : Bool) : Statement (.perstRise addrStraps factory) := all _
theorem bringUp (i : BringUpIn) : Statement (.bringUp i) := all _
theorem warmBringUp : Statement .warmBringUp := all _
theorem packageReset : Statement .packageReset := all _
theorem controlReset (blk : Nat) : Statement (.controlReset blk) := all _
theorem controlFence (blk : Nat) : Statement (.controlFence blk) := all _
theorem controlEnable (blk : Nat) (value : Bool) : Statement (.controlEnable blk value) := all _
theorem lock (blk : Nat) : Statement (.lock blk) := all _
theorem flipArm (col : Nat) : Statement (.flipArm col) := all _
theorem faultInfoClear : Statement .faultInfoClear := all _
theorem registerWrite (who : Requester) (addr : Nat) (value : Word) : Statement (.registerWrite who addr value) := all _
theorem stage (unit : Nat) : Statement (.stage unit) := all _
theorem stageComplete (verifyError : Bool) : Statement (.stageComplete verifyError) := all _
theorem arm : Statement .arm := all _
theorem disarm : Statement .disarm := all _
theorem activation : Statement .activation := all _
theorem health (who : Requester) (proc : Nat) (word : Word) : Statement (.health who proc word) := all _
theorem healthTimeout (proc : Nat) : Statement (.healthTimeout proc) := all _
theorem watchdogExpiry (proc : Nat) : Statement (.watchdogExpiry proc) := all _
theorem wdogKick (proc : Nat) : Statement (.wdogKick proc) := all _
theorem heldWrite : Statement .heldWrite := all _
theorem recoveryStatus : Statement .recoveryStatus := all _
theorem recoveryLoad (flashError : Bool) : Statement (.recoveryLoad flashError) := all _
theorem recoveryRestart : Statement .recoveryRestart := all _
theorem attEvidence : Statement .attEvidence := all _
theorem attCertificates : Statement .attCertificates := all _
theorem attPublicKey : Statement .attPublicKey := all _
theorem i2cOffsetWrite (byte : Byte) : Statement (.i2cOffsetWrite byte) := all _
theorem i2cRead (count : Nat) : Statement (.i2cRead count) := all _
theorem i2cBlockRefresh : Statement .i2cBlockRefresh := all _
theorem jtagInstruction (code : Nat) : Statement (.jtagInstruction code) := all _
theorem d2dQualificationEnd (e ownMask : Nat) : Statement (.d2dQualificationEnd e ownMask) := all _
theorem peerStreamStop (port : Nat) : Statement (.peerStreamStop port) := all _
theorem attestationComplete : Statement .attestationComplete := all _
theorem processorMemoryUncorr (proc : Nat) : Statement (.processorMemoryUncorr proc) := all _

end Sys2Proof.Laws.Unencoded
end

