-- ==== Sys2Proof/Laws/Regs.lean ====
section
/-! SUPPORT. Unit tables, facet registers and error flags: what reads after what was written, and what else stays. -/

namespace Sys2Proof.Machine

/-! ## Unit tables -/

theorem mc_setMc (s : State) (g h : Nat) (f : MCore → MCore) : mc (setMc s g f) h = if h = g then f (mc s g) else mc s h :=
  Assoc.getD_put_some _ _ _ _ _
theorem vc_setVc (s : State) (g h : Nat) (f : VCore → VCore) : vc (setVc s g f) h = if h = g then f (vc s g) else vc s h :=
  Assoc.getD_put_some _ _ _ _ _
theorem col_setCol (s : State) (g h : Nat) (f : Column → Column) : col (setCol s g f) h = if h = g then f (col s g) else col s h :=
  Assoc.getD_put_some _ _ _ _ _
theorem rtr_setRtr (s : State) (g h : Nat) (f : Router → Router) : rtr (setRtr s g f) h = if h = g then f (rtr s g) else rtr s h :=
  Assoc.getD_put_some _ _ _ _ _
theorem dd_setDd (s : State) (g h : Nat) (f : D2DEnd → D2DEnd) : dd (setDd s g f) h = if h = g then f (dd s g) else dd s h :=
  Assoc.getD_put_some _ _ _ _ _
theorem smv_setSmv (s : State) (g h : Nat) (f : SMover → SMover) : smv (setSmv s g f) h = if h = g then f (smv s g) else smv s h :=
  Assoc.getD_put_some _ _ _ _ _
theorem hmv_setHmv (s : State) (g h : Nat) (f : HMover → HMover) : hmv (setHmv s g f) h = if h = g then f (hmv s g) else hmv s h :=
  Assoc.getD_put_some _ _ _ _ _
theorem mbx_setMbx (s : State) (g h : Nat) (f : MBox → MBox) : mbx (setMbx s g f) h = if h = g then f (mbx s g) else mbx s h :=
  Assoc.getD_put_some _ _ _ _ _
theorem gp_setGp (s : State) (g h : Nat) (f : GPort → GPort) : gp (setGp s g f) h = if h = g then f (gp s g) else gp s h :=
  Assoc.getD_put_some _ _ _ _ _

@[simp] theorem mc_setMc_same (s : State) (g : Nat) (f : MCore → MCore) : mc (setMc s g f) g = f (mc s g) := by simp [mc_setMc]
@[simp] theorem vc_setVc_same (s : State) (g : Nat) (f : VCore → VCore) : vc (setVc s g f) g = f (vc s g) := by simp [vc_setVc]
@[simp] theorem col_setCol_same (s : State) (g : Nat) (f : Column → Column) : col (setCol s g f) g = f (col s g) := by simp [col_setCol]
@[simp] theorem rtr_setRtr_same (s : State) (g : Nat) (f : Router → Router) : rtr (setRtr s g f) g = f (rtr s g) := by simp [rtr_setRtr]
@[simp] theorem dd_setDd_same (s : State) (g : Nat) (f : D2DEnd → D2DEnd) : dd (setDd s g f) g = f (dd s g) := by simp [dd_setDd]
@[simp] theorem smv_setSmv_same (s : State) (g : Nat) (f : SMover → SMover) : smv (setSmv s g f) g = f (smv s g) := by simp [smv_setSmv]
@[simp] theorem hmv_setHmv_same (s : State) (g : Nat) (f : HMover → HMover) : hmv (setHmv s g f) g = f (hmv s g) := by simp [hmv_setHmv]
@[simp] theorem mbx_setMbx_same (s : State) (g : Nat) (f : MBox → MBox) : mbx (setMbx s g f) g = f (mbx s g) := by simp [mbx_setMbx]
@[simp] theorem gp_setGp_same (s : State) (g : Nat) (f : GPort → GPort) : gp (setGp s g f) g = f (gp s g) := by simp [gp_setGp]

/-! ## Registers -/

theorem getReg_congr {s t : State} (h : t.regs = s.regs) (b o : Nat) : getReg t b o = getReg s b o := by
  unfold getReg; rw [h]

/-- The register written reads as the number's low 32 bits. -/
theorem getReg_setReg_same {s : State} (b o v : Nat) (h : Assoc.sorted s.regs = true) : getReg (setReg s b o v) b o = v % 2 ^ 32 := by
  unfold getReg setReg
  dsimp only
  rw [Assoc.get?_put _ _ h]
  split <;> rename_i hw
  · split at hw
    · cases hw
    · cases hw; simp
  · split at hw
    · rename_i he; exact he.symm
    · cases hw

/-- Every other register reads as before. -/
theorem getReg_setReg_ne {s : State} (b o v b' o' : Nat) (ho : o < 4096) (ho' : o' < 4096) (h : (b', o') ≠ (b, o)) :
    getReg (setReg s b o v) b' o' = getReg s b' o' := by
  unfold getReg setReg
  dsimp only
  rw [Assoc.get?_put_ne]
  intro he
  have : b' = b ∧ o' = o := by omega
  exact h (by rw [this.1, this.2])

theorem getReg_setReg {s : State} (b o v b' o' : Nat) (h : Assoc.sorted s.regs = true) (ho : o < 4096) (ho' : o' < 4096) :
    getReg (setReg s b o v) b' o' = if b' = b ∧ o' = o then v % 2 ^ 32 else getReg s b' o' := by
  split
  · rename_i he; rw [he.1, he.2, getReg_setReg_same b o v h]
  · rename_i he
    exact getReg_setReg_ne b o v b' o' ho ho' (by simpa using he)

/-- A stored register fits in 32 bits when its reset value does. -/
theorem getReg_lt (s : State) (b o : Nat) (h : regReset b o < 2 ^ 32) : getReg s b o < 2 ^ 32 := by
  unfold getReg
  split
  · rename_i w _; exact w.isLt
  · exact h

/-! ## Error flags -/

/-- Setting one bit of an error summary, seen through the registers: the other fields it writes are no register. -/
theorem getReg_setErrBit (s : State) (b i b' o : Nat) :
    getReg (setErrBit s b i) b' o = getReg (setReg s b Off.ERR_SUMMARY (errSummary s b ||| 2 ^ i)) b' o := rfl

/-- A notice on its way changes no register. -/
theorem getReg_launchNotice (s : State) (src target line cls b o : Nat) :
    getReg (launchNotice s src target line cls) b o = getReg s b o := rfl

/-- A bit set in an error summary is set. -/
theorem errSummary_setErrBit {s : State} (b i : Nat) (h : Assoc.sorted s.regs = true) (hi : i < 32) :
    (errSummary (setErrBit s b i) b).testBit i = true := by
  rw [errSummary, getReg_setErrBit, getReg_setReg_same _ _ _ h, Nat.testBit_mod_two_pow]
  simp [hi, Nat.testBit_or]

/-- Another bit set in an error summary keeps those that were set. -/
theorem errSummary_setErrBit_mono {s : State} (b i b' j : Nat) (h : Assoc.sorted s.regs = true) (hj : j < 32)
    (hb : (errSummary s b').testBit j = true) : (errSummary (setErrBit s b i) b').testBit j = true := by
  rw [errSummary, getReg_setErrBit, getReg_setReg b _ _ b' _ h (by decide) (by decide)]
  split
  · rename_i he
    rw [Nat.testBit_mod_two_pow, ← he.1]
    simp [hj, Nat.testBit_or, hb]
  · exact hb

theorem sorted_setErrBit {s : State} (b i : Nat) (h : Assoc.sorted s.regs = true) :
    Assoc.sorted (setErrBit s b i).regs = true := Assoc.sorted_put _ _ h

theorem errSummary_badTarget_mono {s : State} (n b' j : Nat) (h : Assoc.sorted s.regs = true) (hj : j < 32)
    (hb : (errSummary s b').testBit j = true) : (errSummary (badTarget s n) b').testBit j = true := by
  unfold badTarget
  dsimp only
  split
  · exact errSummary_setErrBit_mono _ _ _ _ h hj hb
  · exact errSummary_setErrBit_mono _ _ _ _ h hj hb

theorem errSummary_routeNotice_mono {s : State} (b b' j : Nat) (h : Assoc.sorted s.regs = true) (hj : j < 32)
    (hb : (errSummary s b').testBit j = true) : (errSummary (routeNotice s b) b').testBit j = true := by
  unfold routeNotice sendNotice
  dsimp only
  repeat' split
  · exact hb
  · exact errSummary_badTarget_mono _ _ _ h hj hb
  · exact hb

/-- Setting an error bit sets it. -/
theorem errSummary_setErr {s : State} (b i : Nat) (h : Assoc.sorted s.regs = true) (hi : i < 32) :
    (errSummary (setErr s b i) b).testBit i = true := by
  unfold setErr
  dsimp only
  split
  · exact errSummary_routeNotice_mono _ _ _ (sorted_setErrBit b i h) hi (errSummary_setErrBit b i h hi)
  · exact errSummary_setErrBit b i h hi

/-- ... and keeps every bit that was set. -/
theorem errSummary_setErr_mono {s : State} (b i b' j : Nat) (h : Assoc.sorted s.regs = true) (hj : j < 32)
    (hb : (errSummary s b').testBit j = true) : (errSummary (setErr s b i) b').testBit j = true := by
  unfold setErr
  dsimp only
  split
  · exact errSummary_routeNotice_mono _ _ _ (sorted_setErrBit b i h) hj (errSummary_setErrBit_mono _ _ _ _ h hj hb)
  · exact errSummary_setErrBit_mono _ _ _ _ h hj hb

/-- Setting an error bit changes registers, what is kept of their changes in this cc, and the Chord network only. -/
theorem setErr_frame (s : State) (b i : Nat) :
    setErr s b i = { s with regs := (setErr s b i).regs, regCc := (setErr s b i).regCc,
                            chord := (setErr s b i).chord } := by
  unfold setErr routeNotice sendNotice badTarget
  dsimp only
  repeat' split
  all_goals rfl

/-- ... of the registers, only error summaries. -/
theorem getReg_setErr (s : State) (b i b' o : Nat) (ho : o < 4096) (h : o ≠ Off.ERR_SUMMARY) :
    getReg (setErr s b i) b' o = getReg s b' o := by
  have hk (t : State) (c j : Nat) : getReg (setErrBit t c j) b' o = getReg t b' o := by
    rw [getReg_setErrBit]
    exact getReg_setReg_ne c _ _ b' o (by decide) ho (by simp [h])
  unfold setErr routeNotice sendNotice badTarget
  dsimp only
  repeat' split
  all_goals simp only [getReg_launchNotice, hk]

end Sys2Proof.Machine
end

