-- ==== Sys2Proof/Laws/VCores.lean ====
section
/-! SUPPORT. What the V-core's shared operations do. -/

namespace Sys2Proof.Machine

theorem onUnit_lt {n i : Nat} {s : State} {f : State → State} (h : i < n) : onUnit n i s f = .next (f s) := by
  simp [onUnit, h]

theorem onUnit_ge {n i : Nat} {s : State} {f : State → State} (h : n ≤ i) : onUnit n i s f = .fault .noSuchUnit := by
  simp [onUnit, Nat.not_lt.mpr h]

/-- The state in which a V-core has issued an instruction and gone to the next. -/
def vecIssue (s : State) (v : Nat) : State :=
  setVc s v (fun m => { m with pc := m.pc + 1, issued := s.now + 1, hold := .none })

@[simp] theorem vecIssue_vc (s : State) (v : Nat) :
    vc (vecIssue s v) v = { vc s v with pc := (vc s v).pc + 1, issued := s.now + 1, hold := .none } := vc_setVc_same _ _ _
@[simp] theorem vecIssue_now (s : State) (v : Nat) : (vecIssue s v).now = s.now := rfl
@[simp] theorem vecIssue_freeCtr (s : State) (v : Nat) : (vecIssue s v).freeCtr = s.freeCtr := rfl
@[simp] theorem vecIssue_mem (s : State) (v : Nat) : (vecIssue s v).mem = s.mem := rfl
@[simp] theorem vecIssue_sreg (s : State) (v i : Nat) : sreg (vc (vecIssue s v) v) i = sreg (vc s v) i := by simp [sreg]
@[simp] theorem vecIssue_vreg (s : State) (v i : Nat) : vreg (vc (vecIssue s v) v) i = vreg (vc s v) i := by simp [vreg]

/-- An instruction that may issue goes on from the state in which it has issued. -/
theorem vecGo_may {s : State} {v : Nat} {op : VInstr} {ss vs us : List Nat} (f : State → State) (h : VecMay s v op ss vs us) :
    vecGo s v op ss vs us f = f (vecIssue s v) := by
  simp [vecGo, h.2.1, h.2.2.1, h.2.2.2, vecIssue]

/-- A V-core's issue changes the V-core only. -/
theorem onlyVcore_setVc (s : State) (v : Nat) (f : VCore → VCore) : onlyVcore v s (setVc s v f) :=
  ⟨rfl, fun h hh => by simp [vc_setVc, hh]⟩

theorem onlyVcore_trans {v : Nat} {s t u : State} (h1 : onlyVcore v s t) (h2 : onlyVcore v t u) : onlyVcore v s u := by
  refine ⟨?_, fun h hh => (h2.2 h hh).trans (h1.2 h hh)⟩
  rw [h2.1, h1.1]

theorem onlyVcore_vecIssue (s : State) (v : Nat) : onlyVcore v s (vecIssue s v) := onlyVcore_setVc _ _ _

/-- Registers after a write of scalar register `sd`. -/
theorem sreg_putS (s : State) (v sd x lat i : Nat) :
    sreg (vc (putS s v sd x lat) v) i = if i = sd ∧ sd ≠ 0 then x % 2 ^ 64 else sreg (vc s v) i := by
  unfold putS
  split
  · simp_all
  · rename_i h0
    simp only [vc_setVc_same, sreg, Assoc.getD_put_some]
    by_cases hi : i = 0
    · simp [hi, Ne.symm h0]
    · by_cases hs : i = sd <;> simp [hi, hs, h0]

theorem vreg_putS (s : State) (v sd x lat i : Nat) : vreg (vc (putS s v sd x lat) v) i = vreg (vc s v) i := by
  unfold putS
  split
  · rfl
  · simp [vreg]

theorem putS_fields (s : State) (v sd x lat : Nat) :
    putS s v sd x lat = { s with vcores := (putS s v sd x lat).vcores } ∧
    (vc (putS s v sd x lat) v).pc = (vc s v).pc ∧ (vc (putS s v sd x lat) v).issued = (vc s v).issued ∧
    (vc (putS s v sd x lat) v).hold = (vc s v).hold ∧ (vc (putS s v sd x lat) v).busy = (vc s v).busy := by
  unfold putS
  split
  · exact ⟨rfl, rfl, rfl, rfl, rfl⟩
  · refine ⟨rfl, ?_, ?_, ?_, ?_⟩ <;> rw [vc_setVc_same]

theorem onlyVcore_putS (s : State) (v sd x lat : Nat) : onlyVcore v s (putS s v sd x lat) := by
  unfold putS
  split
  · exact ⟨rfl, fun _ _ => rfl⟩
  · exact onlyVcore_setVc _ _ _

theorem sReady_putS (s : State) (v sd x lat : Nat) (h : sd ≠ 0) :
    Assoc.getD 0 sd (vc (putS s v sd x lat) v).sReady = s.now + lat := by
  simp [putS, h]

/-- Registers after a write of vector register `vd`. -/
theorem vreg_putV (s : State) (v vd : Nat) (x : VReg) (lat i : Nat) :
    vreg (vc (putV s v vd x lat) v) i = if i = vd then x else vreg (vc s v) i := by
  simp only [putV, vc_setVc_same, vreg, Assoc.getD_put_some]

end Sys2Proof.Machine
end

