-- ==== Sys2Proof/Tests/Slice0.lean ====
section
/-! SUPPORT. Tests: a term that each well-formedness check refuses, program words written out from their
encodings, and for every statement a concrete state and operands that meet its hypotheses together. -/

namespace Sys2Proof.Tests

open Sys2Proof.Machine

set_option Elab.async false

/-! ## States to test on -/

/-- Sections of a tile program and of a V-core program holding these operations. -/
def tileSec (g : Nat) (ops : List TileOp) : Section :=
  ⟨4, Ty.MCORE, g, leBytes 4 0 ++ leBytes 2 ops.length ++ List.replicate 26 0 ++ ops.flatMap (fun o => leBytes 8 (encodeTile o))⟩
def vecSec (v : Nat) (ops : List VInstr) : Section :=
  ⟨5, Ty.VCORE, v, leBytes 4 0 ++ leBytes 4 ops.length ++ List.replicate 8 0 ++ ops.flatMap (fun o => leBytes 4 (encodeVec o))⟩

/-- A package that runs a program of seven slots, slot k of class k, at a place in frame 5, with these blocks
enabled. -/
def st (secs : List Section) (slot cc : Nat) (en : List Nat) : State :=
  en.foldl (fun s b => setReg s b Off.CONTROL 1)
    { State.reset with
      power := .run, now := 1000 + 64 * slot + cc,
      ft := { FTimer.init with tickAt := 1000, frame := 5, pstate := 3, onProg := true },
      prog := some ⟨7, 4, 0, 0, 0, 1, 7, 0, 0, 0, [0, 1, 2, 3, 4, 5, 6], secs⟩,
      shape := { Shape.init with published := true, step := 12 },
      pins := { Pins.init with perstHigh := true } }

/-- The package ready, with no program. -/
def idle (slot cc : Nat) : State :=
  { st [] slot cc [] with power := .ready, ft := { FTimer.init with tickAt := 1000, frame := 5 }, prog := none }

/-- V-core 31 at an instruction; s1 to s4 hold the last addresses for 8, 256, 3,104 and 32 bytes of local memory,
s5 holds 96. -/
def vst (op : VInstr) : State :=
  setVc (st [vecSec 31 [op]] 1 10 [blk Ty.VCORE 31]) 31
    (fun m => { m with running := true, sregs := [(1, 0x3FFFF8), (2, 0x3FFF00), (3, 0x3FF3E0), (4, 0x3FFFE0), (5, 96)] })

/-- M-core 127 at a tile operation. -/
def tst (op : TileOp) : State :=
  setMc (st [tileSec 127 [op]] 1 10 [blk Ty.MCORE 127]) 127 (fun m => { m with running := true })

theorem inv_st (secs : List Section) : Inv (st secs 1 10 []) := ⟨by rfl, by rfl, by rfl⟩

/-! ## V-cores -/

theorem witness_vcore_scalar :
    VecMay (vst (.saddi 2 1 (-5))) 31 (.saddi 2 1 (-5)) [1] [] [] ∧ VecMay (vst (.smovk 31 3 0xFFFF)) 31 (.smovk 31 3 0xFFFF) [31] [] []
      ∧ VecMay (vst (.csrr 1 6)) 31 (.csrr 1 6) [] [] [] ∧ VecMay (vst (.vred 0 15 7 2)) 31 (.vred 0 15 7 2) [] [15] []
      ∧ VecMay (vst (.sop 3 1 2 16)) 31 (.sop 3 1 2 16) [1, 2] [] (sopUnits 16) ∧ VecMay (vst (.sop 3 1 2 0)) 31 (.sop 3 1 2 0) [1, 2] [] (sopUnits 0) := by
  unfold VecMay; decide +kernel

theorem witness_vcore_vector :
    VecMay (vst (.vsel 15 1 2 0)) 31 (.vsel 15 1 2 0) [] [1, 2, 15] [] ∧ VecMay (vst (.vbcast 0 1 7)) 31 (.vbcast 0 1 7) [1] [] []
      ∧ VecMay (vst (.vperm 3 3 3 2)) 31 (.vperm 3 3 3 2) [] [3, 3] [] ∧ VecMay (vst (.vrng 15 1 2 31)) 31 (.vrng 15 1 2 31) [1, 2, 31] [] [uRng]
      ∧ VecMay (vst (.vint 0 1 2 7 12)) 31 (.vint 0 1 2 7 12) [] [1, 2] []
      ∧ VecMay (vst (.vflt 0 1 2 4 11)) 31 (.vflt 0 1 2 4 11) [] [1, 2] [] ∧ VecMay (vst (.vflt 0 1 2 3 3)) 31 (.vflt 0 1 2 3 3) [] [1, 2, 0] []
      ∧ VecMay (vst (.vflt 0 1 2 6 9)) 31 (.vflt 0 1 2 6 9) [] [1, 2] [uVdiv] ∧ VecMay (vst (.vcvt 0 1 4 0 31)) 31 (.vcvt 0 1 4 0 31) [] [1, 0] [] := by
  unfold VecMay; decide +kernel

theorem witness_vcore_pair :
    VecMay (vst (.vsort 14 1 2 4)) 31 (.vsort 14 1 2 4) [] [1, 2] [uSort] ∧ VecMay (vst (.vtopk 0 1 2 2)) 31 (.vtopk 0 1 2 2) [] [1, 2, 0, 1] [uSort] := by
  unfold VecMay; decide +kernel

theorem witness_vcore_branches :
    VecMay (vst (.beq 1 1 5)) 31 (.beq 1 1 5) [1, 1] [] [] ∧ VecMay (vst (.bne 1 0 (-1))) 31 (.bne 1 0 (-1)) [1, 0] [] []
      ∧ VecMay (vst (.blt 0 1 2)) 31 (.blt 0 1 2) [0, 1] [] [] ∧ VecMay (vst (.jmp 0)) 31 (.jmp 0) [] [] [] := by
  unfold VecMay; decide +kernel

/-- A V-core that a WAITS has held, issued `ago` cc before this cc. -/
def vheld (slot cc ago : Nat) : State :=
  setVc (vst .nop) 31 (fun m => { m with hold := .position slot cc, issued := 1000 + 64 + 10 + 1 - ago })

theorem witness_vcore_sequencing :
    VecMay (vst .nop) 31 .nop [] [] [] ∧ VecMay (vst (.waits 4095 63)) 31 (.waits 4095 63) [] [] []
      ∧ ((vc (vheld 1 10 9) 31).hold = .position 1 10 ∧ workOpen (vheld 1 10 9) (blk Ty.VCORE 31) = true ∧ 64 * 1 + 10 ≤ frameCc (vheld 1 10 9)
        ∧ 64 * slotAt (vheld 1 10 9) ((vc (vheld 1 10 9) 31).issued - 1) + ccAt (vheld 1 10 9) ((vc (vheld 1 10 9) 31).issued - 1) ≤ 64 * 1 + 10)
      ∧ ((vc (vheld 1 0 9) 31).hold = .position 1 0 ∧ workOpen (vheld 1 0 9) (blk Ty.VCORE 31) = true ∧ 64 * 1 + 0 ≤ frameCc (vheld 1 0 9)
        ∧ 64 * 1 + 0 < 64 * slotAt (vheld 1 0 9) ((vc (vheld 1 0 9) 31).issued - 1) + ccAt (vheld 1 0 9) ((vc (vheld 1 0 9) 31).issued - 1))
      ∧ vecReady (vst .endFrame) 31 .endFrame = true
      ∧ (let s := setVc (vst .nop) 31 (fun m => { m with pc := 1 })
        workOpen s (blk Ty.VCORE 31) = true ∧ (vc s 31).running = true ∧ (vc s 31).stopped = false ∧ (vc s 31).done = false
          ∧ (vc s 31).fenced = false ∧ (vc s 31).issued ≠ s.now + 1 ∧ vHoldFree (vc s 31).hold s.now = true ∧ vecCount (vecBody s 31) ≤ (vc s 31).pc) := by
  unfold VecMay; decide +kernel

theorem inv_vheld : Inv (vheld 1 0 9) := ⟨by rfl, by rfl, by rfl⟩

theorem witness_vcore_loads :
    (VecMay (vst (.sld 2 1 0)) 31 (.sld 2 1 0) [1] [] [uPort] ∧ remoteClear (vc (vst (.sld 2 1 0)) 31) 0x3FFFF8 8 = true
        ∧ unsignedOf 64 ((sreg (vc (vst (.sld 2 1 0)) 31) 1 : Int) + 0) = 0x3FFFF8 ∧ spanClean (vst (.sld 2 1 0)) (vmemAddr 31 0x3FFFF8) 8)
      ∧ (VecMay (vst (.vld 2 2 0)) 31 (.vld 2 2 0) [2] [] [uPort] ∧ remoteClear (vc (vst (.vld 2 2 0)) 31) 0x3FFF00 256 = true
        ∧ unsignedOf 64 ((sreg (vc (vst (.vld 2 2 0)) 31) 2 : Int) + 32 * 0) = 0x3FFF00 ∧ spanClean (vst (.vld 2 2 0)) (vmemAddr 31 0x3FFF00) 256)
      ∧ (VecMay (vst (.vgather 2 1 2 7)) 31 (.vgather 2 1 2 7) [1] [2] [uGather, uPort]
        ∧ ∀ a ∈ (vElems 7 (vreg (vc (vst (.vgather 2 1 2 7)) 31) 2)).map (fun i => (sreg (vc (vst (.vgather 2 1 2 7)) 31) 1 + i * (vWidth 7 / 8)) % 2 ^ 64),
          remoteClear (vc (vst (.vgather 2 1 2 7)) 31) a (vWidth 7 / 8) = true ∧ a % (vWidth 7 / 8) = 0 ∧ a + vWidth 7 / 8 ≤ 0x400000
            ∧ spanClean (vst (.vgather 2 1 2 7)) (vmemAddr 31 a) (vWidth 7 / 8)) := by
  unfold VecMay spanClean; decide +kernel

theorem witness_vcore_stores :
    (VecMay (vst (.sst 5 1 0)) 31 (.sst 5 1 0) [5, 1] [] [] ∧ unsignedOf 64 ((sreg (vc (vst (.sst 5 1 0)) 31) 1 : Int) + 0) = 0x3FFFF8
        ∧ spanClean (vst (.sst 5 1 0)) (vmemAddr 31 0x3FFFF8) 8)
      ∧ (VecMay (vst (.vst 2 2 0)) 31 (.vst 2 2 0) [2] [2] [] ∧ unsignedOf 64 ((sreg (vc (vst (.vst 2 2 0)) 31) 2 : Int) + 32 * 0) = 0x3FFF00)
      ∧ (VecMay (vst (.vscatter 2 1 2 2)) 31 (.vscatter 2 1 2 2) [1] [2, 2] [uGather]
        ∧ ∀ a ∈ (vElems 2 (vreg (vc (vst (.vscatter 2 1 2 2)) 31) 2)).map (fun i => (sreg (vc (vst (.vscatter 2 1 2 2)) 31) 1 + i * (vWidth 2 / 8)) % 2 ^ 64),
          a % (vWidth 2 / 8) = 0 ∧ a + vWidth 2 / 8 ≤ 0x400000 ∧ spanClean (vst (.vscatter 2 1 2 2)) (vmemAddr 31 a) (vWidth 2 / 8)) := by
  unfold VecMay spanClean; decide +kernel

theorem inv_vst : Inv (vst (.sst 5 1 0)) := ⟨by rfl, by rfl, by rfl⟩

/-- One past the last address, and one byte off alignment. -/
theorem witness_vcore_access_fault :
    (VecMay (vst (.sld 2 1 8)) 31 (.sld 2 1 8) [1] [] [uPort] ∧ remoteClear (vc (vst (.sld 2 1 8)) 31) 0x400000 8 = true
        ∧ 0x400000 < unsignedOf 64 ((sreg (vc (vst (.sld 2 1 8)) 31) 1 : Int) + 8) + 8)
      ∧ (VecMay (vst (.sst 5 1 1)) 31 (.sst 5 1 1) [5, 1] [] [] ∧ unsignedOf 64 ((sreg (vc (vst (.sst 5 1 1)) 31) 1 : Int) + 1) % 8 ≠ 0)
      ∧ (VecMay (vst (.vld 2 2 1)) 31 (.vld 2 2 1) [2] [] [uPort] ∧ remoteClear (vc (vst (.vld 2 2 1)) 31) 0x3FFF20 256 = true
        ∧ 0x400000 < unsignedOf 64 ((sreg (vc (vst (.vld 2 2 1)) 31) 2 : Int) + 32 * 1) + 256)
      ∧ (VecMay (vst (.vst 2 2 1)) 31 (.vst 2 2 1) [2] [2] [] ∧ 0x400000 < unsignedOf 64 ((sreg (vc (vst (.vst 2 2 1)) 31) 2 : Int) + 32 * 1) + 256) := by
  unfold VecMay; decide +kernel

/-- V-core 31 with a remote access whose reply has come. -/
def vremote (write : Bool) : State :=
  setVc (vst .nop) 31 (fun m => { m with remote := some ⟨write, 0x4000000000, 0x3FFFE0, 0, some (List.replicate 32 7, 0)⟩ })

theorem witness_vcore_remote :
    (VecMay (vst (.rld 5 4)) 31 (.rld 5 4) [5, 4] [] [] ∧ (vc (vst (.rld 5 4)) 31).remote = none ∧ sreg (vc (vst (.rld 5 4)) 31) 5 % 32 = 0
        ∧ sreg (vc (vst (.rld 5 4)) 31) 4 % 32 = 0 ∧ sreg (vc (vst (.rld 5 4)) 31) 4 + 32 ≤ 0x400000)
      ∧ (VecMay (vst (.rst 5 4)) 31 (.rst 5 4) [5, 4] [] [] ∧ (vc (vst (.rst 5 4)) 31).remote = none ∧ sreg (vc (vst (.rst 5 4)) 31) 5 % 32 = 0
        ∧ sreg (vc (vst (.rst 5 4)) 31) 4 % 32 = 0 ∧ sreg (vc (vst (.rst 5 4)) 31) 4 + 32 ≤ 0x400000
        ∧ spanClean (vst (.rst 5 4)) (vmemAddr 31 (sreg (vc (vst (.rst 5 4)) 31) 4)) 32)
      ∧ ((vc (vremote false) 31).remote = some ⟨false, 0x4000000000, 0x3FFFE0, 0, some (List.replicate 32 7, 0)⟩
        ∧ Assoc.get? 31 (vremote false).ft.stops = none ∧ (vc (vremote false) 31).fenced = false)
      ∧ (vc (vremote true) 31).remote = some ⟨true, 0x4000000000, 0x3FFFE0, 0, some (List.replicate 32 7, 0)⟩
      ∧ (VecMay (vst (.tblw 3 15 7)) 31 (.tblw 3 15 7) [3] [] [uPort] ∧ remoteClear (vc (vst (.tblw 3 15 7)) 31) 0x3FF3E0 3104 = true
        ∧ sreg (vc (vst (.tblw 3 15 7)) 31) 3 = 0x3FF3E0 ∧ spanClean (vst (.tblw 3 15 7)) (vmemAddr 31 0x3FF3E0) 3104
        ∧ good (vst (.tblw 3 15 7)) (blk Ty.MCORE (4 * 31 + 3)) = true) := by
  unfold VecMay spanClean; decide +kernel

theorem inv_vremote : Inv (vremote false) := ⟨by rfl, by rfl, by rfl⟩

/-! ## M-cores -/

theorem witness_tile_control :
    TileMay (tst .nop) 127 .nop ∧ TileMay (tst (.loop 0 4095)) 127 (.loop 0 4095)
      ∧ (TileMay (tst (.setb 7 65535 15 4095)) 127 (.setb 7 65535 15 4095) ∧ 7 < (mc (tst (.setb 7 65535 15 4095)) 127).bases.length)
      ∧ (TileMay (tst (.addb 0 (-32768))) 127 (.addb 0 (-32768)) ∧ 0 < (mc (tst (.addb 0 (-32768))) 127).bases.length)
      ∧ TileMay (tst (.brf 0 0 4095)) 127 (.brf 0 0 4095)
      ∧ (TileMay (tst (.fill 0 15)) 127 (.fill 0 15) ∧ macFree (tst (.fill 0 15)) 127 = true)
      ∧ TileMay (tst (.wait 4095 63)) 127 (.wait 4095 63) ∧ TileMay (tst .endFrame) 127 .endFrame := by
  unfold TileMay; decide +kernel

/-- Three nested loops that end together, on their last and on an earlier pass. -/
theorem witness_loop :
    (({ MCore.init with loops := [⟨5, 9, 2⟩] } : MCore).goto 9).pc = 5
      ∧ (({ MCore.init with loops := [⟨5, 9, 1⟩, ⟨2, 12, 3⟩] } : MCore).goto 9).pc = 9 ∧ ∀ k ∈ [(⟨2, 12, 3⟩ : LoopFrame)], k.stop ≠ 9 := by
  decide +kernel

def macA : MacOp := ⟨0, 0, 10, 10, 1, 1, 127, 0, 0, 1, 7, 0⟩
def ldaA : LdaOp := ⟨3, 1, 15, 0, 0, 8191⟩
def finA : FinOp := ⟨511, 0, 12, 0, 0, 0, 0, 0, 7, 8191, 0, 0⟩

theorem witness_tile_units :
    (TileMay (tst (.mac macA)) 127 (.mac macA) ∧ macFree (tst (.mac macA)) 127 = true)
      ∧ (TileMay (tst (.lda ldaA)) 127 (.lda ldaA) ∧ (mc (tst (.lda ldaA)) 127).lda = [] ∧ (mc (tst (.lda ldaA)) 127).loadFree ≤ (tst (.lda ldaA)).now)
      ∧ (TileMay (tst (.fin finA)) 127 (.fin finA) ∧ (mc (tst (.fin finA)) 127).finFree ≤ (tst (.fin finA)).now)
      ∧ (TileMay (tst (.clr 511 0)) 127 (.clr 511 0) ∧ (mc (tst (.clr 511 0)) 127).clrFree ≤ (tst (.clr 511 0)).now) := by
  unfold TileMay; decide +kernel

/-- M-core 127 with a MAC of one step whose lines are read, and with a writeback that is due. -/
def runA : MacRun := ⟨macA, 1000, 0, 0, none, 1000, 64, List.replicate 64 [], [], [List.replicate 128 0]⟩
def wbA (add : Bool) : Writeback := ⟨1074, 1000, 127, 1, add, [List.replicate 128 5]⟩
def tmac : State := setMc (tst .nop) 127 (fun m => { m with mac := some runA })
def twb (add : Bool) : State := setMc (tst .nop) 127 (fun m => { m with wbs := [wbA add] })

theorem witness_mac_pipe :
    ((mc tmac 127).mac = some runA ∧ workOpen tmac (blk Ty.MCORE 127) = true ∧ stepDue (mc tmac 127) runA tmac.now = true)
      ∧ ((mc (twb true) 127).wbs = [wbA true] ∧ awake (twb true) = true ∧ workLive (twb true) (blk Ty.MCORE 127) = true
        ∧ (mc (twb true) 127).fenceAt = 0 ∧ (wbA true).due ≤ (twb true).now ∧ (wbA true).acc.length = (ruList (wbA true).rumask).length
        ∧ (∀ a ∈ (wbA true).acc, a.length = 128) ∧ (mc (twb true) 127).clr = none ∧ spanClean (twb true) (accRow 127 (4 * 127)) 2048) := by
  unfold spanClean; decide +kernel

theorem inv_twb : Inv (twb true) := ⟨by rfl, by rfl, by rfl⟩

/-- M-core 127 with a row of a finisher pass that has left the stages, held at a WAIT, and at the end of its frame work. -/
def finRunA : FinRun := ⟨finA, 0, 1062, 0, [], [(0, List.replicate 128 0)], 1, 0⟩
def tfin : State := setMc (tst .nop) 127 (fun m => { m with fins := [finRunA] })
/-- The same with a pass for injection queue 3 of the router, and with bytes that wait for the end of the cc. -/
def queueSec : Section :=
  ⟨2, Ty.ROUTER, 31, leBytes 4 0 ++ leBytes 2 7 ++ leBytes 2 0 ++ leBytes 2 1 ++ leBytes 22 0 ++ leBytes 32 0
    ++ leBytes 1 3 ++ leBytes 1 3 ++ leBytes 2 0 ++ leBytes 2 5 ++ leBytes 10 0⟩
def tfinQ : State :=
  setMc (st [tileSec 127 [.nop], queueSec] 1 10 [blk Ty.MCORE 127]) 127 (fun m =>
    { m with running := true, fins := [{ finRunA with op := { finA with dest := 2, doff := 3 } }] })
def tfinO : State := setMc (tst .nop) 127 (fun m => { m with finOut := [(0x7FFFE0, List.replicate 32 9)] })
def theld (slot cc : Nat) : State := setMc (tst .nop) 127 (fun m => { m with hold := .position slot cc, issued := 1070 })
def tdone : State := setMc (tst .endFrame) 127 (fun m => { m with ended := true })

theorem witness_finisher_frame_end :
    ((mc tfin 127).fins = [finRunA] ∧ finRunA.rowsRead = [(0, List.replicate 128 0)] ∧ awake tfin = true ∧ workLive tfin (blk Ty.MCORE 127) = true
        ∧ (mc tfin 127).fenceAt = 0 ∧ finRunA.issue + 0 + 12 ≤ tfin.now ∧ finA.smx ≠ 1 ∧ finA.dest = 0
        ∧ (rowOut finA.ofmt (finA.sat == 1) ((scaleBias finA [] ((List.replicate 128 (0 : Word)).map BitVec.toNat)).map (funcEval (mc tfin 127) 0))).1 ≠ [])
      ∧ (∃ rec, rtQueueOf ((sectionOf tfinQ 2 (127 / 4)).getD []) (127 % 4) (3 % 32) = some rec
        ∧ (rowFlits (mc tfinQ 127) rec { finA with dest := 2, doff := 3 } (511 + 0) ((scaleBias finA [] ((List.replicate 128 (0 : Word)).map BitVec.toNat)).map
            (funcEval (mc tfinQ 127) 0))).1.length ≤ 256)
      ∧ ((mc tfinO 127).finOut = [(0x7FFFE0, List.replicate 32 9)] ∧ spanClean tfinO (mstoreAddr 127 0x7FFFE0) 32)
      ∧ ((mc (theld 1 10) 127).hold = .position 1 10 ∧ workOpen (theld 1 10) (blk Ty.MCORE 127) = true ∧ 64 * 1 + 10 ≤ frameCc (theld 1 10)
        ∧ frameCcAt (theld 1 10) ((mc (theld 1 10) 127).issued - 1) ≤ 64 * 1 + 10)
      ∧ ((mc (theld 0 0) 127).hold = .position 0 0 ∧ workOpen (theld 0 0) (blk Ty.MCORE 127) = true ∧ 64 * 0 + 0 ≤ frameCc (theld 0 0)
        ∧ 64 * 0 + 0 < frameCcAt (theld 0 0) ((mc (theld 0 0) 127).issued - 1))
      ∧ (doneOpen tdone (blk Ty.MCORE 127) = true ∧ (mc tdone 127).running = true ∧ (mc tdone 127).done = false ∧ mcoreFinished tdone 127 = true) := by
  unfold spanClean
  refine ⟨by decide +kernel, ⟨_, rfl, by decide +kernel⟩, by decide +kernel, by decide +kernel, by decide +kernel, by decide +kernel⟩

theorem inv_tfin : Inv tfinO ∧ Inv (theld 0 0) := ⟨⟨by rfl, by rfl, by rfl⟩, ⟨by rfl, by rfl, by rfl⟩⟩

/-! ## Program words, written out from the encodings of R132-R138 and R197-R199 -/

theorem test_tile_words :
    decodeTile 0 = some .nop ∧ decodeTile 0x07AA_8BF3_C7FE_4005 = some (.mac ⟨1, 1, 10, 10, 1, 1, 63, 0, 483, 2041, 0, 5⟩)
      ∧ decodeTile (0b000010 <<< 58 + 0b11 <<< 56 + 0b1 <<< 55 + 0b0101 <<< 51 + 0b00001 <<< 46 + 0b111 <<< 43 + 9 <<< 30) = some (.lda ⟨3, 1, 5, 1, 7, 9⟩)
      ∧ decodeTile (0b000011 <<< 58 + 4 <<< 49 + 7 <<< 41 + 12 <<< 37 + 1 <<< 31 + 2 <<< 28 + 3 <<< 12) = some (.fin ⟨4, 7, 12, 0, 0, 1, 0, 2, 0, 3, 0, 0⟩)
      ∧ decodeTile (0b000100 <<< 58 + 511 <<< 49 + 3 <<< 40) = some (.clr 511 3) ∧ decodeTile (0b000101 <<< 58 + 17 <<< 46 + 63 <<< 40) = some (.wait 17 63)
      ∧ decodeTile (0b000110 <<< 58 + 3 <<< 55 + 0x201 <<< 39 + 31 <<< 34) = some (.sync 3 0x201 31)
      ∧ decodeTile (0b001001 <<< 58 + 2 <<< 55 + 0xFFFF <<< 39) = some (.addb 2 (-1)) := by decide +kernel

theorem test_vec_words :
    decodeVec (0b000001 <<< 26 + 3 <<< 21 + 4 <<< 16 + 5 <<< 11 + 17) = some (.sop 3 4 5 17) ∧ decodeVec (0b000001 <<< 26 + 20) = none
      ∧ decodeVec (0b001001 <<< 26 + 0x3FFFFFF) = some (.jmp (-1)) ∧ decodeVec (0b010001 <<< 26 + 15 <<< 22 + 31 <<< 17 + 0x3FF) = some (.vld 15 31 (-1))
      ∧ decodeVec (0b010110 <<< 26 + 1 <<< 22 + 2 <<< 18 + 3 <<< 14 + 4 <<< 11 + 11) = some (.vflt 1 2 3 4 11)
      ∧ decodeVec (0b010110 <<< 26 + 1 <<< 22 + 2 <<< 18 + 3 <<< 14 + 3 <<< 11 + 10) = none
      ∧ decodeVec (0b011110 <<< 26 + 1 <<< 22 + 2 <<< 17 + 3 <<< 12 + 4 <<< 7) = some (.vrng 1 2 3 4) := by decide +kernel

/-- A well-formed operation and instruction, with every field at its largest. -/
theorem witness_decode_encode :
    TileOp.wf (.mac ⟨1, 1, 15, 15, 1, 15, 127, 3, 511, 2047, 7, 2047⟩) = true ∧ VInstr.wf (.sync 3 65535 31) = true
      ∧ decodeTile 0x0400_0000_0000_0000 = some (.mac ⟨0, 0, 0, 0, 0, 0, 0, 0, 0, 0, 0, 0⟩) ∧ 0x0D ≤ 0x3400_0000_0000_0000 / 2 ^ 58 := by
  decide +kernel

/-! ## Chord network and faults -/

theorem witness_sync :
    (SyncMay (tst (.sync 0 (blk Ty.VCORE 31) 31)) (.mcore 127) 0 (blk Ty.VCORE 31) 31 ∧ eventTarget (blk Ty.VCORE 31) = true
        ∧ blockState (tst (.sync 0 (blk Ty.VCORE 31) 31)) (blk Ty.VCORE 31) ≠ 3)
      ∧ (SyncMay (vst (.sync 0 65535 0)) (.vcore 31) 0 65535 0 ∧ eventTarget 65535 = false)
      ∧ SyncMay (vst (.sync 1 0 31)) (.vcore 31) 1 0 31 ∧ SyncMay (tst (.sync 2 2048 0)) (.mcore 127) 2 2048 0
      ∧ SyncMay (vst (.sync 3 2047 0)) (.vcore 31) 3 2047 0 := by
  simp only [SyncMay, TileMay, VecMay]; decide +kernel

/-- A message that has landed in this cc at a node of the running package. -/
def msgAt (kind : ChordKind) (node lane : Nat) : ChordMsg := ⟨0, kind, 0, node, node, 1070, 0, lane, some 1074, false, 0, 0⟩
def landed (kind : ChordKind) (node lane : Nat) (secs : List Section) : State :=
  setChord (st secs 1 10 []) (fun c => { c with nextId := 1, msgs := [msgAt kind node lane] })

theorem landed_landed (kind : ChordKind) (node lane : Nat) (secs : List Section) :
    Landed (landed kind node lane secs) 0 (msgAt kind node lane) kind := ⟨by rfl, by rfl⟩

theorem inv_landed (kind : ChordKind) (node lane : Nat) (secs : List Section) : Inv (landed kind node lane secs) := ⟨by rfl, by rfl, by rfl⟩

def ev31 : ChordKind := .event (blk Ty.MCORE 127) 31
def evV : ChordKind := .event (blk Ty.VCORE 31) 0
def full31 : State := setMc (landed ev31 31 3 []) 127 (fun m => { m with events := [(31, 15)] })

theorem witness_events_notices :
    (good (landed ev31 31 3 []) (blk Ty.MCORE 127) = true ∧ Assoc.getD 0 31 (mc (landed ev31 31 3 []) 127).events < 15)
      ∧ (good (landed evV 31 3 []) (blk Ty.VCORE 31) = true ∧ Assoc.getD 0 0 (vc (landed evV 31 3 []) 31).events < 15)
      ∧ (good full31 (blk Ty.MCORE 127) = true ∧ 15 ≤ Assoc.getD 0 31 (mc full31 127).events)
      ∧ good (landed (.notice (blk Ty.MCORE 127) 0 1) 31 1 []) (blk Ty.MCORE 127) = true := by decide +kernel

theorem landed_full31 : Landed full31 0 (msgAt ev31 31 3) ev31 ∧ Inv full31 :=
  ⟨⟨by rfl, by rfl⟩, ⟨by rfl, by rfl, by rfl⟩⟩

/-- A barrier setup of node 31 whose counter 63 has this limit. -/
def barSec (limit : Nat) : Section :=
  ⟨9, Ty.CHORD, 31, leBytes 4 0 ++ leBytes 2 1 ++ List.replicate 10 0 ++ leBytes 1 63 ++ leBytes 1 0 ++ leBytes 2 limit ++ leBytes 4 0⟩

theorem witness_barriers :
    (running (landed (.arrive 2047 false none) 31 3 [barSec 2]) = true ∧ 1 < counterLimit (landed (.arrive 2047 false none) 31 3 [barSec 2]) 2047)
      ∧ 0 < counterLimit (landed (.arrive 2047 false none) 31 3 [barSec 1]) 2047
      ∧ counterLimit (landed (.arrive 2047 false none) 31 3 []) 2047 = 0
      ∧ (chordMsg? (landed ev31 31 3 []) 0 = some (msgAt ev31 31 3) ∧ (msgAt ev31 31 3).held = false
        ∧ (msgAt ev31 31 3).ready ≤ (landed ev31 31 3 []).now ∧ (msgAt ev31 31 3).at_ < 32) := by decide +kernel

def faultK : ChordKind := .fault 65535 255 (2 ^ 48 - 1) 1060

theorem witness_frame_faults :
    (idle 1 10).ft.pstate ≠ 3 ∧ ((st [] 1 10 []).ft.pstate = 3 ∧ (chordUnit (blk Ty.MCORE 127)).1 ≠ 32)
      ∧ ((landed faultK 32 0 []).ft.halted = false ∧ (landed faultK 32 0 []).chord.halt = none
        ∧ bitOf (getReg (landed faultK 32 0 []) (blk Ty.FTIMER 0) Off.FTIMER_FAULT_INFO) 31 = false)
      ∧ (let s := setFt (st [] 1 10 []) (fun f => { f with halted := true, faultAt := 1061 }); s.ft.halted = true ∧ s.ft.faultAt ≠ 1061 + 1) := by
  decide +kernel

def fenceK : ChordKind := .fence (blk Ty.MCORE 127)

theorem witness_halts_fences :
    haltLanded (landed (.halt 7) 32 0 []) = [(0, 32, 7)]
      ∧ (haltLanded (landed (.halt 7) 31 0 []) = [(0, 31, 7)] ∧ (landed (.halt 7) 31 0 []).ft.reached.contains 31 = false
        ∧ Assoc.get? 31 (landed (.halt 7) 31 0 []).ft.stops = none)
      ∧ blockState (landed fenceK 31 0 []) (blk Ty.MCORE 127) = 0
      ∧ (hubUp (st [] 1 10 []) = true ∧ blockState (st [] 1 10 []) (blk Ty.VCORE 31) = 0) := by decide +kernel

theorem witness_halt_pin :
    let s := st [] 1 10 []
    s.pins.perstHigh = true ∧ hubUp s = true ∧ s.ft.haltLow = false ∧ s.pins.haltOwn = false ∧ s.ft.halted = false ∧ s.chord.halt = none ∧ s.ft.stops = [] := by
  decide +kernel

/-- EVT pin 3 with this value in its register. -/
def evtReg (v : Nat) : State := setReg (st [] 1 10 []) (blk Ty.PINS 0) (Off.PINS_EVT_PIN_0 + 12) v

theorem witness_pins_urgent :
    (hubUp (evtReg 0) = true ∧ evtOwner (evtReg 0) 3 = 0 ∧ fieldOf (0x40000000 : Word).toNat 31 28 ≤ 4)
      ∧ (evtOwner (evtReg 0x20000000) 3 ≠ 0 ∧ fieldOf (0x10000000 : Word).toNat 31 28 ≠ 0 ∧ fieldOf (0x10000000 : Word).toNat 31 28 ≠ evtOwner (evtReg 0x20000000) 3)
      ∧ (let s := evtReg (0x20000000 + blk Ty.MCORE 127)
        evtOwner s 3 = 2 ∧ eventTarget (fieldOf (getReg s (blk Ty.PINS 0) (Off.PINS_EVT_PIN_0 + 12)) 15 0) = true
          ∧ blockState s (fieldOf (getReg s (blk Ty.PINS 0) (Off.PINS_EVT_PIN_0 + 12)) 15 0) ≠ 3)
      ∧ (let s := setChord (landed .trip 31 0 []) (fun c => { c with trip := some 1071 })
        msgAt .trip 31 0 ∈ s.chord.msgs ∧ isTrip (msgAt .trip 31 0) = true ∧ isLanded s (msgAt .trip 31 0) = true ∧ Assoc.sorted s.ft.tripAt = true
          ∧ Assoc.get? (msgAt .trip 31 0).node s.ft.tripAt = none ∧ s.chord.trip.isSome = true ∧ ∀ x ∈ s.chord.msgs, isTrip x = true → isLanded s x = true) := by
  decide +kernel

theorem landed_sensors : Landed (landed (.therm 523 2) 32 0 []) 0 (msgAt (.therm 523 2) 32 0) (.therm 523 2)
    ∧ Landed (landed (.telem 523 (-5)) 32 2 []) 0 (msgAt (.telem 523 (-5)) 32 2) (.telem 523 (-5)) := ⟨⟨by rfl, by rfl⟩, ⟨by rfl, by rfl⟩⟩

theorem inv_evtReg : Inv (evtReg 0x20000000) := ⟨by rfl, by rfl, by rfl⟩

/-! ## Frames and programs -/

/-- The end of a frame of the idle schedule, with a program armed for the next frame. -/
def armed (parent : Nat) : State :=
  { st [] 0 0 [] with
    now := 1000 + 12800, ft := { FTimer.init with tickAt := 1000, frame := 5, pstate := 2 },
    prog := some ⟨7, 4, 0, 6, 0, 1, 7, 0, parent, 0, [0, 1, 2, 3, 4, 5, 6], []⟩ }

theorem witness_frame_tick :
    (awake (armed 0xFE) = true ∧ frameLen (armed 0xFE) ≤ pos (armed 0xFE) ∧ (armed 0xFE).ft.pstate = 2 ∧ (armed 0xFE).ft.unloadReq = false
        ∧ 6 = ((armed 0xFE).ft.frame + 1) % 2 ^ 48)
      ∧ (awake (armed 0) = true ∧ frameLen (armed 0) ≤ pos (armed 0) ∧ (armed 0).ft.goodRun < 16 ∧ (armed 0).ft.early = none
        ∧ (armed 0).ft.halted = false ∧ (armed 0).chord.halt = none) := by decide +kernel

/-- Memory that holds these bytes from an address on. -/
def cellsAt (a : Nat) (l : List Byte) : List Host.Cell := (l.zipIdx.filter (fun x => x.1 != 0)).map (fun x => (a + x.2, x.1))

/-- A package on the idle schedule, loading, in a SERVICE slot, with these bytes at the image's address in SLM. -/
def loading (img : List Byte) : State :=
  { idle 5 0 with
    power := .run, ft := { FTimer.init with tickAt := 1000, frame := 5, pstate := 1 }, mem := cellsAt 0x4000000000 img,
    regs := [(4096 * ftBlk + Off.FTIMER_PROG_BASE_HI, 0x40)], shape := { Shape.init with published := true, step := 12, level := 1 } }

/-- The smallest image: 50 slots, a map section and no unit's section, to start at frame 6; its digest is that of a
package with no core in its maps. -/
def image : List Byte :=
  leBytes 4 0x47504D46 ++ leBytes 2 0 ++ leBytes 2 1 ++ leBytes 4 242 ++ leBytes 2 0x80 ++ leBytes 2 1 ++ siliconSet ++ leBytes 2 1
    ++ leBytes 2 50 ++ leBytes 2 0 ++ leBytes 2 1 ++ leBytes 6 0 ++ leBytes 8 6 ++ leBytes 8 0 ++ leBytes 8 1 ++ leBytes 8 0
    ++ leBytes 16 0x1B560FA24B0B50148521_77AE08448E4C ++ leBytes 2 0 ++ leBytes 2 0 ++ leBytes 4 0xFE ++ leBytes 4 0 ++ leBytes 4 1949142579 ++ leBytes 32 0
    ++ leBytes 8 1 ++ leBytes 4 192 ++ leBytes 4 50 ++ leBytes 48 0
    ++ ([0, 3, 3, 4, 5, 2, 2, 2, 2, 2, 2, 6] : List Byte) ++ List.replicate 38 1

/-- Does a load's image pass, to start in a later frame? -/
def loads (s : State) : Bool := match readImage s with
  | (s1, some img) => (match checkImage s1 img with
    | .inr p => frameLater s.ft.frame p.start
    | .inl _ => false)
  | _ => false
def refuses (s : State) : Bool := match readImage s with
  | (s1, some img) => (match checkImage s1 img with
    | .inr _ => false
    | .inl x => x == (0x01, none))
  | _ => false

theorem witness_program_loading :
    (awake (idle 1 10) = true ∧ (idle 1 10).ft.pstate = 0 ∧ faultValid (idle 1 10) = false ∧ haltNLow (idle 1 10) = false)
      ∧ (awake (st [] 1 10 []) = true ∧ (st [] 1 10 []).ft.pstate ≠ 0)
      ∧ haltNLow { idle 1 10 with ft := { FTimer.init with haltLow := true } } = true
      ∧ (awake (loading []) = true ∧ (loading []).ft.pstate = 1 ∧ classNow (loading []) = 6 ∧ refuses (loading []) = true) := by decide +kernel

/-- A boundary slot of the running program, at this cc, an event held for M-core 127 and V-core 31. -/
def bnd (cc : Nat) : State :=
  setVc (setMc (st [tileSec 127 [.nop]] 0 cc []) 127 (fun m => { m with held := [31, 31], tabStaged := [(7, [1])] })) 31 (fun m => { m with held := [0] })

theorem witness_boundary_slot :
    (awake (bnd 28) = true ∧ slotNow (bnd 28) = 0 ∧ 28 ≤ ccNow (bnd 28) ∧ (bnd 28).ft.doneStage < 28 ∧ Assoc.sorted (bnd 28).mcores = true
        ∧ Assoc.sorted (bnd 28).vcores = true)
      ∧ (slotNow (bnd 21) = 0 ∧ 21 ≤ ccNow (bnd 21) ∧ (bnd 21).ft.doneStage < 21
        ∧ ∀ x ∈ (bnd 21).gports, ∀ r ∈ x.2.rx, r.frame ≠ ((bnd 21).ft.frame + 2 ^ 48 - 1) % 2 ^ 48)
      ∧ (slotNow (bnd 45) = 0 ∧ 45 ≤ ccNow (bnd 45) ∧ (bnd 45).ft.doneStage < 45 ∧ (bnd 45).ft.ending = false
        ∧ (mc (bnd 45) 127).tabStaged = [(7, [1])])
      ∧ (let s := st [tileSec 127 [.nop]] 1 0 [blk Ty.MCORE 127]
        awake s = true ∧ 1 ≤ slotNow s ∧ s.ft.doneStage < 64 ∧ (∃ p, s.prog = some p ∧ blk Ty.MCORE 127 ∈ unitBlocks p) ∧ running s = true
          ∧ s.ft.onProg = true ∧ s.ft.halted = false ∧ sectionOf s 4 127 = some (tileSec 127 [.nop]).body ∧ good s (blk Ty.MCORE 127) = true
          ∧ enabled s (blk Ty.MCORE 127) = true)
      ∧ (let s := setFt (st [] 1 0 []) (fun f => { f with doneStage := 64 }); awake s = true ∧ 1 ≤ slotNow s ∧ 64 ≤ s.ft.doneStage) := by
  refine ⟨by decide +kernel, by decide +kernel, by decide +kernel, ⟨by decide +kernel, by decide +kernel, by decide +kernel,
    ⟨_, rfl, by decide +kernel⟩, by decide +kernel⟩, by decide +kernel⟩

/-- The package runs frame 5 with the tick parent on port 19, trained. -/
def tick (parent slot cc : Nat) (x : GPort) : State :=
  { st [] slot cc [gpBlk 19] with
    prog := some ⟨7, 4, 0, 0, 0, 1, 7, 9, parent, 2 ^ 19, [0, 1, 2, 3, 4, 5, 6], []⟩, gports := [(19, x)] }
def up19 : GPort := { GPort.init with tstate := 7, width := 2 }
/-- A marker of kind 1 to 3 for a frame, its delay 10 units, and one with RESYNC. -/
def marker (kind frame : Nat) (resync : Bool) : BitVec 128 := markerBlock kind ⟨0, 0, 9, frame, 10, 0, resync⟩

theorem witness_tick_markers :
    linkThere 19 = true ∧ awake (tick 19 1 10 up19) = true ∧ linkUp (tick 19 1 10 up19) 19 = true ∧ fieldOf (marker 1 5 false).toNat 127 120 = 1
      ∧ checkGood (marker 1 5 false) = true ∧ bitOf (marker 1 5 false).toNat 8 = false ∧ parentMarker (tick 19 1 10 up19) 19 (marker 1 5 false).toNat = true
      ∧ fieldOf (marker 1 5 false).toNat 95 48 = (tick 19 1 10 up19).ft.frame
      ∧ ((10210 : Int) - (fieldOf (marker 1 5 false).toNat 47 28 + storedDelay (tick 19 1 10 up19) 19 : Nat) - 10 * (tick 19 1 10 up19).ft.tickAt).natAbs ≤ 200
      ∧ 640 < ((10651 : Int) - (fieldOf (marker 1 5 false).toNat 47 28 + storedDelay (tick 19 1 10 up19) 19 : Nat) - 10 * (tick 19 1 10 up19).ft.tickAt).natAbs := by
  decide +kernel

theorem inv_tick : Inv (tick 19 1 10 up19) := ⟨by rfl, by rfl, by rfl⟩

theorem witness_markers_probes :
    (awake (tick 0xFE 1 10 up19) = true ∧ 2 ≤ (tick 0xFE 1 10 up19).ft.pstate ∧ childPorts (tick 0xFE 1 10 up19) = [19]
        ∧ isMaster (tick 0xFE 1 10 up19) = true)
      ∧ (slotNow (tick 19 0 44 up19) = 0 ∧ 44 ≤ ccNow (tick 19 0 44 up19) ∧ (tick 19 0 44 up19).ft.doneStage < 44 ∧ isMaster (tick 19 0 44 up19) = false
        ∧ (tick 19 0 44 up19).ft.matched.contains (prevFrame (tick 19 0 44 up19).ft.frame) = false)
      ∧ (let s := { tick 19 1 10 up19 with prog := none, ft := { FTimer.init with tickAt := 1000, frame := 5 } }
        linkUp s 19 = true ∧ fieldOf (marker 1 9 true).toNat 127 120 = 1 ∧ checkGood (marker 1 9 true) = true ∧ bitOf (marker 1 9 true).toNat 8 = true
          ∧ s.ft.pstate = 0 ∧ tickAgrees s (fieldOf (marker 1 9 true).toNat 95 48) (10210 - (fieldOf (marker 1 9 true).toNat 47 28 + storedDelay s 19 : Nat)) = false)
      ∧ (fieldOf (marker 2 0 false).toNat 127 120 = 2 ∧ checkGood (marker 2 0 false) = true)
      ∧ (let s := tick 19 1 10 { up19 with echoDue := some 1074 }
        (gp s 19).echoDue = some s.now ∧ linkUp s 19 = true ∧ (gp s 19).ctrlAt ≠ s.now + 1 ∧ s.ft.out = [])
      ∧ (let s := tick 19 1 10 { up19 with probeAt := some 1020 }
        linkUp s 19 = true ∧ fieldOf (marker 3 0 false).toNat 127 120 = 3 ∧ checkGood (marker 3 0 false) = true ∧ (gp s 19).probeAt = some 1020
          ∧ (10740 - 10 * 1020 - 240) / 2 < 2 ^ 20) := by decide +kernel

/-! ## Columns and row engines -/

/-- A column schedule of these entries. -/
def colSec (c : Nat) (es : List ColEntry) : Section :=
  ⟨7, Ty.COLCTL, c, leBytes 4 0 ++ leBytes 2 es.length ++ leBytes 10 0
    ++ es.flatMap (fun e => leBytes 2 e.slot ++ leBytes 1 e.cc ++ leBytes 1 e.kind ++ leBytes 4 e.count ++ leBytes 4 e.addr ++ leBytes 4 e.arg)⟩
/-- Column 511 with this schedule, at a place in the frame. -/
def cst (es : List ColEntry) (slot cc : Nat) (k : Column) : State :=
  { st [colSec 511 es] slot cc [blk Ty.COLCTL 511, blk Ty.SMOVER 127] with cols := [(511, k)] }
/-- Its last bank, with the last row open. -/
def openBanks : List (Nat × Bank) := [(31, { Bank.init with openRow := some 16383 })]

def flyX : Fly := ⟨0, 0, 0x3FFFFE00, 1070⟩
def strK : Column := { Column.init with window := some ⟨0, 1070, 0, 0⟩, entry := 1, fly := [flyX] }
def strS : State := cst [⟨1, 0, 1, 2, 0x3FFFFE00, 0⟩] 1 10 strK
/-- A copy that the router of stack 31 holds for column 511. -/
def copyX : OutCopy := ⟨17, 8, 1070, dramAddr 511 0x3FFFFFE0, 0, List.replicate 32 9, 0, false, ⟨0, 0, 0⟩⟩
def rqS : State := { cst [] 1 10 Column.init with routers := [(31, { Router.init with outq := [copyX] })] }
/-- Stack mover 127 with a descriptor that reads 32 bytes of column 511 and writes them to the router. -/
def ringSec (m : Nat) (desc : List Byte) : Section := ⟨6, Ty.SMOVER, m, leBytes 4 0 ++ leBytes 2 1 ++ leBytes 10 0 ++ desc⟩
def descA : List Byte :=
  leBytes 4 (2 ^ 31 + 5 * 2 ^ 21 + 5 * 2 ^ 18 + 1 * 2 ^ 14) ++ leBytes 4 1 ++ leBytes 8 (dramAddr 511 0x3FFFFFE0) ++ leBytes 8 0 ++ leBytes 2 1 ++ leBytes 2 1
    ++ leBytes 2 1 ++ leBytes 34 0
def mvX : SMover := { SMover.init with running := true, active := true, startAt := 1070 }
def mvS (x : SMover) : State :=
  { st [ringSec 127 descA, colSec 511 []] 1 10 [blk Ty.COLCTL 511, blk Ty.SMOVER 127] with smovers := [(127, x)] }
/-- A whole-granule write at the head of column 511's port queue, in a PORT window. -/
def wrR : PortReq := ⟨.router, true, true, 0, 0x3FFFFFE0, 1, [(0, 32)], List.replicate 32 9, 0, 1070, 0, [], [], 0, 0⟩
def wrS : State := cst [⟨1, 0, 2, 20, 0, 0⟩] 1 10 { Column.init with window := some ⟨0, 1070, 0, 1090⟩, entry := 1, banks := openBanks, queue := [wrR] }

theorem witness_column_transfers :
    ((∀ j < 4, j ≠ 3 → (col strS (4 * 127 + j)).fly = [])
        ∧ (col strS 511).fly = [flyX] ∧ flyX.data ≤ strS.now ∧ (col strS 511).window = some ⟨0, 1070, 0, 0⟩ ∧ (colEntry (colBody strS 511) 0).kind = 1
        ∧ colAvail strS strS.now = true ∧ awake strS = true ∧ good strS (blk Ty.MCORE 127) = true ∧ flyX.off + 512 ≤ 0x40000000 ∧ flyX.off % 512 = 0
        ∧ spanClean strS (dramAddr 511 0x3FFFFE00) 512 ∧ sramClean strS = true
        ∧ streamUse (joinHalves 8 (pushHalf (mc strS 127) 3 (rawRead strS (dramAddr 511 0x3FFFFE00) 512)) strS.now) ≤ 64)
      ∧ routerCopy rqS 511 = some (0, copyX)
      ∧ (smoverOpen (mvS mvX) (4 * (511 / 16) + 3) = true ∧ (moverAccess (mvS mvX) (4 * (511 / 16) + 3) 511).isSome = true)
      ∧ (colSync wrS 511 = wrS ∧ portOpen wrS 511 = true ∧ (col wrS 511).queue = [wrR] ∧ wrR.begun ≤ wrS.now + 1
        ∧ dataRoom (col wrS 511) (max wrS.now ((bankAt (col wrS 511) (bankPos wrR.off)).act + 11)) 1 false = true
        ∧ (bankAt (col wrS 511) (bankPos wrR.off)).openRow = some (rowOf wrR.off) ∧ bitOf (getReg wrS (blk Ty.COLCTL 511) Off.COLCTL_FLIP) 31 = false)
      ∧ (doneOpen rqS (blk Ty.COLCTL 511) = true ∧ (sectionOf rqS 7 511).isSome = true ∧ columnFinished (colSync rqS 511) 511 = true) := by
  unfold spanClean; decide +kernel

theorem inv_wrS : Inv wrS := ⟨by rfl, by rfl, by rfl⟩

/-- A ROWENG entry of operation `op` on rows of bank 31 of column 511: one step, from row 31 to row `d`, with its event. -/
def reEntry (op d : Nat) : ColEntry := ⟨1, 0, 3, op * 2 ^ 28, 31, 2 ^ 31 + d⟩
/-- A program whose columns stay available for 152 cc. -/
def reS (es : List ColEntry) (k : Column) : State :=
  { cst es 1 10 k with
    prog := some ⟨7, 4, 1, 0, 0, 1, 7, 0, 0, 0, [0, 1, 1, 1, 3, 4, 6], [colSec 511 es]⟩ }
def stepA : RowStep := ⟨0, false, 0, true, 6, 31, 0, 524287, 31, 922, 0, 2 ^ 9, 0⟩
def reqA : ReqEntry := ⟨1 * 2 ^ 28, 31, 524287, 0, 5⟩

theorem witness_row_steps :
    (let s := reS [reEntry 1 524287] Column.init
      let rows := (rowWork (1 * 2 ^ 28) 31 (2 ^ 31 + 524287)).stepRows 0
      rowCur s 511 = some (0, 0, reEntry 1 524287) ∧ workOpen s (blk Ty.COLCTL 511) = true ∧ posCc s 1 0 ≤ s.now ∧ (col s 511).lastRow = 0
        ∧ banksFree s (col s 511) (banksOf rows) = true ∧ availSpan s s.now = true ∧ (rowWork (1 * 2 ^ 28) 31 (2 ^ 31 + 524287)).op ≠ 7
        ∧ (col s 511).hot.testBit (rowLayer 524287) = false
        ∧ ∀ p ∈ banksOf rows, (bankAt (col s 511) p).charged + 1 ≤ rowBudget s ∧ (bankAt (col s 511) p).owed < 15)
      ∧ (let s := reS [reEntry 1 524287] { Column.init with hot := 128 }
        rowCur s 511 = some (0, 0, reEntry 1 524287) ∧ workOpen s (blk Ty.COLCTL 511) = true ∧ availSpan s s.now = true
          ∧ (col s 511).hot.testBit (rowLayer 524287) = true)
      ∧ (let s := reS [] { Column.init with steps := [stepA] }
        awake s = true ∧ (col s 511).steps = [stepA] ∧ stepA.start + 152 ≤ s.now ∧ spanClean s (dramAddr 511 (2048 * stepA.a)) 2048)
      ∧ (let s := reS [reEntry 7 0] Column.init
        rowCur s 511 = some (0, 0, reEntry 7 0) ∧ fieldOf (reEntry 7 0).count 31 28 = 7 ∧ workOpen s (blk Ty.COLCTL 511) = true
          ∧ placeCc (posCc s 1 0) 0 ≤ s.now ∧ (col s 511).reqs = [])
      ∧ (let s := reS [reEntry 7 0] { Column.init with reqs := [reqA] }
        let w := rowWork reqA.count reqA.addr reqA.arg
        rowCur s 511 = some (0, 0, reEntry 7 0) ∧ banksFree s (col s 511) (banksOf (w.stepRows 0)) = true
          ∧ (col s 511).hot.testBit (rowLayer (w.row w.d 0)) = false
          ∧ ∀ p ∈ banksOf (w.stepRows 0), (bankAt (col s 511) p).charged + 1 ≤ rowBudget s ∧ (bankAt (col s 511) p).owed < 15) := by
  unfold spanClean; decide +kernel

theorem inv_reS : Inv (reS [] { Column.init with steps := [stepA] }) := ⟨by rfl, by rfl, by rfl⟩

theorem witness_column_upkeep :
    (let s := cst [] 6 40 Column.init; awake s = true ∧ colWithheld s = true ∧ ccNow s = 40 ∧ s.cols.all (fun x => x.2.rowPend == none) = true)
      ∧ (let s := cst [] 2 39 Column.init
        refreshOpen s = true ∧ ccNow s ≤ 39 ∧ (col s 511).slotDone ≠ slotStart s (slotNow s) + 1 ∧ (col s 511).scrubPhase = .read
          ∧ (col s 511).hardCells = [] ∧ (col s 511).scrubDue = 0)
      ∧ (let s := cst [] 2 0 { Column.init with scrubDue := 1, scrubPtr := 524286 }
        refreshOpen s = true ∧ ccNow s ≤ 39 ∧ (col s 511).slotDone ≠ slotStart s (slotNow s) + 1 ∧ (col s 511).scrubPhase = .read ∧ (col s 511).hardCells = []
          ∧ 0 < (col s 511).scrubDue ∧ (col s 511).scrubPtr + 1 < 524288 ∧ (layerAt (col s 511) (rowLayer 524286)).debt < 65536
          ∧ (∀ j < 4, (bankAt (col s 511) (4 * rowLayer 524286 + j)).owed = 0) ∧ spanClean s (dramAddr 511 (2048 * 524286)) 2048)
      ∧ (let s := { cst [] 1 0 { Column.init with scrubDue := 8, scrubRate := 60 } with now := 100000 }
        0 < scrubPeriod (col s 511).scrubRate ∧ (col s 511).scrubAt + scrubPeriod (col s 511).scrubRate ≤ s.now ∧ (col s 511).scrubDue = 8)
      ∧ (let s := cst [] 6 0 { Column.init with hardBonds := [2303] }
        leastBond (col s 511).hardBonds = some 2303 ∧ colWithheld s = true ∧ ccNow s = 0 ∧ spareBond (col s 511) (bondGroup 2303) = some 84)
      ∧ (let s := cst [] 6 0 { Column.init with hardBonds := [0], badBonds := List.range 12 }
        leastBond (col s 511).hardBonds = some 0 ∧ spareBond (col s 511) (bondGroup 0) = none)
      ∧ (let s := cst [] 6 0 { Column.init with hardBonds := [2304 + 84], bondMap := [(2303, 84)] }
        leastBond (col s 511).hardBonds = some 2388 ∧ bondPlace (col s 511) 2388 = 2303 ∧ spareBond (col s 511) (bondGroup 2303) = some 85)
      ∧ (let s := cst [] 6 40 { Column.init with rowPend := some (524287, 992, []) }
        awake s = true ∧ colWithheld s = true ∧ ccNow s = 40 ∧ (col s 511).rowPend = some (524287, 992, []))
      ∧ (let s := { cst [] 5 0 Column.init with cols := [] }
        classNow s = 5 ∧ ccNow s ≤ 39 ∧ 501 % 16 = s.ft.frame % 16 ∧ 2303 ∉ (col s 501).hardBonds ∧ 2303 ∉ (col s 501).deadBonds ∧ Assoc.get? 2303 (col s 501).bondMap = none
          ∧ (col s 501).calAt ≠ slotStart s (slotNow s) + 1) := by
  unfold spanClean
  refine ⟨?_, ?_, ?_, ?_, ?_, ?_, ?_, ?_, ?_⟩ <;> decide +kernel

/-! ## Memory protection, SLM and mesh -/

/-- The last granule of SLM with a data bit inverted as its check bits say, and a correction waiting. -/
def wbGranule : Nat := 0x400FFFFFE0 / 32
def wbS : State := { st [] 6 0 [] with synd := [(wbGranule, 0x00018000)], writeBacks := [wbGranule] }
/-- The same of the last granule of mailbox queue 127. -/
def wbQ : State := { st [] 6 0 [] with synd := [(mboxGran 127 511, 0x00018000)], writeBacks := [mboxGran 127 511] }
/-- A request for the last unit of SLM, in a SERVICE slot. -/
def slmQ (write : Bool) : SlmReq := ⟨false, write, 0, 0x400FFFFFE0, if write then List.replicate 32 9 else [], 0, 1380, false⟩
def slmP : Packet := ⟨0, 32, 32, 31, 0, 0, 12, 0, 0, false, true, 0, 0, 0x400FFFFFE0, [], 0, [], true, 1380⟩
def slmS (write : Bool) : State :=
  { st [] 6 10 [slmBlk] with slm := { State.reset.slm with queue := [slmQ write] }, packets := [slmP] }

theorem witness_memory_protection :
    (direct 0x400FFFFFFF / 32 ∈ wbS.writeBacks ∧ granuleClass wbS wbGranule = .dataBit 240 ∧ bankWritten wbS wbGranule = false)
      ∧ (2 ^ 48 ≤ 32 * mboxGran 127 511 ∧ mboxGran 127 511 / 2 ^ 43 = 3 ∧ mboxGran 127 511 ∈ wbQ.writeBacks
        ∧ granuleClass wbQ (mboxGran 127 511) = .dataBit 240 ∧ bankWritten wbQ (mboxGran 127 511) = false)
      ∧ ctrlWritten wbS 0 = false
      ∧ (hubUp wbS = true ∧ 1187 < blockCount)
      ∧ (let s := st [tileSec 127 [.nop]] 1 0 []; runsProgram s (blk Ty.MCORE 127) = true ∧ running s = true ∧ (chordUnit (blk Ty.MCORE 127)).1 ≠ 32)
      ∧ (∀ w : Bool, good (slmS w) slmBlk = true ∧ enabled (slmS w) slmBlk = true ∧ serviceOpen (slmS w) = true ∧ (rtr (slmS w) 32).outq = []
        ∧ (slmS w).slm.queue = [slmQ w] ∧ (slmS w).slm.used.1 ≠ (slmS w).now + 1 ∧ packet? (slmS w) 0 = some slmP ∧ populated (slmS w) 0x400FFFFFE0 = true
        ∧ placeOf 0x400FFFFFE0 = .slm 0xFFFFFE0 ∧ direct 0x400FFFFFE0 = 0x400FFFFFE0 ∧ isAlias 0x400FFFFFE0 = false)
      ∧ spanClean (slmS false) 0x400FFFFFE0 32 := by
  unfold spanClean; decide +kernel

theorem not_dram_wb : ∀ c off, placeOf (32 * wbGranule) ≠ .dram c off := by
  intro c off; rw [show placeOf (32 * wbGranule) = .slm 0xFFFFFE0 by decide +kernel]; simp
theorem inv_slm : Inv wbS ∧ Inv wbQ ∧ Inv (slmS true) := ⟨⟨by rfl, by rfl, by rfl⟩, ⟨by rfl, by rfl, by rfl⟩, ⟨by rfl, by rfl, by rfl⟩⟩

/-- A slot table of router `r` with one flow in slot 1: an input port, one output, KEY 5. -/
def rtSec (r inp out eject : Nat) : Section :=
  ⟨2, Ty.ROUTER, r, leBytes 4 0 ++ leBytes 2 7 ++ leBytes 2 1 ++ leBytes 24 0 ++ leBytes 4 0 ++ leBytes 2 1 ++ leBytes 26 0
    ++ leBytes 1 inp ++ leBytes 1 0 ++ leBytes 1 64 ++ leBytes 1 1 ++ leBytes 4 (2 ^ out) ++ leBytes 2 5 ++ leBytes 2 1 ++ leBytes 1 eject ++ leBytes 1 0
    ++ leBytes 2 0 ++ leBytes 8 0x3FFFE0 ++ leBytes 8 0⟩
/-- Reduction descriptor 0 of router `r`: a sum of ports 0 and 4. -/
def redSec (r : Nat) : Section :=
  ⟨3, Ty.ROUTER, r, leBytes 4 0 ++ leBytes 2 1 ++ leBytes 10 0 ++ leBytes 1 1 ++ leBytes 1 2 ++ leBytes 2 0 ++ leBytes 1 0 ++ leBytes 1 4 ++ leBytes 10 0⟩
def flA : Flit := mkFlit 7 0 0 1 0 5
def flowA (inp out eject : Nat) : Flow := ⟨0, inp, 0, 64, 1, 2 ^ out, 5, 1, eject, 0, 0, 0x3FFFE0⟩
def zero : Flit := ⟨0, 0, 0⟩

def flS (noise : Flit) : State :=
  { st [rtSec 31 8 12 1] 1 10 [rblk 31] with flights := [⟨31, 8, 1070, 0, flA.xor noise⟩] }
def injS : State :=
  setMc (st [rtSec 31 11 12 1] 1 10 [rblk 31]) 127 (fun m => { m with inj := [(3, [⟨1073, flA⟩])] })
def redA (port : Nat) : RedFlit := ⟨port, 1060, 1061, flA⟩
def redS : State := { st [rtSec 31 31 12 1, redSec 31] 1 10 [rblk 31] with routers := [(31, { Router.init with red := [redA 0, redA 4] })] }

theorem witness_flit_arrival :
    flightFor (flS zero) 31 8 = some ⟨31, 8, 1070, 0, flA.xor zero⟩ ∧ awake (flS zero) = true ∧ portReceives (flS zero) 31 8 = true
      ∧ (flA.xor zero).tagOk = true ∧ (flA.xor zero).op ≤ 2 ∧ (flA.xor zero).cls = .clean ∧ TakesTo (flS zero) 31 8 flA 1070 (flowA 8 12 1) 12 := by
  unfold TakesTo; decide +kernel

theorem witness_tag_error :
    flightFor (flS ⟨0, 0, 1⟩) 31 8 = some ⟨31, 8, 1070, 0, flA.xor ⟨0, 0, 1⟩⟩ ∧ good (flS ⟨0, 0, 1⟩) (rblk 31) = true ∧ awake (flS ⟨0, 0, 1⟩) = true
      ∧ portReceives (flS ⟨0, 0, 1⟩) 31 8 = true ∧ (flA.xor ⟨0, 0, 1⟩).tagOk = false := by decide +kernel

theorem witness_injection :
    (Assoc.sorted (mc injS 127).inj = true ∧ Assoc.getD [] 3 (mc injS 127).inj = [⟨1073, flA⟩] ∧ workOpen injS (rblk 31) = true ∧ 1073 < injS.now
      ∧ injTaken injS 31 0 < 1) ∧ matchFlow injS 31 11 flA.key (slotNow injS) (ccNow injS) = some (flowA 11 12 1)
      ∧ TakesTo injS 31 11 (mkFlit 7 0 0 1 0 5) injS.now (flowA 11 12 1) 12 := by
  refine ⟨⟨?_, ?_, ?_, ?_⟩, ?_, ?_⟩
  all_goals first | decide +kernel | (unfold TakesTo; decide +kernel)

def sumF : Flit := mkFlit (joinNat 32 (((splitNat 32 8 7).zip (splitNat 32 8 7)).map (fun x => devAdd32 x.1 x.2))) 0 0 1 0 5
theorem witness_reduction :
    (nextResult redS 31 = some (redA 0) ∧ (redDesc (redBody redS 31) 0).kind = 1 ∧ (redDesc (redBody redS 31) 0).order = [0, 4])
      ∧ TakesTo redS 31 31 sumF (1061 - 1 + 4) (flowA 31 12 1) 12 := by
  refine ⟨by decide +kernel, ?_⟩
  unfold TakesTo
  decide +kernel

def endedS : State := { st [rtSec 31 8 12 1] 1 10 [rblk 31] with routers := [(31, { Router.init with passed := [(65536, 1)] })] }
theorem witness_router_done :
    doneOpen endedS (rblk 31) = true ∧ (sectionOf endedS 2 31).isSome = true ∧ routerFinished endedS 31 = true := by decide +kernel

theorem inv_flS : Inv (flS ⟨0, 0, 1⟩) := ⟨by rfl, by rfl, by rfl⟩

/-- A packet in the mesh at a router, in a SERVICE slot. -/
def pk (here dest port : Nat) (isReply write : Bool) (addr : Nat) (data : List Byte) : Packet :=
  ⟨0, here, dest, port, 0, 31, 12, 0, 0, isReply, write, 0, 0, addr, data, 0, [], true, 1380⟩
def pkS (p : Packet) : State :=
  { setVc (st [] 6 10 []) 31 (fun m => { m with remote := some ⟨false, 0, 0, 0, none⟩ }) with
    packets := [p], d2d := (List.range 112).map (fun e => (e, { D2DEnd.init with ready := true, width := 2, tstate := 3, mask := 2 ^ 46 - 1 })) }

/-- A packet of one unit at a core's store. -/
def pkC (p : Packet) : State := { pkS p with coreReqs := [⟨0, 0, none⟩] }

theorem witness_unscheduled_packets :
    (let p := pk 31 0 12 false false 0 [];
      packetOpen (pkS p) p 0 = true ∧ d2dAt 31 (routePort 31 0) = some 10 ∧ good (pkS p) (rblk (d2dEnd (d2dPeer 10)).1) = true
        ∧ (dd (pkS p) 10).ready = true ∧ (dd (pkS p) 10).width ≠ 0 ∧ outputFull (pkS p) 31 (routePort 31 0) = false)
      ∧ (∀ w : Bool, let p := pk 31 31 12 false w (vmemAddr 31 0x3FFFE0) (if w then List.replicate 32 9 else [])
        packet? (pkS p) 0 = some p ∧ packetOpen (pkS p) p 3 = true ∧ outputFull (pkS p) 31 12 = false ∧ writeTurn (pkS p) p = true
          ∧ svcOpen (pkC p) = true ∧ packet? (pkC p) 0 = some p ∧ (pkC p).coreReqs = [⟨0, 0, none⟩] ∧ populated (pkC p) p.addr = true
          ∧ spanClean (pkC p) p.addr 32)
      ∧ (packet? (pkS (pk 31 31 30 false false 0x100000 [])) 0 = some (pk 31 31 30 false false 0x100000 []) ∧ packetOpen (pkS (pk 31 31 30 false false 0x100000 [])) (pk 31 31 30 false false 0x100000 []) 3 = true
        ∧ outputFull (pkS (pk 31 31 30 false false 0x100000 [])) 31 30 = false ∧ writeTurn (pkS (pk 31 31 30 false false 0x100000 [])) (pk 31 31 30 false false 0x100000 []) = true
        ∧ (facetAt (pkS (pk 31 31 30 false false 0x100000 [])) (0x100000 / 4096)).isSome = true)
      ∧ (let p := pk 31 31 12 true false 0 (List.replicate 32 9);
        packet? (pkS p) 0 = some p ∧ packetOpen (pkS p) p 3 = true ∧ outputFull (pkS p) 31 12 = false ∧ (vc (pkS p) 31).remote = some ⟨false, 0, 0, 0, none⟩ ∧ serviceOpen (pkS p) = true) := by
  unfold spanClean; decide +kernel

theorem inv_pkS : Inv (pkC (pk 31 31 12 false true (vmemAddr 31 0x3FFFE0) (List.replicate 32 9))) := ⟨by rfl, by rfl, by rfl⟩

/-- End 111 and its peer, 110. -/
def endS (slot : Nat) (x : D2DEnd) : State :=
  { st [] slot 10 [] with d2d := [(110, { D2DEnd.init with mask := 2 ^ 46 - 1, width := 2, ready := true }), (111, x)] }
def upEnd : D2DEnd := { D2DEnd.init with mask := 2 ^ 46 - 1, width := 2, ready := true, tstate := 3 }

theorem witness_d2d :
    (let s := { endS 4 upEnd with ft := { (endS 4 upEnd).ft with frame := 7 } };
      classNow s = 4 ∧ 111 / 2 % 16 = s.ft.frame % 16 ∧ ccNow s ≤ 39 ∧ (dd s 111).ready = true ∧ (dd s 111).width ≠ 0 ∧ (dd s 111).mask.testBit (23 * 1 + 22) = true)
      ∧ (let s := { endS 1 { upEnd with tstate := 1, testAt := 1, resetEnd := true } with now := 679200000 };
        awake s = true ∧ (dd s 111).tstate = 1 ∧ (dd s 111).fenced = false ∧ (dd s 111).testAt - 1 + 679200000 ≤ s.now)
      ∧ (dd (endS 1 { upEnd with inMarker := some 5 }) 111).inMarker = some 5
      ∧ (let s := endS 1 { upEnd with inReply := some (2 ^ 46 - 1, 2) };
        (dd s 111).inReply = some (2 ^ 46 - 1, 2) ∧ connWidth ((dd s 111).mask &&& (2 ^ 46 - 1)) = 2)
      ∧ (let s := endS 1 { upEnd with inReply := some (2 ^ 46 - 1, 1) };
        (dd s 111).inReply = some (2 ^ 46 - 1, 1) ∧ connWidth ((dd s 111).mask &&& (2 ^ 46 - 1)) ≠ 1)
      ∧ (let s := endS 1 { upEnd with inWidth := some 2, peer := 2 ^ 46 - 1 };
        (dd s 111).inWidth = some 2 ∧ connWidth ((dd s 111).mask &&& (dd s 111).peer) = 2)
      ∧ (let s := endS 1 { upEnd with inWidth := some 1, peer := 2 ^ 46 - 1, disagreeRun := 2 };
        (dd s 111).inWidth = some 1 ∧ connWidth ((dd s 111).mask &&& (dd s 111).peer) ≠ 1 ∧ (dd s 111).disagreeRun < 3) := by
  decide +kernel

theorem inv_endS : Inv (endS 1 { upEnd with inWidth := some 1, peer := 2 ^ 46 - 1, disagreeRun := 2 }) := ⟨by rfl, by rfl, by rfl⟩

/-! ## KV store -/

/-- A setup section: pool columns 0 and 511, rows 4095 on, two of them. -/
def kvSec : Section :=
  ⟨10, Ty.PREFIX, 0, leBytes 4 0 ++ [1, 0, 1, 0] ++ leBytes 8 0x4000100000 ++ leBytes 8 0x4000200000 ++ leBytes 8 0x4000300000 ++ leBytes 8 0
    ++ leBytes 2 4095 ++ leBytes 2 2 ++ leBytes 20 0 ++ leBytes 64 (2 ^ 511 + 1)⟩
def kvS : State := st [kvSec] 0 29 []
def kvG : KvCfg := (kvCfg kvS).getD ⟨0, 0, 0, 0, 0, 0, 0, 0, []⟩
/-- A request record of frame 69, ORD 2^32 - 1: ALLOC in column 511; with `flag`, a reserved bit. -/
def kvRec (flag : Nat) : BitVec 256 := BitVec.ofNat 256 (leNat (leBytes 6 69 ++ [3, BitVec.ofNat 8 flag] ++ leBytes 4 (2 ^ 32 - 1) ++ leBytes 4 511 ++ leBytes 16 0))
/-- A commit with one request, an ALLOC in column 511, for the frame before. -/
def kvReq0 : KvReq := { (kvReqOf (leBytes 6 4 ++ [3, 0] ++ leBytes 4 7 ++ leBytes 4 511 ++ leBytes 16 0)) with staged := 500 }
def kvC (faulted : Bool) : State :=
  { kvS with kv := { kvS.kv with reqs := [kvReq0], flushPending := true }, ft := { kvS.ft with faultedPrev := faulted } }
def tx0 : KvTx := ⟨[], [], [], [], [], [], [], false, [], 0, none⟩

theorem witness_kv_request :
    (hubUp kvS = true ∧ kvCfg kvS = some kvG ∧ kvS.ft.halted = false ∧ (rtr kvS 32).outq = [])
      ∧ frameAhead kvS.ft.frame (kvReqOf (leBytes 32 (kvRec 0).toNat)).frame ≤ 64
      ∧ kvReserved (leBytes 32 (kvRec 0).toNat) = false ∧ kvReserved (leBytes 32 (kvRec 255).toNat) = true
      ∧ kvOf kvS 69 = [] ∧ kvS.kv.reqs.length < 16384 := by decide +kernel

/-- The request waits for its staging, its lines there; the request is of a reserved kind. -/
def kvW : State :=
  let s := { kvS with kv := { kvS.kv with reqs := [{ kvReq0 with staged := 0 }], waiting := [(4, 7)] } }
  { s with kv := { s.kv with lines := kvNeeds s 4 7 } }
def kvB : State := { kvS with kv := { kvS.kv with reqs := [{ kvReq0 with bad := 3 }] } }

theorem witness_kv_staging :
    (kvW.kv.waiting = (4, 7) :: [] ∧ kvW.kv.asks = [] ∧ sramClean kvW = true ∧ kvNeeds kvW 4 7 ≠ [] ∧ ∀ l ∈ kvNeeds kvW 4 7, l ∈ kvW.kv.lines ∨ l ∈ kvW.kv.got)
      ∧ (kvCfg kvB = some kvG ∧ kvLive kvB = true ∧ kvB.ft.halted = false ∧ (kvOf kvB 4).find? (fun r => r.bad != 0) = some { kvReq0 with bad := 3 }) := by
  refine ⟨?_, ?_⟩ <;> decide +kernel

theorem witness_kv_commit :
    (awake (kvC false) = true ∧ slotNow (kvC false) = 0 ∧ 29 ≤ ccNow (kvC false) ∧ (kvC false).ft.doneStage < 29 ∧ kvCfg (kvC false) = some kvG
        ∧ (kvC false).ft.faultedPrev = false ∧ (kvC false).ft.halted = false ∧ kvLive (kvC false) = true)
      ∧ (commitTx (kvC false) kvG (kvOf (kvC false) 4) 4).err = none ∧ (commitTx (kvC false) kvG (kvOf (kvC false) 4) 4).copies = []
      ∧ (kvOf (kvC false) 4 = [kvReq0] ∧ kvReq0.bad = 0) ∧ (kvC true).ft.faultedPrev = true := by
  refine ⟨?_, ?_, ?_, ?_, ?_⟩ <;> decide +kernel

theorem witness_kv_alloc :
    kvReq0.code = 3 ∧ kvG.cols.contains (kvReq0.target % 512) = true ∧ lowestFree kvS kvG tx0 (kvG.cols.idxOf (kvReq0.target % 512)) = some 2
      ∧ kvG.loc 2 < 2 ^ 23 := by decide +kernel

theorem witness_copy_end :
    let s := { landed (.copyEnd 2 1000) 32 0 [kvSec] with kv := { (landed (.copyEnd 2 1000) 32 0 [kvSec]).kv with pins := [(0, 2, 0)] } }
    landedMsg s 0 = some (msgAt (.copyEnd 2 1000) 32 0) := by rfl

theorem inv_kv : Inv kvB ∧ Inv (kvC false) := ⟨⟨by rfl, by rfl, by rfl⟩, ⟨by rfl, by rfl, by rfl⟩⟩

/-! ## Movers and mailboxes -/

/-- A descriptor list with one owned descriptor of no elements at slot 1, cc 4; EVT to event register 9. -/
def dl (evt : Nat) : List Byte := leBytes 4 (2 ^ 31 + evt * 2 ^ 29 + 9 * 2 ^ 24 + 5 * 2 ^ 18) ++ leBytes 2 1 ++ leBytes 1 4 ++ leBytes 1 0 ++ leBytes 16 0 ++ leBytes 2 0
  ++ leBytes 2 1 ++ leBytes 2 1 ++ leBytes 2 (blk Ty.MCORE 127) ++ leBytes 32 0
def dlSec (m evt : Nat) : Section := ⟨6, Ty.SMOVER, m, leBytes 4 0 ++ leBytes 2 1 ++ leBytes 10 0 ++ dl evt⟩
def smS (evt : Nat) (f : SMover → SMover) : State := setSmv (st [dlSec 127 evt] 1 10 [blk Ty.SMOVER 127]) 127 f

theorem witness_stack_mover :
    (let s := smS 0 (fun x => { x with running := true, freeAt := 1060 });
      workOpen s (blk Ty.SMOVER 127) = true ∧ (smv s 127).running = true ∧ (smv s 127).active = false ∧ (smv s 127).freeAt ≤ s.now
        ∧ posCc s 1 4 ≤ s.now ∧ (smv s 127).freeAt ≤ posCc s 1 4 ∧ (ringDesc (ringBody s 127) 0).startSlot = 1 ∧ (ringDesc (ringBody s 127) 0).startCc = 4)
      ∧ (let s := smS 0 (fun x => { x with running := true, freeAt := 1074 }); posCc s 1 4 < (smv s 127).freeAt ∧ (smv s 127).freeAt ≤ s.now)
      ∧ (∀ evt : Fin 2, let s := smS evt (fun x => { x with running := true, active := true, lastAt := 1074 });
        let d := ringDesc (ringBody s 127) 0;
        workOpen s (blk Ty.SMOVER 127) = true ∧ (smv s 127).walk.src = d.srcTotal ∧ (smv s 127).walk.dst = d.dstTotal ∧ (smv s 127).lastAt ≤ s.now
          ∧ bitOf d.ctrl 29 = decide (evt.val = 1) ∧ eventTarget d.target = true ∧ blockState s d.target ≠ 3) := by
  refine ⟨?_, ?_, ?_⟩ <;> decide +kernel

theorem inv_smS : Inv (smS 0 (fun x => { x with running := true, freeAt := 1074 })) := ⟨by rfl, by rfl, by rfl⟩

/-- A hub descriptor with `own`; with `bad`, of no source loops. -/
def hdesc (own bad : Nat) : List Byte :=
  leBytes 4 (own * 2 ^ 31 + 5 * 2 ^ 21 + 5 * 2 ^ 18) ++ leBytes 4 0 ++ leBytes 8 0x4000001000 ++ leBytes 8 0x4000002000 ++ leBytes 2 1
    ++ leBytes 2 (1 - bad) ++ leBytes 2 1 ++ leBytes 2 0 ++ leBytes 32 0
/-- Channel 15 with a ring of 4,096 in SLM, its head at the last entry, in a SERVICE slot. -/
def hmS (own bad : Nat) (f : HMover → HMover) : State :=
  { setHmv (st [] 6 10 [hmBlk 15]) 15 (fun x => f { x with enabled := true, ringBase := 0x4000010000, ringSize := 4096, head := 4095 }) with
    mem := cellsAt 0x400004FFC0 (hdesc own bad) }

/-- The channel at the end of its descriptor; halted, before and after its descriptor was read; with a request past its deadline. -/
def hmEnd : HMover → HMover := fun x => { x with running := true, desc := hdesc 1 0, walk := ⟨1, 1, []⟩ }
def hmHalt (desc : List Byte) : HMover → HMover := fun x => { x with halted := true, desc := desc }
def late : HReq := ⟨1, false, 3, 0x4000001000, 1300, [], none⟩
def hmLate : HMover → HMover := fun x => { x with running := true, reqs := [late] }

theorem witness_hub_asks :
    ((hmOpen (hmS 1 0 id) 15 = true ∧ (hmv (hmS 1 0 id) 15).running = false ∧ (hmv (hmS 1 0 id) 15).halted = false ∧ (hmv (hmS 1 0 id) 15).waiting = false)
        ∧ (hmv (hmS 1 0 id) 15).stage = 0 ∧ (hmv (hmS 1 0 id) 15).ringSize = 4096 ∧ storeSpan (hmS 1 0 id) (hmHeadAddr (hmS 1 0 id) 15) 64 true = true)
      ∧ ((hmv (hmS 1 0 hmEnd) 15).walk.src = (hmDesc (hmS 1 0 hmEnd) 15).srcTotal ∧ (hmv (hmS 1 0 hmEnd) 15).walk.dst = (hmDesc (hmS 1 0 hmEnd) 15).dstTotal
        ∧ hmOpen (hmS 1 0 hmEnd) 15 = true ∧ (hmv (hmS 1 0 hmEnd) 15).running = true ∧ (hmv (hmS 1 0 hmEnd) 15).stage = 0 ∧ (hmv (hmS 1 0 hmEnd) 15).reqs = [])
      ∧ ((hmv (hmS 1 0 hmLate) 15).reqs.find? (fun r => r.data.isNone && decide (r.deadline + 3 ≤ (hmS 1 0 hmLate).now) && !replyWaits (hmS 1 0 hmLate) r) = some late)
      ∧ (∀ read : Bool, let s := hmS 1 0 (hmHalt (if read then hdesc 1 0 else []))
        hubUp s = true ∧ (hmv s 15).halted = true ∧ (hmv s 15).fenced = false ∧ (hmv s 15).stage = 0 ∧ storeSpan s (hmHeadAddr s 15) 4 true = true) := by
  refine ⟨?_, ?_, ?_, ?_⟩ <;> decide +kernel

/-- The channel at a stage, with its request and the reply to it at hub port 11. -/
def hubQ (dir : Nat) : HReq := ⟨0, false, dir, 0x400004FFC0, 5000, [], none⟩
def hubP (data : List Byte) : Packet := ⟨0, 32, 32, 11, 15, 32, 11, 15, 15, true, false, 0, 0, 0, data, 0, [], true, 1380⟩
def hmR (stage dir : Nat) (desc data : List Byte) : State :=
  { hmS 1 0 (fun x => { x with stage := stage, reqs := [hubQ dir], desc := desc }) with packets := [hubP data] }
/-- A descriptor that tells M-core 127 of its end. -/
def hdescE : List Byte := leBytes 4 (2 ^ 31 + 2 ^ 29) ++ (hdesc 1 0).drop 4 |>.take 30 |> (· ++ leBytes 2 (blk Ty.MCORE 127) ++ List.replicate 32 0)

theorem channel_replies :
    ChannelReply (hmR 1 2 [] ((hdesc 1 0).take 32)) 0 15 (hubP ((hdesc 1 0).take 32)) (hubQ 2)
      ∧ ChannelReply (hmR 1 2 [] ((hdesc 0 0).take 32)) 0 15 (hubP ((hdesc 0 0).take 32)) (hubQ 2)
      ∧ ChannelReply (hmR 2 2 ((hdesc 1 0).take 32) (hdesc 1 0)) 0 15 (hubP (hdesc 1 0)) (hubQ 2)
      ∧ ChannelReply (hmR 2 2 ((hdesc 1 1).take 32) (hdesc 1 1)) 0 15 (hubP (hdesc 1 1)) (hubQ 2)
      ∧ ChannelReply (hmR 3 3 (hdesc 1 0) []) 0 15 (hubP []) (hubQ 3) ∧ ChannelReply (hmR 3 3 hdescE []) 0 15 (hubP []) (hubQ 3)
      ∧ ChannelReply (hmR 4 3 [] ((hdesc 1 0).take 32)) 0 15 (hubP ((hdesc 1 0).take 32)) (hubQ 3) := by
  unfold ChannelReply
  refine ⟨?_, ?_, ?_, ?_, ?_, ?_, ?_⟩ <;> decide +kernel

theorem witness_hub_replies :
    (bitOf (bytesAt ((hdesc 1 0).take 32) 0 4) 31 = true ∧ bitOf (bytesAt ((hdesc 0 0).take 32) 0 4) 31 = false
        ∧ hubDescOk (((hdesc 1 0).take 32).take 4 ++ (hdesc 1 0).drop 4) = true ∧ hubDescOk (((hdesc 1 1).take 32).take 4 ++ (hdesc 1 1).drop 4) = false)
      ∧ (let s := hmR 3 3 hdescE []; (hmv s 15).stage = 3 ∧ (hmv s 15).fenced = false ∧ bitOf (hmDesc s 15).ctrl 29 = true ∧ noticeTarget s (hmDesc s 15).target = true)
      ∧ bitOf (hmDesc (hmR 3 3 (hdesc 1 0) []) 15).ctrl 29 = false := by decide +kernel

theorem inv_hmS : Inv (hmS 1 0 hmLate) ∧ Inv (hmR 2 2 ((hdesc 1 1).take 32) (hdesc 1 1)) := ⟨⟨by rfl, by rfl, by rfl⟩, ⟨by rfl, by rfl, by rfl⟩⟩

/-- Mailbox queue `q` as given, in a SERVICE slot. -/
def mbS (q : Nat) (f : MBox → MBox) : State := setMbx (st [] 6 10 []) q f
/-- An outbound queue with a packet open, `free` entries left. -/
def mbOpen (free : Nat) : MBox → MBox := fun x =>
  { x with isOpen := true, openAt := 2047, resv := 0, commit := 2047, commitTo := 2047, rd := 1024 + free, rSync := (toGray (1024 + free), toGray (1024 + free)) }
def mbFull : MBox → MBox := fun x => { x with entries := [(1023, leBytes 16 2)], rd := 2047, commit := 1, commitTo := 1, resv := 1, cSync := (toGray 1, toGray 1), lastRead := leBytes 16 9 }
def mbStale : State :=
  setReg (setReg (mbS 127 (fun x => { x with timer := 1 })) (mbBlk 127) Off.MBOX_NOTICE (2 ^ 31)) (mbBlk 127) Off.MBOX_NOTICE_ROUTE (2 ^ 31)

theorem assoc_all {α : Type} (p : α → Bool) (d : α) (hd : p d = true) (k : Nat) : ∀ l : List (Nat × α), l.all (fun e => p e.2) = true →
    p (Assoc.getD d k l) = true := by
  intro l
  induction l with
  | nil => exact fun _ => hd
  | cons e l ih =>
    intro h
    rw [List.all_cons, Bool.and_eq_true] at h
    have ih := ih h.2
    simp only [Assoc.getD, Assoc.get?] at ih ⊢
    split
    · exact h.1
    · exact ih

/-- A queue with no check bits in error and entries of 16 bytes. -/
theorem queue_clean (s : State) (q : Nat) (h : sramClean s = true) (h1 : (mbx s q).entries.all (fun e => e.2.length == 16) = true) : QueueClean s q :=
  ⟨h, fun _ => eq_of_beq (assoc_all (fun l : List Byte => l.length == 16) _ rfl _ _ h1)⟩

theorem clean_queues : QueueClean (mbS 127 (mbOpen 2)) 127 ∧ QueueClean (mbS 63 mbFull) 63 :=
  ⟨queue_clean _ _ (by decide) (by decide), queue_clean _ _ (by decide) (by decide)⟩

theorem witness_mailboxes :
    (hubUp (mbS 127 (mbOpen 2)) = true ∧ (mbx (mbS 127 (mbOpen 2)) 127).isOpen = true ∧ (mbx (mbS 127 (mbOpen 2)) 127).dropping = false
        ∧ mbFree (mbx (mbS 127 (mbOpen 2)) 127) = 2 ∧ rdSeen (mbx (mbS 127 (mbOpen 2)) 127) < 2048 ∧ mbFree (mbx (mbS 127 (mbOpen 0)) 127) = 0)
      ∧ (hubUp (mbS 63 mbFull) = true ∧ staleOver (mbS 63 mbFull) 63 (mbS 63 mbFull).now = false ∧ (mbWhole (mbS 63 mbFull) 63).2.1 = some 2
        ∧ staleOver (mbS 63 id) 63 (mbS 63 id).now = false ∧ mbWhole (mbS 63 id) 63 = (mbS 63 id, none, none))
      ∧ (let s := { mbStale with now := 6403 }
        staleOver s 127 s.now = true ∧ readWaits s 127 = false ∧ bitOf (getReg s (mbBlk 127) Off.MBOX_NOTICE_ROUTE) 31 = true) := by
  refine ⟨?_, ?_, ?_⟩ <;> decide +kernel

theorem inv_mbS : Inv (mbS 127 (mbOpen 0)) ∧ Inv (mbS 63 id) ∧ Inv mbStale := ⟨⟨by rfl, by rfl, by rfl⟩, ⟨by rfl, by rfl, by rfl⟩, ⟨by rfl, by rfl, by rfl⟩⟩

/-! ## Garlet ports -/

/-- A port schedule of one entry: slot 1, cc 4, rate 2, KEY 5, `n` flits. -/
def gpSec (n : Nat) : Section := ⟨8, Ty.GPORT, 19, leBytes 4 0 ++ leBytes 2 1 ++ leBytes 10 0 ++ leBytes 2 1 ++ [4, 2] ++ leBytes 2 5 ++ leBytes 2 n⟩
/-- Port 19 as given, in a state of training. -/
def gpS (slot cc tstate : Nat) (f : GPort → GPort) : State :=
  setGp (st [gpSec 3] slot cc [gpBlk 19]) 19 (fun g => f { g with tstate := tstate, width := 2, rxWidth := 2, rxAt := 3, ownMask := 511, peerMask := 511, lanes := 255, rxLanes := 255 })
/-- A record of one flit, its header's check byte over bits 103-0. -/
def recA : BitVec 2000 :=
  let x := 1 + flA.pay.toNat * 2 ^ 240 + flA.chk.toNat * 2 ^ 496 + flA.tag.toNat * 2 ^ 528
  BitVec.ofNat 2000 (x + crc8 x 103 0 * 2 ^ 104)
/-- A link-control block of an operation with both mask and width given. -/
def linkB (op mask width : Nat) : BitVec 128 :=
  let x := 0x82 * 2 ^ 120 + op * 2 ^ 112 + mask * 2 ^ 103 + width * 2 ^ 101 + 7 * 2 ^ 96
  BitVec.ofNat 128 (x + crc8 x 127 8)

theorem witness_garlet_record :
    (gpLive (gpS 2 10 7 id) 19 = true ∧ (gp (gpS 2 10 7 id) 19).tstate = 7 ∧ (gp (gpS 2 10 7 id) 19).rxWidth = 2 ∧ gpProgram (gpS 2 10 7 id) 19 = true
        ∧ 2 ≤ slotNow (gpS 2 10 7 id))
      ∧ (crc8 recA.toNat 103 0 = fieldOf recA.toNat 111 104 ∧ recA.toNat.testBit 0 = true
        ∧ (∀ k : Fin 6, 1 ≤ k.val → recA.toNat.testBit k = false) ∧ (recordFlit recA.toNat 0).cls = .clean) := by
  refine ⟨?_, ?_⟩ <;> decide +kernel

/-- A flit of KEY 5 that waits at the port for this frame. -/
def gpWait : GPort → GPort := fun g => { g with rx := [⟨5, flA, 1069⟩], released := [(0, 2)] }
def haltB : BitVec 128 := BitVec.ofNat 128 (0x81 * 2 ^ 120 + 1 * 2 ^ 112)

theorem witness_garlet_release :
    (workOpen (gpS 1 10 7 gpWait) (gpBlk 19) = true ∧ gpEntryCount (gpBody (gpS 1 10 7 gpWait) 19) = 1
        ∧ (let s := gpS 1 10 7 gpWait; let e := gpEntry (gpBody s 19) 0
          posCc s e.slot e.cc ≤ s.now ∧ min e.count (e.rate * (s.now - posCc s e.slot e.cc + 1)) = 2 + 1 ∧ Assoc.getD 0 0 (gp s 19).released = 2
            ∧ (gp s 19).rx.findIdx (fun r => r.frame == s.ft.frame && r.flit.key == e.key && decide (r.at_ ≤ posCc s e.slot e.cc + 2 / max 1 e.rate)) = 0 ∧ (gp s 19).rx[0]? = some ⟨5, flA, 1069⟩))
      ∧ (let s := gpS 1 10 7 (fun g => { g with rx := [⟨5, flA, 1070⟩], released := [(0, 2)] }); let e := gpEntry (gpBody s 19) 0
        ∀ r ∈ (gp s 19).rx, posCc s e.slot e.cc + 2 / max 1 e.rate < r.at_)
      ∧ (let s := gpS 1 10 7 (fun g => { g with released := [(0, 3)] })
        doneOpen s (gpBlk 19) = true ∧ (sectionOf s 8 19).isSome = true ∧ (gp s 19).tx = [] ∧ (gpEntry (gpBody s 19) 0).count = 3)
      ∧ (5 ≤ (gp (gpS 1 10 5 id) 19).tstate ∧ fieldOf haltB.toNat 127 120 = 0x81 ∧ (gpS 1 10 5 id).ft.halted = false) := by
  refine ⟨?_, ?_, ?_, ?_⟩ <;> decide +kernel

theorem witness_garlet_training :
    (∀ k : Fin 7, gpOverdue (gpS 1 10 k (fun g => { g with trainAt := 1000 })) 19 = false)
      ∧ (∀ k : Fin 4, gpOverdue { gpS 1 10 (k + 2) id with now := 10 ^ 11 } 19 = true ∧ gpLive { gpS 1 10 (k + 2) id with now := 10 ^ 11 } 19 = true)
      ∧ gpLive (gpS 1 10 1 id) 19 = true ∧ (gp (gpS 1 10 1 id) 19).tstate = 1 ∧ (gp (gpS 1 10 2 id) 19).peerPort = 0x1F
      ∧ linkOp (linkB 1 511 0) 1 = true ∧ linkOp (linkB 2 0 2) 2 = true ∧ linkOp (linkB 2 0 1) 2 = true ∧ linkOp (linkB 4 0 0) 4 = true ∧ linkOp (linkB 3 0 0) 3 = true
      ∧ fieldOf (linkB 2 0 2).toNat 102 101 = maskWidth (gpMask (gp (gpS 1 10 4 id) 19)) ∧ maskWidth (gpMask (gp (gpS 1 10 4 id) 19)) ≠ 0
      ∧ fieldOf (linkB 2 0 1).toNat 102 101 ≠ maskWidth (gpMask (gp (gpS 1 10 4 id) 19))
      ∧ (gp (gpS 1 10 4 (fun g => { g with rounds := 2 })) 19).rounds < 3
      ∧ (gpLive (gpS 1 10 3 id) 19 = true ∧ 3 ≤ (gp (gpS 1 10 3 id) 19).tstate)
      ∧ ctrlHeld (gpS 1 10 5 id) 19 = false ∧ ctrlHeld (gpS 1 10 5 (fun g => { g with ctrlAt := 1075 })) 19 = true := by decide +kernel

/-- The calibration window of port 19: class 3 of a frame that is 3 modulo 16, at a cc; a lane set to be changed. -/
def calS (cc : Nat) : State := { gpS 3 cc 7 id with ft := { (gpS 3 cc 7 id).ft with frame := 3 } }
def swapS : State := { gpS 0 40 7 (fun g => { g with swapTo := some (510, 2, 872) }) with now := 1088, ft := { (gpS 0 40 7 id).ft with tickAt := 1000 } }

theorem witness_garlet_service :
    (gpLive (calS 39) 19 = true ∧ calWindow (calS 39) 19 = true ∧ ccNow (calS 39) < 40 ∧ (gp (calS 39) 19).calAt ≤ (calS 39).now - ccNow (calS 39))
      ∧ ((gp (calS 0) 19).tstate = 7 ∧ calOpens (calS 0) 19 = true ∧ swapDue (calS 0) (gp (calS 0) 19) = false ∧ ctrlHeld (calS 0) 19 = false
        ∧ ctrlHeld (setGp (calS 0) 19 (fun g => { g with ctrlAt := (calS 0).now + 1 })) 19 = true)
      ∧ (gpLive (gpS 1 10 7 id) 19 = true ∧ (gp (gpS 1 10 7 (fun g => { g with rxTo := some (510, 2, 1074) })) 19).rxTo = some (510, 2, 1074))
      ∧ (gpLive swapS 19 = true ∧ (gp swapS 19).swapTo = some (510, (gp swapS 19).width, 872) ∧ 872 + 128 ≤ swapS.ft.tickAt ∧ swapS.ft.tickAt + 40 ≤ swapS.now
        ∧ (swapS.now - (gp swapS 19).groupAt) % groupLen (gp swapS 19).width = 0) := by
  refine ⟨?_, ?_, ?_, ?_⟩ <;> decide +kernel

theorem inv_gpS : Inv (gpS 1 10 7 gpWait) ∧ Inv (gpS 1 10 4 id) ∧ Inv (calS 39) := ⟨⟨by rfl, by rfl, by rfl⟩, ⟨by rfl, by rfl, by rfl⟩, ⟨by rfl, by rfl, by rfl⟩⟩

/-! ## Zeleri link and facets -/

/-- The link READY in a SERVICE slot, with four bytes of scratchpad written. -/
def zlS (f : Zeleri → Zeleri) : State := { st [] 6 10 [zlBlk] with zl := f { State.reset.zl with tstate := 4, width := 2, lanes := 0xFFFF }, mem := cellsAt 0x400FFFFFE0 [1, 2, 3, 4] }

theorem host_may (f : Zeleri → Zeleri) (h : zlUp (zlS f) = true) (h1 : svcOpen (zlS f) = true) (h2 : (zlS f).zl.lost = []) (ttype tag : Nat) :
    HostMay (zlS f) ttype tag := ⟨h, h1, h2 ▸ List.not_mem_nil⟩
theorem host_may_id : ∀ ttype tag, HostMay (zlS id) ttype tag := host_may id (by decide) (by decide) rfl

/-- Transactions of two units whose packets have all been answered. -/
def jobX (ttype : Nat) : ZlJob := ⟨ttype, 255, 0x400FFFFFC0, [some (0, List.replicate 32 7), some (0, [])]⟩
def jobS (ttype : Nat) : State := zlS (fun z => { z with jobs := [jobX ttype] })

theorem witness_host_memory :
    (zlJob? (zlS id) 1 255 0x400FFFFFE0 = none ∧ zlJob? (zlS id) 2 255 0x400FFFFFE0 = none ∧ spanMapped (zlS id) 0x400FFFFFC0 2 false 0 = true
        ∧ spanMapped (zlS id) 0x400FFFFFC0 2 true 15 = true ∧ admitBlocked (zlS id) ⟨1, 255, 1, 0, false, 0, 0x400FFFFFC0, 0, 0, 0, [], []⟩ = false
        ∧ admitBlocked (zlS id) ⟨2, 255, 1, 15, false, 0, 0x400FFFFFC0, 0, 0, 0, [1, 2], [3, 4]⟩ = false)
      ∧ spanMapped (zlS id) 0xFFFFFFFFFFE0 1 false 0 = false
      ∧ (e2e (leBytes 32 (7 : BitVec 256).toNat) 0x400FFFFFE0 + 1 ≠ e2e (leBytes 32 (7 : BitVec 256).toNat) 0x400FFFFFE0)
      ∧ spanMapped (zlS id) 0xFFFFFFFFFFE0 1 true 0 = false ∧ (spanMapped (zlS id) 0x5A3000 1 true 0 = false ∧ facetAt (zlS id) (0x5A3000 / 4096) = some 1187)
      ∧ ∀ k : Fin 2, zlUp (jobS (k + 1)) = true ∧ zlJob? (jobS (k + 1)) (k + 1) 255 0x400FFFFFC0 = some (jobX (k + 1)) ∧ (jobS (k + 1)).zl.lost = []
        ∧ jobDone (jobX (k + 1)) = true ∧ jobAdmitted (jobS (k + 1)) (jobX (k + 1)) = false ∧ ∀ x ∈ jobUnits (jobX (k + 1)), x.1 = 0 := by
  refine ⟨?_, ?_, ?_, ?_, ?_, ?_⟩ <;> decide +kernel

theorem inv_zlS : Inv (zlS id) := ⟨by rfl, by rfl, by rfl⟩

theorem witness_facets :
    (facetAt (zlS id) (0x1A0000 / 4096) = some (blk Ty.MCORE 127) ∧ blk Ty.MCORE 127 < blockCount ∧ (0x1A0000 + Off.SCRATCH) % 4096 = Off.SCRATCH
        ∧ (0x1A0000 + Off.SCRATCH) / 4096 = 0x1A0)
      ∧ facetAt (zlS id) (0x59A000 / 4096) = some (blk Ty.FTIMER 0) ∧ facetAt (zlS id) (0x5A3FFF / 4096) = some 1187 ∧ (0x5A3FFF : Nat) % 4 ≠ 0
      ∧ hubUp (zlS id) = true ∧ accessMsg (zlS id) false 255 0x1A0000 = none ∧ accessMsg (zlS id) true 255 (0x1A0000 + Off.SCRATCH) = none
      ∧ writesAt (zlS id) (blk Ty.MCORE 127) Off.SCRATCH = [] ∧ writesAt (zlS id) (blk Ty.MCORE 127) Off.ERR_SUMMARY = []
      ∧ (0x1A0000 + Off.ERR_SUMMARY) % 4096 = Off.ERR_SUMMARY ∧ facetAt (zlS id) (0 / 4096) = none := by decide +kernel

/-- A read of the link that has come whole to the node of its facet; writes of this cc, and an error bit that the device set in it. -/
def accS : State := landed (.access .zeleri false 255 0x1A0000 0) 31 2 []
def ccS : State := { zlS id with regCc := ⟨1395, [(blk Ty.MCORE 127, 2)], [⟨blk Ty.MCORE 127, Off.SCRATCH, 2, 7, 0, false⟩]⟩ }
theorem witness_accesses :
    (hubUp accS = true ∧ accessMsg accS false 255 0x1A0000 = some (msgAt (.access .zeleri false 255 0x1A0000 0) 31 2) ∧ (landedMsg accS 0).isSome = true
        ∧ facetAt accS (0x1A0000 / 4096) = some (blk Ty.MCORE 127))
      ∧ (writesAt ccS (blk Ty.MCORE 127) Off.SCRATCH ≠ [] ∧ (∀ a ∈ writesAt ccS (blk Ty.MCORE 127) Off.SCRATCH, a.rank ≤ 2)
        ∧ setsNow ccS (blk Ty.MCORE 127) = 2)
      ∧ (admitBlocked (zlS id) ⟨3, 255, 0, 0, false, 0, 0x1A0000, 0, 0, 0, [], []⟩ = false
        ∧ admitBlocked (zlS id) ⟨4, 255, 0, 0, false, 0, 0x1A0000 + Off.CONTROL, 2, 0, 0, [], []⟩ = false
        ∧ (0x1A0000 + Off.CONTROL) % 4096 = Off.CONTROL ∧ bitOf 2 1 = true ∧ canFence Ty.MCORE = true ∧ (zlS id).zl.lost = []) := by decide +kernel

/-- A block whose LOCK is set; one that runs the loaded program; one that does not. -/
def lockS : State := setReg (zlS id) 1187 Off.LOCK 1
def progS : State := st [tileSec 127 [.nop]] 1 10 []
theorem witness_controls :
    (bitOf (getReg lockS 1187 Off.LOCK) 0 = true ∧ bitOf (getReg (zlS id) (blk Ty.MCORE 127) Off.LOCK) 0 = false)
      ∧ (canEnable Ty.MCORE = true ∧ bitOf (getReg progS (blk Ty.MCORE 127) Off.CONTROL) 0 ≠ true ∧ bitOf (getReg progS (blk Ty.MCORE 127) Off.LOCK) 0 = false
        ∧ blockState progS (blk Ty.MCORE 127) = 0 ∧ Assoc.get? (blk Ty.MCORE 127) progS.heldEnable = none ∧ running progS = true ∧ runsProgram progS (blk Ty.MCORE 127) = true
        ∧ runsProgram progS (blk Ty.MCORE 126) = false) := by
  refine ⟨?_, ?_⟩ <;> decide +kernel

/-- A group of one flit, the header of a read, with SEQ 4,095; its CRC in the top bits. -/
def grpData : List (BitVec 256) := BitVec.ofNat 256 (2 ^ 248) :: List.replicate 15 0
def grpHead : Nat := 4095 * 2 ^ 212 + 2 ^ 182
def grpCrc : Nat := crc32 ((grpData.map (fun d => leBytes 32 d.toNat)).flatten ++ leBytes 28 grpHead)
def grpCtrl (crc : Nat) : BitVec 256 := BitVec.ofNat 256 (grpHead + crc * 2 ^ 224)
def grpS : State := zlS (fun z => { z with expect := 4095 })

theorem foldl_lt {α : Type} (n : Nat) (f : Nat → α → Nat) (hf : ∀ c x, c < n → f c x < n) (l : List α) : ∀ c, c < n → l.foldl f c < n := by
  induction l with
  | nil => exact fun c h => h
  | cons x l ih => exact fun c h => ih _ (hf c x h)

theorem crc32_lt (l : List Byte) : crc32 l < 2 ^ 32 := by
  refine Nat.xor_lt_two_pow (foldl_lt _ _ ?_ l _ (by decide)) (by decide)
  intro c b hc
  refine foldl_lt _ _ ?_ _ _ (Nat.xor_lt_two_pow hc (Nat.lt_of_lt_of_le b.isLt (by decide)))
  intro c _ hc
  have h2 : c / 2 < 2 ^ 32 := by omega
  split
  · exact Nat.xor_lt_two_pow h2 (by decide)
  · exact h2

theorem leBytes_high (c : Nat) : ∀ n x, leBytes n (x + c * 2 ^ (8 * n)) = leBytes n x := by
  intro n
  induction n with
  | zero => exact fun _ => rfl
  | succ n ih =>
    intro x
    have h : x + c * 2 ^ (8 * (n + 1)) = x + 256 * (c * 2 ^ (8 * n)) := by rw [Nat.mul_add, Nat.pow_add, ← Nat.mul_assoc, Nat.mul_comm (c * _)]
    rw [leBytes, leBytes, h, Nat.add_mul_div_left _ _ (by decide), ih]
    congr 1
    apply BitVec.eq_of_toNat_eq
    rw [BitVec.toNat_ofNat, BitVec.toNat_ofNat]
    omega

/-- A group's CRC field decides. -/
theorem group_crc (data : List (BitVec 256)) (x c : Nat) (hx : x < 2 ^ 224) (hc : c < 2 ^ 32) :
    groupCrcOk data (BitVec.ofNat 256 (x + c * 2 ^ 224)) = (crc32 ((data.map (fun d => leBytes 32 d.toNat)).flatten ++ leBytes 28 x) == c) := by
  have h : (BitVec.ofNat 256 (x + c * 2 ^ 224)).toNat = x + c * 2 ^ 224 := by
    rw [BitVec.toNat_ofNat]; exact Nat.mod_eq_of_lt (by omega)
  have h1 : (x + c * 2 ^ 224) / 2 ^ 224 = c := by omega
  have h2 : leBytes 28 (x + c * 2 ^ 224) = leBytes 28 x := leBytes_high c 28 x
  rw [groupCrcOk, groupCrc, h, h1, h2]
theorem witness_group_crc : groupCrcOk grpData (grpCtrl grpCrc) = true ∧ groupCrcOk grpData (grpCtrl ((grpCrc + 1) % 2 ^ 32)) = false := by
  have h : grpCrc < 2 ^ 32 := crc32_lt _
  refine ⟨?_, ?_⟩
  · rw [grpCtrl, group_crc _ _ _ (by decide) h]
    exact beq_self_eq_true _
  · rw [grpCtrl, group_crc _ _ _ (by decide) (Nat.mod_lt _ (by decide))]
    exact beq_false_of_ne (show grpCrc ≠ _ by omega)

theorem group_head (c : Nat) (h : c < 2 ^ 32) : (grpCtrl c).toNat = grpHead + c * 2 ^ 224 := by
  have hg : grpHead < 2 ^ 224 := by decide
  rw [grpCtrl, BitVec.toNat_ofNat]
  exact Nat.mod_eq_of_lt (by omega)

theorem witness_zeleri_group :
    (zlUp grpS = true ∧ grpData.length = 16 ∧ budgetOver grpS (13940 / 10) = false ∧ grpS.zl.replay = [] ∧ grpS.zl.replayTo = none
        ∧ grpS.zl.partialFlits = [] ∧ rxUnfreed grpS < 32768 ∧ fieldOf (grpData.getD 0 0).toNat 255 248 = 1)
      ∧ fieldOf (grpCtrl grpCrc).toNat 223 212 = grpS.zl.expect ∧ fieldOf (grpCtrl grpCrc).toNat 197 182 = 1
      ∧ (grpCtrl grpCrc).toNat.testBit 199 = false ∧ fieldOf (grpCtrl grpCrc).toNat 127 120 = 0 := by
  rw [group_head grpCrc (crc32_lt _)]
  generalize grpCrc = c
  have h : grpHead = 4095 * 2 ^ 212 + 2 ^ 182 := rfl
  refine ⟨by decide +kernel, ?_, ?_, ?_, ?_⟩
  · rw [fieldOf, h, show grpS.zl.expect = 4095 from rfl]; omega
  · rw [fieldOf, h]; omega
  · rw [h, Nat.testBit_eq_decide_div_mod_eq]
    exact decide_eq_false (by omega)
  · rw [fieldOf, h]; omega

/-- Transactions that wait for admission: an EVT, an RWR of a facet, and an MRD of two units of SLM. -/
def txE : Transaction := ⟨7, 255, 0, 0, false, 1, 0, 0, 0, 0, [], []⟩
def txA : Transaction := ⟨4, 255, 0, 0, false, 0, 0x1A0008, 1, 0, 0, [], []⟩
def txM : Transaction := ⟨1, 255, 1, 0, false, 0, 0x400FFFFFC0, 0, 0, 0, [], []⟩
def admS (x : Transaction) : State := zlS (fun z => { z with held := [x], admitAt := (1395, 3) })

theorem witness_zeleri_link :
    (let s := zlS (fun z => { z with replay := [⟨4095, grpData, 0, 591⟩] }); zlUp s = true ∧ s.zl.replay.getLast? = some ⟨4095, grpData, 0, 591⟩ ∧ 4095 ∉ s.zl.resend ∧ 591 + 800 + 3 ≤ s.now)
      ∧ (let s := { zlS (fun z => { z with rxEpisode := 1 }) with now := 1603 }; zlUp s = true ∧ s.zl.rxEpisode ≠ 0 ∧ s.zl.rxEpisode - 1 + 1600 + 3 ≤ s.now)
      ∧ (let s := admS txE; hubUp s = true ∧ svcOpen s = true ∧ s.zl.held = [txE] ∧ admitBlocked s txE = false ∧ s.zl.admitAt = (s.now + 1, 3)
        ∧ heldFlits txE ≤ 3 ∧ memTransaction s txE = false ∧ txE.ttype ≠ 3 ∧ txE.ttype ≠ 4)
      ∧ (let s := admS txA; admitBlocked s txA = false ∧ heldFlits txA ≤ 3 ∧ memTransaction s txA = false ∧ txA.ttype = 4
        ∧ facetAt s (txA.addr / 4096) = some (blk Ty.MCORE 127))
      ∧ (let s := admS txM; admitBlocked s txM = false ∧ heldFlits txM ≤ 3 ∧ memTransaction s txM = true ∧ txM.ttype = 1)
      ∧ (zlLive (zlS (fun z => { z with tstate := 1 })) = true ∧ zlOverdue (zlS (fun z => { z with tstate := 3, trainAt := 1394 })) = false
        ∧ zlOverdue { zlS (fun z => { z with tstate := 3 }) with now := 10 ^ 11 } = true ∧ zlLive { zlS (fun z => { z with tstate := 3 }) with now := 10 ^ 11 } = true)
      ∧ (let s := zlS (fun z => { z with held := [txM] }); s.zl.held ≠ [] ∧ s.zl.admitAt.1 ≠ s.now + 1 ∧ svcOpen s = true ∧ admitBlocked s txM = false ∧ s.zl.heldOld = 0) := by
  refine ⟨?_, ?_, ?_, ?_, ?_, ?_, ?_⟩ <;> decide +kernel

theorem inv_zeleri : Inv { zlS (fun z => { z with rxEpisode := 1 }) with now := 1603 } ∧ Inv lockS := ⟨⟨by rfl, by rfl, by rfl⟩, ⟨by rfl, by rfl, by rfl⟩⟩

/-- Event data that names M-core 127 and event register 9; a channel that waits for a host read. -/
def evData : Word := BitVec.ofNat 32 (9 * 2 ^ 16 + blk Ty.MCORE 127)
def hrdReq : HReq := ⟨255, true, 0, 0x1000, 5000, [(0, 32)], none⟩
def hrdS : State := setHmv (zlS (fun z => { z with devReqs := [(255, tHRD, 15)] })) 15 (fun x => { x with reqs := [hrdReq] })
def mbrS : State := setMbx (zlS id) 127 (fun x => { x with entries := [(1023, leBytes 16 2)], rd := 2047, commit := 1, commitTo := 1, resv := 1, cSync := (toGray 1, toGray 1) })
def mbxS : State := setMbx (zlS id) 63 (fun x => { x with rd := 1022, rSync := (toGray 1022, toGray 1022), resv := 2043, commit := 2043, commitTo := 2043 })

theorem witness_host_services :
    ((mbx mbxS 63).fenced = false ∧ (mbx mbxS 63).dropping = false ∧ rdSeen (mbx mbxS 63) < 2048 ∧ mbFree (mbx mbxS 63) = 3)
      ∧ ((mbWhole mbrS 127).2.1 = some 2 ∧ (mbx mbrS 127).fenced = false ∧ staleOver mbrS 127 (zlArrival mbrS 6 255) = false)
      ∧ (eventTarget (fieldOf evData.toNat 15 0) = true ∧ blockState (zlS id) (fieldOf evData.toNat 15 0) ≠ 3)
      ∧ (hrdS.zl.devReqs.find? (fun r => r.1 == 255) = some (255, tHRD, 15) ∧ (hmv hrdS 15).reqs = [hrdReq] ∧ zlArrival hrdS 9 255 < hrdReq.deadline + 3)
      ∧ (let s := zlS (fun z => { z with mbxJobs := [⟨255, 63, 0, 0, 0, false⟩, ⟨254, 63, 3, 0, 0, false⟩, ⟨253, 63, 3, 1, 0, false⟩] })
        zlUp s = true ∧ (mbx s 63).commit = 0 ∧ (mbx s 63).era = 0)
      ∧ ((zlS id).chord.halt = none ∧ (zlS id).ft.halted = false ∧ bitOf (getReg (zlS id) (blk Ty.FTIMER 0) Off.FTIMER_FAULT_INFO) 31 = false) := by
  refine ⟨?_, ?_, ?_, ?_, ?_, ?_⟩ <;> decide +kernel

theorem clean_host_queues : QueueClean mbxS 63 ∧ QueueClean mbrS 127 := ⟨queue_clean _ _ (by decide) (by decide), queue_clean _ _ (by decide) (by decide)⟩

/-! ## Sensors, power and supplies -/

/-- A package in service whose hub sensors read 25 °C. -/
def warmS : State :=
  { idle 5 10 with th := { State.reset.th with sensors := (List.range 12).map (fun k => (512 + k, { sensor State.reset 0 with value := 400, valid := true })) } }

theorem witness_thermal :
    (sensing warmS = true ∧ warmS.th.readAt = 0 ∧ (sensor warmS 523).state ≠ 2 ∧ (-321 : Int) + (Assoc.getD 0 523 warmS.shape.offsets + Assoc.getD 0 523 warmS.th.ucal) < -320)
      ∧ (let s := { warmS with th := { warmS.th with request := true, graceCc := 32000003 } }; s.th.met = false ∧ s.th.graceWon = 0 ∧ graceTime s + 3 ≤ s.th.graceCc)
      ∧ (let s := { warmS with now := 1064, ft := { warmS.ft with tripGate := true } }; s.ft.tripGate = true ∧ (∀ x ∈ s.ft.tripAt, x.2 ≤ s.now) ∧ awake s = true ∧ ccNow s = 0 ∧ s.cols = [])
      ∧ (let s := { State.reset with power := .tripped, now := 800000000, th := { State.reset.th with coolSince := 1, tripped := true } }
        s.power = .tripped ∧ s.th.coolSince - 1 + 800000000 ≤ s.now)
      ∧ (let s := { warmS with now := 800000003, th := { warmS.th with inletAt := 1, flowLowAt := 1 } };
        s.th.inletStale = false ∧ s.th.inletAt - 1 + 800000000 + 3 ≤ s.now ∧ s.th.lowFlow = false ∧ s.th.flowLowAt - 1 + 800000000 + 3 ≤ s.now
        ∧ telemBy s (s.th.inletAt - 1 + 800000000 + 2) (fun item _ => item == 1) = false
        ∧ telemBy s (s.th.flowLowAt - 1 + 800000000 + 2) (fun item v => item == 2 && !flowLow s v) = false)
      ∧ (let s := { warmS with now := 800000003, th := { warmS.th with lowFlow := true, flowGoodAt := 1 } };
        s.th.lowFlow = true ∧ s.th.flowGoodAt ≠ 0 ∧ s.th.flowGoodAt - 1 + 800000000 + 3 ≤ s.now
        ∧ telemBy s (s.th.flowGoodAt - 1 + 800000000 + 2) (fun item v => item == 2 && flowLow s v) = false) := by
  refine ⟨?_, ?_, ?_, ?_, ?_, ?_⟩ <;> decide +kernel

theorem inv_warm : Inv { warmS with now := 800000003, th := { warmS.th with inletAt := 1, flowLowAt := 1 } } := ⟨by rfl, by rfl, by rfl⟩

/-- A user offset of sensor 523 selected; a minute, a second, a window after their last. -/
def ucalS : State := setReg warmS sensagg Off.SENSAGG_UCAL_SEL 523
def minuteS : State := { warmS with now := 48000000000, ft := { warmS.ft with tickAt := 47999999000 } }

theorem witness_power :
    (awake minuteS = true ∧ minuteS.th.windowAt + 800000 ≤ minuteS.now ∧ hubUp minuteS = true ∧ (minuteS.sup.pollAt = 0 ∨ minuteS.sup.pollAt - 1 + 8000000 ≤ minuteS.now)
        ∧ (minuteS.power = .run ∨ minuteS.power = .ready) ∧ minuteS.plate.minuteAt + 48000000000 ≤ minuteS.now)
      ∧ (let s := { minuteS with plate := { minuteS.plate with present := true, sinceWrite := 59 } }; s.plate.present = true ∧ 59 ≤ s.plate.sinceWrite)
      ∧ (let s := { minuteS with th := { minuteS.th with hotCount := 2, hotSum := 20 }, plate := { minuteS.plate with dirUp := true, extreme := 331 } };
        s.th.swingAt + 800000000 ≤ s.now ∧ 320 < s.plate.extreme - s.th.hotSum / (s.th.hotCount : Int) ∧ s.th.hotSum / (s.th.hotCount : Int) ≤ s.plate.extreme)
      ∧ (Assoc.sorted ucalS.th.ucal = true ∧ regField ucalS sensagg Off.SENSAGG_UCAL_SEL 9 0 = 523 ∧ hubUp ucalS = true) := by
  refine ⟨?_, ?_, ?_, ?_⟩ <;> decide +kernel

def holdS : State := { warmS with power := .hold, now := 8000000, sup := { warmS.sup with selfRefresh := true, holdCause := 2 } }
theorem witness_supplies :
    (40 ∈ backupRails ∧ warmS.power ≠ .off ∧ (rail warmS 40).mainGood = true ∧ (rail warmS 40).backupGood = true)
      ∧ (let s := { warmS with now := 80000000, sup := { warmS.sup with rails := [(40, ⟨0, 0, 0, false, true, true, 0⟩)] } }
        (rail s 40).onBackup = true ∧ (rail s 40).switchedAt + 80000000 ≤ s.now)
      ∧ (let s := { warmS with sup := { warmS.sup with rails := [(0, ⟨0, 0, 0, false, true, false, 0⟩)] } }; (rail s 0).mainGood = false ∧ (rail s 0).onBackup = false)
      ∧ placeOf (32 * 0x400000000) = .dram 0 0 ∧ quadrantOf (0 / 16) = 0 ∧ (stacksUp warmS = true ∧ warmS.power = .ready ∧ warmS.cols = [])
      ∧ (let s := { holdS with sup := { holdS.sup with selfRefresh := false } }; s.power = .hold ∧ s.sup.holdCause = 2 ∧ s.sup.selfRefresh = false) := by
  refine ⟨?_, ?_, ?_, ?_, ?_⟩ <;> decide +kernel

theorem inv_ucal : Inv ucalS := ⟨by rfl, by rfl, by rfl⟩

/-! ## Bring-up, firmware, sideband -/

/-- A package at the first step of a bring-up, as made and with no firmware in a slot. -/
def buS (x : FwUnit) : State := { State.reset with power := .aux, shape := { Shape.init with step := 1 }, fw := { State.reset.fw with units := [(6, x)] } }

theorem witness_bring_up :
    (State.reset.power = .off ∧ State.reset.pins.perstHigh = false ∧ vauxGood State.reset = true)
      ∧ (let s := { State.reset with sup := { State.reset.sup with rails := [(40, ⟨0, 0, 0, false, false, false, 0⟩)] } }; vauxGood s = false)
      ∧ (holdS.power = .hold ∧ holdS.sup.selfRefresh = true ∧ holdS.sup.ended = false ∧ holdS.sup.holdCause ≠ 1 ∧ holdS.sup.holdAt + 8000000 ≤ holdS.now)
      ∧ (let s := { holdS with sup := { holdS.sup with holdCause := 1 } }; s.sup.holdCause = 1 ∧ ∀ r < 33, (rail s r).mainGood = true ∧ (rail s r).switchedAt + 8000000 ≤ s.now)
      ∧ ((buS FwUnit.init).sup.ended = false ∧ (buS FwUnit.init).ft.tripGate = false ∧ (buS FwUnit.init).sup.holdCause = 0)
      ∧ (bootFirmware (bringUpBase (buS FwUnit.init))).fw.recovery = false
      ∧ (bootFirmware (bringUpBase (buS { FwUnit.init with slotA := none }))).fw.recovery = true := by
  refine ⟨?_, ?_, ?_, ?_, ?_, ?_, ?_⟩ <;> decide +kernel

/-- An image of unit 6 with no body: its header at an address in SLM. -/
def imgHead : List Byte := leBytes 4 0x57465A4B ++ leBytes 2 1 ++ [6] ++ List.replicate 249 0
def stageS : State :=
  let s := { warmS with mem := cellsAt 0x4000001000 imgHead, fw := { warmS.fw with busy := true, stageUnit := 6 } }
  setReg (setReg (setReg s flash Off.FLASH_FL_SRC_LO 0x1000) flash Off.FLASH_FL_SRC_HI 0x40) flash Off.FLASH_FL_LEN 30048

theorem witness_stage :
    (hubUp warmS = true ∧ warmS.fw.busy = false ∧ flashWritable warmS = true ∧ (fwUnit warmS 6).other ≠ 2 ∧ warmS.fw.armed = false)
      ∧ (pairReg stageS flash Off.FLASH_FL_SRC_LO Off.FLASH_FL_SRC_HI = 0x4000001000 ∧ getReg stageS flash Off.FLASH_FL_LEN = 30048)
      ∧ storeSpan stageS 0x4000001000 30048 true = true ∧ spanClean stageS 0x4000001000 30048
      ∧ (rawRead stageS 0x4000001000 256 = imgHead ∧ headerOk imgHead = true ∧ bytesAt imgHead 6 1 = 6 ∧ imageSize imgHead = 30048 ∧ 30048 ≤ slotSize 6) := by
  unfold spanClean
  refine ⟨?_, ?_, ?_, ?_, ?_⟩ <;> decide +kernel

def armS : State := setReg warmS flash Off.FLASH_ACT_FRAME_LO 6
def actS : State := setReg { idle 0 0 with th := warmS.th, fw := { State.reset.fw with armed := true } } flash Off.FLASH_ACT_FRAME_LO 5
theorem witness_activation :
    frameLater armS.ft.frame (pairReg armS flash Off.FLASH_ACT_FRAME_LO Off.FLASH_ACT_FRAME_HI) = true
      ∧ (stacksUp actS = true ∧ actS.power = .ready ∧ actS.fw.armed = true ∧ pos actS = 0 ∧ actS.ft.frame = pairReg actS flash Off.FLASH_ACT_FRAME_LO Off.FLASH_ACT_FRAME_HI
        ∧ actS.ft.pstate = 0 ∧ flashWritable actS = true ∧ actS.cols = []) := by
  refine ⟨?_, ?_⟩ <;> decide +kernel

theorem inv_act : Inv actS := ⟨by rfl, by rfl, by rfl⟩

/-- A package whose two processors run, the management processor on trial, `t` after their start. -/
def procS (t : Nat) (trial : Bool) : State :=
  { warmS with now := t, ft := { warmS.ft with tickAt := t - 330 }, fw := { warmS.fw with boot := ⟨false, true, false, false, 1, 1⟩, mgmt := ⟨trial, false, false, true, 1, 1⟩ } }

theorem witness_processors :
    (procUp (procS 24000000002 true) 1 = true ∧ (procOf (procS 24000000002 true) 1).trial = true
        ∧ (procS 24000000002 true).now < (procOf (procS 24000000002 true) 1).healthAt - 1 + 24000000000 + 3)
      ∧ (procUp (procS 24000000003 true) 1 = true ∧ (procOf (procS 24000000003 true) 1).healthy = false
        ∧ (procOf (procS 24000000003 true) 1).healthAt - 1 + 24000000000 + 3 ≤ (procS 24000000003 true).now)
      ∧ (procUp (procS 24000000003 false) 1 = true ∧ (procOf (procS 24000000003 false) 1).trial = false
        ∧ (procOf (procS 24000000003 false) 1).wdogAt - 1 + wdogPeriod (procS 24000000003 false) 1 + 3 ≤ (procS 24000000003 false).now)
      ∧ (procUp (procS 1395 false) 1 = true ∧ (procS 1395 false).now < (procOf (procS 1395 false) 1).wdogAt - 1 + wdogPeriod (procS 1395 false) 1 + 3) := by
  refine ⟨?_, ?_, ?_, ?_⟩ <;> decide +kernel

theorem inv_proc : Inv (procS 24000000003 true) := ⟨by rfl, by rfl, by rfl⟩

/-- A package in recovery with a request of two entries in MBOX 0. -/
def recS (e : List Byte) : State :=
  setMbx { warmS with fw := { warmS.fw with recovery := true }, mem := cellsAt 0x4000001000 imgHead } 0
    (fun x => { x with entries := [(0, leBytes 16 2), (1, fit e 16)], commit := 2, commitTo := 2, resv := 2, cSync := (toGray 2, toGray 2) })
def loadReq : List Byte := [2, 6] ++ leBytes 6 0 ++ leBytes 8 0x4000001000

theorem witness_recovery :
    (∀ op : Fin 4, recoveryRequest (recS [BitVec.ofNat 8 op]) = some (fit [BitVec.ofNat 8 op] 16) ∧ (mbWhole (recS [BitVec.ofNat 8 op]) 0).2.1 = some 2
        ∧ (mbx (recS [BitVec.ofNat 8 op]) 64).dropping = false ∧ rdSeen (mbx (recS [BitVec.ofNat 8 op]) 64) < 2048 ∧ 2 ≤ mbFree (mbx (recS [BitVec.ofNat 8 op]) 64))
      ∧ (recoveryRequest (recS loadReq) = some loadReq ∧ bytesAt loadReq 0 1 = 2 ∧ bytesAt loadReq 1 1 = 6 ∧ bytesAt loadReq 8 8 = 0x4000001000)
      ∧ imageSize (rawRead (recS loadReq) 0x4000001000 256) = 30048 ∧ storeSpan (recS loadReq) 0x4000001000 30048 false = true
      ∧ spanClean (recS loadReq) 0x4000001000 30048 ∧ flashWritable (recS loadReq) = true := by
  unfold spanClean
  refine ⟨?_, ?_, ?_, ?_, ?_, ?_⟩ <;> decide +kernel

theorem clean_recovery (op : Byte) : QueueClean (recS [op]) 0 ∧ QueueClean (recS [op]) 64 :=
  ⟨queue_clean _ _ rfl rfl, queue_clean _ _ rfl rfl⟩

/-- A public-key command at work, its buffer at the end of SLM or nowhere; a status block of 256 bytes. -/
def attS (hi : Nat) : State :=
  setReg (setReg { warmS with fw := { warmS.fw with attBusy := true, attCmd := 3 } } seceng Off.SECENG_ATT_ADDR_LO 0x0FFFFFC0) seceng Off.SECENG_ATT_ADDR_HI hi
theorem witness_attestation :
    (hubUp warmS = true ∧ warmS.fw.attBusy = false ∧ i2cUp warmS = true ∧ warmS.pins.i2cAt = 0 ∧ statusBlock warmS ≠ [])
      ∧ (pairReg (attS 0x40) seceng Off.SECENG_ATT_ADDR_LO Off.SECENG_ATT_ADDR_HI % 32 = 0
        ∧ storeSpan (attS 0x40) (pairReg (attS 0x40) seceng Off.SECENG_ATT_ADDR_LO Off.SECENG_ATT_ADDR_HI) 64 false = true)
      ∧ (pairReg (attS 0x50) seceng Off.SECENG_ATT_ADDR_LO Off.SECENG_ATT_ADDR_HI % 32 = 0
        ∧ storeSpan (attS 0x50) (pairReg (attS 0x50) seceng Off.SECENG_ATT_ADDR_LO Off.SECENG_ATT_ADDR_HI) 64 false = false) := by
  refine ⟨?_, ?_, ?_⟩ <;> decide +kernel

theorem inv_att : Inv (attS 0x40) := ⟨by rfl, by rfl, by rfl⟩

/-- The first word of a message with every field at its largest. -/
theorem witness_chord_words : chordFields (⟨15, 63, 63, 65535⟩ : ChordWord).bits = ⟨15, 63, 63, 65535⟩ ∧ 1187 < blockCount
    ∧ placeListed 31 32 = true ∧ placeListed 11 32 = false ∧ placeListed 32 25 = true ∧ placeListed 32 26 = false := by decide +kernel

theorem witness_idle_step : State.reset.pending = [] ∧ hubUp State.reset = false ∧ hubUp (idle 1 0) = true := by decide +kernel

/-! ## Well-formedness: for each check an ill-formed term -/

def mac0 : MacOp := ⟨0, 0, 0, 0, 0, 0, 0, 0, 0, 0, 0, 0⟩
def lda0 : LdaOp := ⟨0, 0, 0, 0, 0, 0⟩
def fin0 : FinOp := ⟨0, 0, 0, 0, 0, 0, 0, 0, 0, 0, 0, 0⟩
def bring0 : BringUpIn := ⟨[], [], [], [], none, []⟩

/-- Commands with every operand in range are well-formed. -/
theorem test_well_formed_1 : ([
    .tickMarker 0 0 0 false, .resyncMarker 0 0 0, .resyncCmd 0, .delayProbe 0 0, .delayEchoSend 0, .delayEcho 0 0 0, .mac 0 mac0, .macStep 0,
    .macWriteback 0, .lda 0 lda0, .fin 0 fin0, .finOutput 0, .clr 0 0 0, .wait 0 0 0, .waitRelease 0, .syncSignal (.mcore 0) 0 0,
    .syncWait (.mcore 0) 0 0, .syncArrive (.mcore 0) 0 0, .syncArriveWait (.mcore 0) 0 0, .loop 0 0 0, .setb 0 0 0 0 0, .addb 0 0 0, .brf 0 0 0 0,
    .fill 0 0 0, .nop 0, .tileEnd 0, .mcoreDone 0, .vcoreNop 0, .sop 0 0 0 0 0, .saddi 0 0 0 0, .smovk 0 0 0 0, .sld 0 0 0 0, .sst 0 0 0 0,
    .beq 0 0 0 0, .bne 0 0 0 0, .blt 0 0 0 0, .jmp 0 0, .csrr 0 0 0, .waits 0 0 0, .waitsRelease 0, .tblw 0 0 1 0, .rld 0 0 0, .rst 0 0 0,
    .remoteAccessComplete 0, .vcoreEnd 0, .vld 0 0 0 0, .vst 0 0 0 0, .vgather 0 0 0 0 0, .vscatter 0 0 0 0 0, .vint 0 0 0 0 0 0, .vflt 0 0 0 0 4 0,
    .vsel 0 0 0 0 0, .vbcast 0 0 0 0, .vred 0 0 0 0 0, .vcvt 0 0 0 0 0 0, .vperm 0 0 0 0 0, .vsort 0 0 0 0 2, .vtopk 0 0 0 0 2, .vrng 0 0 0 0 0,
    .streamTransfer 0
  ] : List Instr).all (fun i => i.wf == true) = true := by decide +kernel

/-- Commands with every operand in range are well-formed. -/
theorem test_well_formed_2 : ([
    .portRequest 0 .router, .columnDone 0, .rowStepStart 0, .rowStepEnd 0, .queuePlace 0, .refreshSlot 0, .scrubStepDue 0, .bondSubstitution 0,
    .calMem [], .calD2d [], .calGarlet 0 [] [], .sramWriteBack 0, .ctrlWriteBack 0 0 false, .flitArrival 0 0 ⟨0, 0, 0⟩, .reductionResult 0,
    .injection 0 0 0, .routerDone 0, .d2dRetrainMarker 0, .d2dMaskReply 0, .d2dWidthConfirm 0, .halt 0, .chordTelem 0 false, .evtPinWrite 0 0,
    .eventIn 0, .descriptorStart 0, .descriptorComplete 0, .hubDescriptorFetch 0, .hubDescriptorComplete 0, .hmoverTimeout 0, .doorbell 0, .retry 0,
    .skip 0, .append 0 0 false, .close 0 false, .read 0 0, .staleTimeout 0, .garletRecord 0 0 false 0, .portRelease 0, .portDone 0, .haltBlock 0 0,
    .mask 0 0, .width 0 0, .swap 0 0, .retrain 0 0, .laneSwap 0, .garletTraining 0 .peerFound, .qualifyEnd 0 [] false [], .gportRetrainCmd 0,
    .zeleriGroup [] 0 0, .mrd 0 0 0, .mwr 0 0 0 [0] [0], .rrd 0 0, .rwr 0 0 0, .mbx 0 0 false 0 [0] [0], .mbr 0 0 64, .evt 0 0 0, .telem 0 0,
    .cpl 0 0 [] [], .zeleriTraining .peerFound, .sensorRead []
  ] : List Instr).all (fun i => i.wf == true) = true := by decide +kernel

/-- Commands with every operand in range are well-formed. -/
theorem test_well_formed_3 : ([
    .pmbusPoll [], .backupSwitchover 40, .mainReturn 40, .mainReturn 32, .railLost 40, .retentionEntry 0, .ucalVal 0, .perstRise 0 false, .bringUp bring0,
    .controlReset 0, .controlFence 0, .controlEnable 0 false, .lock 0, .flipArm 0, .registerWrite .mgmt 0 0, .stage 0, .health .mgmt 0 0,
    .healthTimeout 0, .watchdogExpiry 0, .wdogKick 0, .i2cRead 0, .jtagInstruction 0, .d2dQualificationEnd 0 0, .peerStreamStop 0,
    .processorMemoryUncorr 0
  ] : List Instr).all (fun i => i.wf == true) = true := by decide +kernel

/-- Each of these commands breaks one check, and is refused. -/
theorem test_ill_formed_1 : ([
    .tickMarker 20 0 0 false, .tickMarker 0x41 0 0 false, .resyncMarker 20 0 0, .resyncCmd 64, .delayProbe 20 0, .delayEchoSend 20,
    .delayEcho 20 0 0, .mac 128 mac0, .mac 0 { mac0 with mode := 2 }, .mac 0 { mac0 with wsrc := 2 }, .mac 0 { mac0 with wfmt := 16 },
    .mac 0 { mac0 with afmt := 16 }, .mac 0 { mac0 with acc := 2 }, .mac 0 { mac0 with rumask := 16 }, .mac 0 { mac0 with arow := 128 },
    .mac 0 { mac0 with areg := 4 }, .mac 0 { mac0 with aoff := 512 }, .mac 0 { mac0 with steps := 2048 }, .mac 0 { mac0 with wbase := 8 },
    .mac 0 { mac0 with woff := 2048 }, .macStep 128, .macWriteback 128, .lda 128 lda0, .lda 0 { lda0 with areg := 4 },
    .lda 0 { lda0 with side := 2 }, .lda 0 { lda0 with dline := 16 }, .lda 0 { lda0 with lines := 32 }, .lda 0 { lda0 with base := 8 },
    .lda 0 { lda0 with off := 8192 }, .fin 128 fin0, .fin 0 { fin0 with arow := 512 }, .fin 0 { fin0 with rows := 256 },
    .fin 0 { fin0 with ofmt := 16 }, .fin 0 { fin0 with func := 16 }, .fin 0 { fin0 with sat := 2 }, .fin 0 { fin0 with scaleEn := 2 },
    .fin 0 { fin0 with smx := 2 }, .fin 0 { fin0 with dest := 4 }, .fin 0 { fin0 with dbase := 8 }, .fin 0 { fin0 with doff := 8192 },
    .fin 0 { fin0 with sbbase := 8 }, .fin 0 { fin0 with sboff := 512 }, .finOutput 128, .clr 128 0 0, .clr 0 512 0, .clr 0 0 512, .wait 128 0 0,
    .wait 0 4096 0, .wait 0 0 64, .waitRelease 128, .syncSignal (.mcore 0) 65536 0, .syncSignal (.mcore 0) 0 32, .syncSignal (.mcore 128) 0 0,
    .syncSignal (.vcore 32) 0 0, .syncWait (.mcore 0) 65536 0, .syncWait (.mcore 0) 0 32, .syncWait (.mcore 128) 0 0, .syncWait (.vcore 32) 0 0
  ] : List Instr).all (fun i => i.wf == false) = true := by decide +kernel

/-- Each of these commands breaks one check, and is refused. -/
theorem test_ill_formed_2 : ([
    .syncArrive (.mcore 0) 65536 0, .syncArrive (.mcore 0) 0 32, .syncArrive (.mcore 128) 0 0, .syncArrive (.vcore 32) 0 0,
    .syncArriveWait (.mcore 0) 65536 0, .syncArriveWait (.mcore 0) 0 32, .syncArriveWait (.mcore 128) 0 0, .syncArriveWait (.vcore 32) 0 0,
    .loop 128 0 0, .loop 0 4096 0, .loop 0 0 4096, .setb 128 0 0 0 0, .setb 0 8 0 0 0, .setb 0 0 65536 0 0, .setb 0 0 0 16 0, .setb 0 0 0 0 4096,
    .addb 128 0 0, .addb 0 8 0, .addb 0 0 32768, .addb 0 0 (-32769), .brf 128 0 0 0, .brf 0 16 0 0, .brf 0 0 65536 0, .brf 0 0 0 4096, .fill 128 0 0,
    .fill 0 4096 0, .fill 0 0 16, .nop 128, .tileEnd 128, .mcoreDone 128, .vcoreNop 32, .sop 32 0 0 0 0, .sop 0 0 0 0 20, .sop 0 32 0 0 0,
    .sop 0 0 32 0 0, .sop 0 0 0 32 0, .saddi 32 0 0 0, .saddi 0 32 0 0, .saddi 0 0 32 0, .saddi 0 0 0 32768, .saddi 0 0 0 (-32769), .smovk 32 0 0 0,
    .smovk 0 0 4 0, .smovk 0 0 0 65536, .smovk 0 32 0 0, .sld 32 0 0 0, .sld 0 32 0 0, .sld 0 0 32 0, .sld 0 0 0 32768, .sld 0 0 0 (-32769),
    .sst 32 0 0 0, .sst 0 32 0 0, .sst 0 0 32 0, .sst 0 0 0 32768, .sst 0 0 0 (-32769), .beq 32 0 0 0, .beq 0 32 0 0, .beq 0 0 32 0,
    .beq 0 0 0 32768, .beq 0 0 0 (-32769)
  ] : List Instr).all (fun i => i.wf == false) = true := by decide +kernel

/-- Each of these commands breaks one check, and is refused. -/
theorem test_ill_formed_3 : ([
    .bne 32 0 0 0, .bne 0 32 0 0, .bne 0 0 32 0, .bne 0 0 0 32768, .bne 0 0 0 (-32769), .blt 32 0 0 0, .blt 0 32 0 0, .blt 0 0 32 0,
    .blt 0 0 0 32768, .blt 0 0 0 (-32769), .jmp 32 0, .jmp 0 33554432, .jmp 0 (-33554433), .csrr 32 0 0, .csrr 0 0 7, .csrr 0 32 0, .waits 32 0 0,
    .waits 0 4096 0, .waits 0 0 64, .waitsRelease 32, .tblw 32 0 1 0, .tblw 0 0 16 0, .tblw 0 0 1 8, .tblw 0 32 1 0, .tblw 0 0 0 0, .rld 32 0 0,
    .rld 0 32 0, .rld 0 0 32, .rst 32 0 0, .rst 0 32 0, .rst 0 0 32, .remoteAccessComplete 32, .vcoreEnd 32, .vld 32 0 0 0, .vld 0 0 32 0,
    .vld 0 16 0 0, .vld 0 0 0 512, .vld 0 0 0 (-513), .vst 32 0 0 0, .vst 0 0 32 0, .vst 0 16 0 0, .vst 0 0 0 512, .vst 0 0 0 (-513),
    .vgather 32 0 0 0 0, .vgather 0 0 0 0 8, .vgather 0 0 32 0 0, .vgather 0 16 0 0 0, .vgather 0 0 0 16 0, .vscatter 32 0 0 0 0,
    .vscatter 0 0 0 0 8, .vscatter 0 0 32 0 0, .vscatter 0 16 0 0 0, .vscatter 0 0 0 16 0, .vint 32 0 0 0 0 0, .vint 0 0 0 0 0 13,
    .vint 0 16 0 0 0 0, .vint 0 0 16 0 0 0, .vint 0 0 0 16 0 0, .vint 0 0 0 0 3 0
  ] : List Instr).all (fun i => i.wf == false) = true := by decide +kernel

/-- Each of these commands breaks one check, and is refused. -/
theorem test_ill_formed_4 : ([
    .vflt 32 0 0 0 4 0, .vflt 0 0 0 0 4 12, .vflt 0 16 0 0 4 0, .vflt 0 0 16 0 4 0, .vflt 0 0 0 16 4 0, .vflt 0 0 0 0 0 0, .vflt 0 0 0 0 5 10,
    .vsel 32 0 0 0 0, .vsel 0 0 0 0 8, .vsel 0 16 0 0 0, .vsel 0 0 16 0 0, .vsel 0 0 0 16 0, .vbcast 32 0 0 0, .vbcast 0 0 0 8, .vbcast 0 0 32 0,
    .vbcast 0 16 0 0, .vred 32 0 0 0 0, .vred 0 0 0 8 0, .vred 0 0 0 0 3, .vred 0 32 0 0 0, .vred 0 0 16 0 0, .vred 0 0 0 5 0, .vred 0 0 0 6 0,
    .vcvt 32 0 0 0 0 0, .vcvt 0 0 0 8 0 0, .vcvt 0 0 0 0 8 0, .vcvt 0 0 0 0 0 32, .vcvt 0 16 0 0 0 0, .vcvt 0 0 16 0 0 0, .vperm 32 0 0 0 0,
    .vperm 0 0 0 0 8, .vperm 0 16 0 0 0, .vperm 0 0 16 0 0, .vperm 0 0 0 16 0, .vsort 32 0 0 0 2, .vsort 0 16 0 0 2, .vsort 0 0 16 0 2,
    .vsort 0 0 0 16 2, .vsort 0 0 0 0 3, .vsort 0 1 0 0 2, .vtopk 32 0 0 0 2, .vtopk 0 16 0 0 2, .vtopk 0 0 16 0 2, .vtopk 0 0 0 16 2,
    .vtopk 0 0 0 0 3, .vtopk 0 1 0 0 2, .vrng 32 0 0 0 0, .vrng 0 0 32 0 0, .vrng 0 0 0 32 0, .vrng 0 0 0 0 32, .vrng 0 16 0 0 0,
    .streamTransfer 128, .portRequest 512 .router, .portRequest 0 (.mover 4), .columnDone 512, .rowStepStart 512, .rowStepEnd 512, .queuePlace 512,
    .refreshSlot 512, .scrubStepDue 512
  ] : List Instr).all (fun i => i.wf == false) = true := by decide +kernel

/-- Each of these commands breaks one check, and is refused. -/
theorem test_ill_formed_5 : ([
    .bondSubstitution 512, .calMem [(512, 0)], .calMem [(0, 2304)], .calD2d [(112, 0, 0)], .calD2d [(0, 2, 0)], .calD2d [(0, 0, 23)],
    .calGarlet 20 [] [], .calGarlet 0 (List.replicate 10 0) [], .calGarlet 0 [] [9], .sramWriteBack (2 ^ 51), .ctrlWriteBack 1188 0 false,
    .flitArrival 33 0 ⟨0, 0, 0⟩, .flitArrival 0 32 ⟨0, 0, 0⟩, .reductionResult 33, .injection 33 0 0, .injection 0 4 0, .injection 0 0 4,
    .routerDone 33, .d2dRetrainMarker 112, .d2dMaskReply 112, .d2dWidthConfirm 112, .halt (2 ^ 33), .evtPinWrite 4 0, .eventIn 4, .descriptorStart 128, .descriptorComplete 128, .hubDescriptorFetch 16,
    .hubDescriptorComplete 16, .hmoverTimeout 16, .doorbell 16, .retry 16, .skip 16, .append 128 0 false, .close 128 false, .read 128 0, .read 0 256,
    .staleTimeout 128, .garletRecord 20 0 false 0, .garletRecord 0 0 false (2 ^ 545), .portRelease 20, .portDone 20, .haltBlock 20 0, .mask 20 0,
    .width 20 0, .swap 20 0, .retrain 20 0, .laneSwap 20, .garletTraining 20 .peerFound, .garletTraining 0 (.equalised 512),
    .qualifyEnd 20 [] false [], .qualifyEnd 0 [9] false [], .qualifyEnd 0 [] false (List.replicate 10 0), .gportRetrainCmd 20,
    .zeleriGroup (List.replicate 17 0) 0 0, .mrd 256 0 0, .mrd 0 256 0, .mrd 0 0 (2 ^ 48)
  ] : List Instr).all (fun i => i.wf == false) = true := by decide +kernel

/-- Each of these commands breaks one check, and is refused. -/
theorem test_ill_formed_6 : ([
    .mwr 256 0 0 [0] [0], .mwr 0 16 0 [0] [0], .mwr 0 0 (2 ^ 48) [0] [0], .mwr 0 0 0 [] [], .mwr 0 0 0 (List.replicate 257 0) (List.replicate 257 0),
    .mwr 0 0 0 [0] [0, 0], .rrd 256 0, .rrd 0 (2 ^ 48), .rwr 256 0 0, .rwr 0 (2 ^ 48) 0, .mbx 256 0 false 0 [0] [0], .mbx 0 64 false 0 [0] [0],
    .mbx 0 0 false 0 [] [], .mbx 0 0 false 0 (List.replicate 257 0) (List.replicate 257 0), .mbx 0 0 false 0 [0] [0, 0], .mbr 256 0 64,
    .mbr 0 256 64, .mbr 0 0 128, .mbr 0 0 63, .evt 256 0 0, .evt 0 2 0, .telem 65536 0, .cpl 256 0 [] [], .cpl 0 256 [] [], .cpl 0 0 [] [0],
    .zeleriTraining (.qualified 65536 0), .zeleriTraining (.qualified 0 65536), .sensorRead (List.replicate 525 0), .sensorRead [32768],
    .pmbusPoll [⟨41, 0, 0, 0, 0⟩], .pmbusPoll [⟨0, 65536, 0, 0, 0⟩], .pmbusPoll [⟨0, 0, 65536, 0, 0⟩], .pmbusPoll [⟨0, 0, 0, 65536, 0⟩],
    .backupSwitchover 32, .backupSwitchover 38, .mainReturn 38, .railLost 32, .railLost 38, .retentionEntry 33, .ucalVal 32768,
    .ucalVal (-32769), .perstRise 4 false, .bringUp { bring0 with place := [0x100000] }, .bringUp { bring0 with fails := [⟨1188, 1, 0⟩] },
    .bringUp { bring0 with fails := [⟨0, 0, 0⟩] }, .bringUp { bring0 with fails := [⟨0, 11, 0⟩] }, .bringUp { bring0 with d2dBad := [(112, 0, 0)] },
    .bringUp { bring0 with d2dBad := [(0, 2, 0)] }, .bringUp { bring0 with d2dBad := [(0, 0, 23)] },
    .bringUp { bring0 with peers := [⟨20, 0, 0, 0, 0⟩] }, .bringUp { bring0 with peers := [⟨0, 512, 0, 0, 0⟩] },
    .bringUp { bring0 with peers := [⟨0, 0, 512, 0, 0⟩] }, .bringUp { bring0 with peers := [⟨0, 0, 0, 20, 0⟩] },
    .bringUp { bring0 with reads := List.replicate 525 0 }, .controlReset 1188, .controlFence 1188, .controlEnable 1188 false, .lock 1188,
    .flipArm 512
  ] : List Instr).all (fun i => i.wf == false) = true := by decide +kernel

/-- Each of these commands breaks one check, and is refused. -/
theorem test_ill_formed_7 : ([
    .registerWrite .mgmt (2 ^ 32) 0, .registerWrite (.vcore 32) 0 0, .stage 16, .health .mgmt 2 0, .healthTimeout 2, .watchdogExpiry 2, .wdogKick 2,
    .i2cRead 257, .jtagInstruction 256, .d2dQualificationEnd 112 0, .d2dQualificationEnd 0 (2 ^ 46), .peerStreamStop 20, .processorMemoryUncorr 2
  ] : List Instr).all (fun i => i.wf == false) = true := by decide +kernel

/-- Tile operations with a field out of its width. -/
theorem test_ill_formed_tile : ([
    .mac { mac0 with mode := 2 }, .mac { mac0 with wsrc := 2 }, .mac { mac0 with wfmt := 16 }, .mac { mac0 with afmt := 16 },
    .mac { mac0 with acc := 2 }, .mac { mac0 with rumask := 16 }, .mac { mac0 with arow := 128 }, .mac { mac0 with areg := 4 },
    .mac { mac0 with aoff := 512 }, .mac { mac0 with steps := 2048 }, .mac { mac0 with wbase := 8 }, .mac { mac0 with woff := 2048 },
    .lda { lda0 with areg := 4 }, .lda { lda0 with side := 2 }, .lda { lda0 with dline := 16 }, .lda { lda0 with lines := 32 },
    .lda { lda0 with base := 8 }, .lda { lda0 with off := 8192 }, .fin { fin0 with arow := 512 }, .fin { fin0 with rows := 256 },
    .fin { fin0 with ofmt := 16 }, .fin { fin0 with func := 16 }, .fin { fin0 with sat := 2 }, .fin { fin0 with scaleEn := 2 },
    .fin { fin0 with smx := 2 }, .fin { fin0 with dest := 4 }, .fin { fin0 with dbase := 8 }, .fin { fin0 with doff := 8192 },
    .fin { fin0 with sbbase := 8 }, .fin { fin0 with sboff := 512 }, .clr 512 0, .clr 0 512, .wait 4096 0, .wait 0 64, .sync 4 0 0, .sync 0 65536 0,
    .sync 0 0 32, .loop 4096 0, .loop 0 4096, .setb 8 0 0 0, .setb 0 65536 0 0, .setb 0 0 16 0, .setb 0 0 0 4096, .addb 8 0, .addb 0 32768,
    .addb 0 (-32769), .brf 16 0 0, .brf 0 65536 0, .brf 0 0 4096, .fill 4096 0, .fill 0 16
  ] : List TileOp).all (fun i => i.wf == false) = true := by decide +kernel

/-- V-core instructions with a field out of its width or a reserved code. -/
theorem test_ill_formed_vec_1 : ([
    .sop 0 0 0 20, .sop 32 0 0 0, .sop 0 32 0 0, .sop 0 0 32 0, .saddi 32 0 0, .saddi 0 32 0, .saddi 0 0 32768, .saddi 0 0 (-32769), .smovk 0 4 0,
    .smovk 0 0 65536, .smovk 32 0 0, .sld 32 0 0, .sld 0 32 0, .sld 0 0 32768, .sld 0 0 (-32769), .sst 32 0 0, .sst 0 32 0, .sst 0 0 32768,
    .sst 0 0 (-32769), .beq 32 0 0, .beq 0 32 0, .beq 0 0 32768, .beq 0 0 (-32769), .bne 32 0 0, .bne 0 32 0, .bne 0 0 32768, .bne 0 0 (-32769),
    .blt 32 0 0, .blt 0 32 0, .blt 0 0 32768, .blt 0 0 (-32769), .jmp 33554432, .jmp (-33554433), .csrr 0 7, .csrr 32 0, .waits 4096 0, .waits 0 64,
    .sync 4 0 0, .sync 0 65536 0, .sync 0 0 32, .tblw 0 16 0, .tblw 0 1 8, .tblw 32 1 0, .tblw 0 0 0, .rld 32 0, .rld 0 32, .rst 32 0, .rst 0 32,
    .vld 0 32 0, .vld 16 0 0, .vld 0 0 512, .vld 0 0 (-513), .vst 0 32 0, .vst 16 0 0, .vst 0 0 512, .vst 0 0 (-513), .vgather 0 0 0 8,
    .vgather 0 32 0 0, .vgather 16 0 0 0, .vgather 0 0 16 0
  ] : List VInstr).all (fun i => i.wf == false) = true := by decide +kernel

/-- V-core instructions with a field out of its width or a reserved code. -/
theorem test_ill_formed_vec_2 : ([
    .vscatter 0 0 0 8, .vscatter 0 32 0 0, .vscatter 16 0 0 0, .vscatter 0 0 16 0, .vint 0 0 0 0 13, .vint 16 0 0 0 0, .vint 0 16 0 0 0,
    .vint 0 0 16 0 0, .vint 0 0 0 3 0, .vflt 0 0 0 4 12, .vflt 16 0 0 4 0, .vflt 0 16 0 4 0, .vflt 0 0 16 4 0, .vflt 0 0 0 0 0, .vflt 0 0 0 5 10,
    .vsel 0 0 0 8, .vsel 16 0 0 0, .vsel 0 16 0 0, .vsel 0 0 16 0, .vbcast 0 0 8, .vbcast 0 32 0, .vbcast 16 0 0, .vred 0 0 8 0, .vred 0 0 0 3,
    .vred 32 0 0 0, .vred 0 16 0 0, .vred 0 0 5 0, .vred 0 0 6 0, .vcvt 0 0 8 0 0, .vcvt 0 0 0 8 0, .vcvt 0 0 0 0 32, .vcvt 16 0 0 0 0,
    .vcvt 0 16 0 0 0, .vperm 0 0 0 8, .vperm 16 0 0 0, .vperm 0 16 0 0, .vperm 0 0 16 0, .vsort 16 0 0 2, .vsort 0 16 0 2, .vsort 0 0 16 2,
    .vsort 0 0 0 3, .vsort 1 0 0 2, .vtopk 16 0 0 2, .vtopk 0 16 0 2, .vtopk 0 0 16 2, .vtopk 0 0 0 3, .vtopk 1 0 0 2, .vrng 0 32 0 0,
    .vrng 0 0 32 0, .vrng 0 0 0 32, .vrng 16 0 0 0
  ] : List VInstr).all (fun i => i.wf == false) = true := by decide +kernel

/-! ## The longest evaluation: a whole image loads -/

theorem witness_load_complete : loads (loading image) = true := by decide +kernel

end Sys2Proof.Tests
end

section
/-! SUPPORT. Program words as rows of fields. The manual gives each word as a table of fields from the highest bits
down; here a row of fields is a list of widths and values in that order, and a word is either put together from a row
(`joinFields`) or read along one (`FieldsAt`). `fieldsAt_iff` says that the two agree. -/

namespace Sys2Proof

/-! ## Fields and two's complement -/

theorem fieldOf_eq_div_mod (x hi lo : Nat) : fieldOf x hi lo = x / 2 ^ lo % 2 ^ (hi + 1 - lo) := by
  rw [fieldOf, Nat.shiftRight_eq_div_pow]

theorem unsignedOf_lt (w : Nat) (x : Int) : unsignedOf w x < 2 ^ w := by
  have hpos : 0 < 2 ^ w := Nat.two_pow_pos w
  unfold unsignedOf
  omega

/-- Two's complement of `w` bits is the library's balanced remainder modulo 2 ^ w. -/
theorem signedOf_eq_bmod (w x : Nat) : signedOf w x = Int.bmod x (2 ^ w) := by
  cases w with
  | zero => simp [signedOf, Int.bmod]
  | succ k =>
    simp only [signedOf, Int.bmod, Nat.add_one_ne_zero, if_false, Nat.add_sub_cancel, Nat.pow_succ]
    norm_cast
    split <;> split <;> omega

/-- A pattern of `w` bits comes back from the number that it stands for. -/
theorem unsignedOf_signedOf {w x : Nat} (hx : x < 2 ^ w) : unsignedOf w (signedOf w x) = x := by
  rw [unsignedOf, signedOf_eq_bmod, Int.bmod_emod, ← Int.natCast_emod, Int.toNat_natCast, Nat.mod_eq_of_lt hx]

/-- A number that `w` bits hold comes back from its pattern. -/
theorem signedOf_unsignedOf {w : Nat} {x : Int} (hw : 0 < w) (hx : fitsInt w x = true) : signedOf w (unsignedOf w x) = x := by
  obtain ⟨k, rfl⟩ := Nat.exists_eq_add_one.mpr hw
  simp only [fitsInt, Bool.and_eq_true, decide_eq_true_eq, Nat.add_sub_cancel] at hx
  obtain ⟨hlo, hhi⟩ := hx
  have hnonneg : 0 ≤ x % ((2 ^ (k + 1) : Nat) : Int) := Int.emod_nonneg _ (Int.natCast_ne_zero.mpr (Nat.ne_of_gt (Nat.two_pow_pos _)))
  rw [signedOf_eq_bmod, unsignedOf, Int.toNat_of_nonneg hnonneg, Int.emod_bmod]
  apply Int.bmod_eq_of_le_mul_two <;> push_cast <;> rw [Int.pow_succ] <;> omega

/-! ## Rows of fields -/

/-- The bits that a row of fields takes; each field is a width and a value. -/
def rowWidth : List (Nat × Nat) → Nat
  | [] => 0
  | (n, _) :: l => n + rowWidth l

/-- The word that a row of fields spells, the first field highest. -/
def joinFields : List (Nat × Nat) → Nat
  | [] => 0
  | (_, v) :: l => v * 2 ^ rowWidth l + joinFields l

/-- Every value fits its width. -/
def FieldsFit (l : List (Nat × Nat)) : Prop := ∀ p ∈ l, p.2 < 2 ^ p.1

/-- The word `w` shows this row of fields in its lowest bits. -/
def FieldsAt (w : Nat) : List (Nat × Nat) → Prop
  | [] => True
  | (n, v) :: l => w / 2 ^ rowWidth l % 2 ^ n = v ∧ FieldsAt w l

theorem fieldsFit_cons (n v : Nat) (l : List (Nat × Nat)) : FieldsFit ((n, v) :: l) ↔ v < 2 ^ n ∧ FieldsFit l := by
  simp only [FieldsFit, List.forall_mem_cons]

theorem joinFields_lt {l : List (Nat × Nat)} (h : FieldsFit l) : joinFields l < 2 ^ rowWidth l := by
  induction l with
  | nil => decide
  | cons p l ih =>
    obtain ⟨hv, hl⟩ := (fieldsFit_cons p.1 p.2 l).mp h
    calc p.2 * 2 ^ rowWidth l + joinFields l
        < (p.2 + 1) * 2 ^ rowWidth l := by rw [Nat.succ_mul]; exact Nat.add_lt_add_left (ih hl) _
      _ ≤ 2 ^ p.1 * 2 ^ rowWidth l := Nat.mul_le_mul_right _ hv
      _ = 2 ^ rowWidth (p :: l) := by rw [rowWidth, Nat.pow_add]

theorem joinFields_cons_div {n v : Nat} {l : List (Nat × Nat)} (h : FieldsFit l) :
    joinFields ((n, v) :: l) / 2 ^ rowWidth l = v := by
  rw [joinFields, Nat.mul_comm, Nat.mul_add_div (Nat.two_pow_pos _), Nat.div_eq_of_lt (joinFields_lt h), Nat.add_zero]

theorem joinFields_cons_mod {n v : Nat} {l : List (Nat × Nat)} (h : FieldsFit l) :
    joinFields ((n, v) :: l) % 2 ^ rowWidth l = joinFields l := by
  rw [joinFields, Nat.mul_add_mod_of_lt (joinFields_lt h)]

/-- Reading a word along a row and putting the row together are inverse to each other. -/
theorem fieldsAt_iff (w : Nat) (l : List (Nat × Nat)) : FieldsAt w l ↔ FieldsFit l ∧ w % 2 ^ rowWidth l = joinFields l := by
  induction l with
  | nil => simp [FieldsAt, FieldsFit, rowWidth, joinFields, Nat.mod_one]
  | cons p l ih =>
    obtain ⟨n, v⟩ := p
    have hsplit : w % 2 ^ rowWidth ((n, v) :: l) = w / 2 ^ rowWidth l % 2 ^ n * 2 ^ rowWidth l + w % 2 ^ rowWidth l := by
      rw [rowWidth, Nat.add_comm n, Nat.pow_add, Nat.mod_mul, Nat.add_comm, Nat.mul_comm]
    rw [FieldsAt, ih, fieldsFit_cons, hsplit]
    constructor
    · rintro ⟨rfl, hfit, hlow⟩
      exact ⟨⟨Nat.mod_lt _ (Nat.two_pow_pos n), hfit⟩, by rw [hlow, joinFields]⟩
    · rintro ⟨⟨hv, hfit⟩, hw⟩
      refine ⟨?_, hfit, ?_⟩
      · rw [← joinFields_cons_div (n := n) (v := v) hfit, ← hw, Nat.mul_comm, Nat.mul_add_div (Nat.two_pow_pos _),
          Nat.div_eq_of_lt (Nat.mod_lt w (Nat.two_pow_pos _)), Nat.add_zero]
      · rw [← joinFields_cons_mod (n := n) (v := v) hfit, ← hw, Nat.mul_comm, Nat.mul_add_mod, Nat.mod_mod]

theorem fieldsAt_joinFields {l : List (Nat × Nat)} (h : FieldsFit l) : FieldsAt (joinFields l) l :=
  (fieldsAt_iff _ l).mpr ⟨h, Nat.mod_eq_of_lt (joinFields_lt h)⟩

theorem joinFields_eq_of_fieldsAt {w : Nat} {l : List (Nat × Nat)} (hw : w < 2 ^ rowWidth l) (h : FieldsAt w l) : joinFields l = w := by
  rw [← ((fieldsAt_iff w l).mp h).2, Nat.mod_eq_of_lt hw]

@[simp] theorem keepIf_eq_some {α : Type} (c : Bool) (v o : α) : keepIf c v = some o ↔ c = true ∧ v = o := by
  cases c <;> simp [keepIf]

end Sys2Proof
end

section
/-! PROOFS. Tile operation words (R132-R138): the decoder and the encoder both follow one row of fields for each operation,
so that each is the other's inverse. -/

namespace Sys2Proof

/-- Bits [57:0] of an operation, from the highest field down, with its reserved bits (R132-R138). -/
def tileOperands : TileOp → List (Nat × Nat)
  | .nop => [(58, 0)]
  | .mac o => [(1, o.mode), (1, o.wsrc), (4, o.wfmt), (4, o.afmt), (1, o.acc), (4, o.rumask), (7, o.arow), (2, o.areg), (9, o.aoff),
      (11, o.steps), (3, o.wbase), (11, o.woff)]
  | .lda o => [(2, o.areg), (1, o.side), (4, o.dline), (5, o.lines), (3, o.base), (13, o.off), (30, 0)]
  | .fin o => [(9, o.arow), (8, o.rows), (4, o.ofmt), (4, o.func), (1, o.sat), (1, o.scaleEn), (1, o.smx), (2, o.dest), (3, o.dbase),
      (13, o.doff), (3, o.sbbase), (9, o.sboff)]
  | .clr row rows => [(9, row), (9, rows), (40, 0)]
  | .wait slot cc => [(12, slot), (6, cc), (40, 0)]
  | .sync kind target line => [(3, kind), (16, target), (5, line), (34, 0)]
  | .loop count len => [(12, count), (12, len), (34, 0)]
  | .setb reg imm plog stride => [(3, reg), (16, imm), (4, plog), (12, stride), (23, 0)]
  | .addb reg imm => [(3, reg), (16, unsignedOf 16 imm), (39, 0)]
  | .brf plog value skip => [(4, plog), (16, value), (12, skip), (26, 0)]
  | .fill count rumask => [(12, count), (4, rumask), (42, 0)]
  | .endFrame => [(58, 0)]

/-- The whole row of an operation: its opcode in bits [63:58], then its operands. -/
def tileFields (o : TileOp) : List (Nat × Nat) := (6, tileOpcode o) :: tileOperands o

theorem rowWidth_tileOperands (o : TileOp) : rowWidth (tileOperands o) = 58 := by
  cases o <;> rfl

theorem rowWidth_tileFields (o : TileOp) : rowWidth (tileFields o) = 64 := by
  rw [tileFields, rowWidth, rowWidth_tileOperands]

theorem tileOpcode_le (o : TileOp) : tileOpcode o ≤ 0x0C := by
  cases o <;> simp [tileOpcode]

/-- The encoder puts the rows of R132-R138 together. -/
theorem encodeTile_eq_joinFields (o : TileOp) : encodeTile o = joinFields (tileFields o) := by
  cases o <;>
    simp only [encodeTile, tileFields, tileOpcode, tileOperands, joinFields, rowWidth] <;> omega

theorem tileOperands_fit {o : TileOp} (h : o.wf = true) : FieldsFit (tileOperands o) := by
  have himm : ∀ imm, unsignedOf 16 imm < 65536 := unsignedOf_lt 16
  have hkind : ∀ kind, kind < 4 → kind < 8 := fun _ hlt => Nat.lt_trans hlt (by decide)
  cases o <;> simp_all [TileOp.wf, MacOp.wf, LdaOp.wf, FinOp.wf, tileOperands, FieldsFit]

theorem tileFields_fit {o : TileOp} (h : o.wf = true) : FieldsFit (tileFields o) :=
  (fieldsFit_cons _ _ _).mpr ⟨Nat.lt_of_le_of_lt (tileOpcode_le o) (by decide), tileOperands_fit h⟩

/-- A word that shows an operation's row decodes to that operation. -/
theorem decodeTile_of_fieldsAt {w : Nat} {o : TileOp} (hwf : o.wf = true) (h : FieldsAt w (tileFields o)) : decodeTile w = some o := by
  cases o <;>
    simp only [FieldsAt, tileFields, tileOpcode, tileOperands, rowWidth, Nat.reduceAdd, Nat.reducePow, Nat.div_one, and_true] at h
  case sync kind target line =>
    have hkind : kind ≤ 3 := by
      simp only [TileOp.wf, Bool.and_eq_true, decide_eq_true_eq] at hwf
      omega
    simp [decodeTile, fieldOf_eq_div_mod, h, hkind]
  case addb reg imm =>
    have himm : signedOf 16 (unsignedOf 16 imm) = imm := signedOf_unsignedOf (by decide) (by simp_all only [TileOp.wf, Bool.and_eq_true])
    simp [decodeTile, fieldOf_eq_div_mod, h, himm]
  all_goals simp [decodeTile, fieldOf_eq_div_mod, h]

/-- A word that decodes shows the row of the operation it decodes to. -/
theorem fieldsAt_of_decodeTile {w : Nat} {o : TileOp} (h : decodeTile w = some o) : FieldsAt w (tileFields o) := by
  have himm : unsignedOf 16 (signedOf 16 (w / 2 ^ 39 % 2 ^ 16)) = w / 2 ^ 39 % 2 ^ 16 :=
    unsignedOf_signedOf (Nat.mod_lt _ (by decide))
  simp only [decodeTile, fieldOf_eq_div_mod] at h
  split at h
  case h_14 => cases h -- a reserved opcode
  case' h_2 | h_4 => change keepIf true _ = some o at h -- MAC and FIN have no reserved bits
  all_goals
    obtain ⟨hzero, rfl⟩ := (keepIf_eq_some _ _ _).mp h
    simp_all [FieldsAt, tileFields, tileOpcode, tileOperands, rowWidth]

theorem opcode_of_decodeTile {w : Nat} {o : TileOp} (hw : w < 2 ^ 64) (h : decodeTile w = some o) : w / 2 ^ 58 = tileOpcode o := by
  obtain ⟨hop, -⟩ := fieldsAt_of_decodeTile h
  rw [rowWidth_tileOperands] at hop
  omega

/-- Settles O17: the encoder puts together the row of fields that the decoder reads, and `fieldsAt_iff` turns one into
the other. -/
theorem decodeEncodeTile : Obligations.DecodeEncodeTile := by
  refine ⟨fun o hwf => ⟨?_, ?_⟩, fun w o hw h => ?_, fun o hwf => ?_, by decide, by decide, fun w hw hres => ?_⟩
  · rw [encodeTile_eq_joinFields]
    exact decodeTile_of_fieldsAt hwf (fieldsAt_joinFields (tileFields_fit hwf))
  · rw [encodeTile_eq_joinFields, ← rowWidth_tileFields o]
    exact joinFields_lt (tileFields_fit hwf)
  · rw [encodeTile_eq_joinFields]
    exact joinFields_eq_of_fieldsAt (by rwa [rowWidth_tileFields]) (fieldsAt_of_decodeTile h)
  · rw [encodeTile_eq_joinFields, ← rowWidth_tileOperands o]
    exact joinFields_cons_div (tileOperands_fit hwf)
  · refine Option.eq_none_iff_forall_ne_some.mpr fun o h => ?_
    have hle := tileOpcode_le o
    have hop := opcode_of_decodeTile hw h
    omega

end Sys2Proof
end

section
/-! SUPPORT. What the report of a checker can change (R52-R54, R256-R262, R559-R573): facet registers with what is kept of
their changes in this cc, the Chord network, the frame timer, the pins and the queued write-backs. -/

namespace Sys2Proof.Machine

/-- Only what a report changes differs between the two states. -/
def onlyReported (s t : State) : Prop :=
  t = { s with regs := t.regs, regCc := t.regCc, chord := t.chord, ft := t.ft, pins := t.pins, writeBacks := t.writeBacks }

theorem onlyReported.refl (s : State) : onlyReported s s := rfl

theorem onlyReported.trans {s t u : State} (h1 : onlyReported s t) (h2 : onlyReported t u) : onlyReported s u := by
  unfold onlyReported at *
  rw [h2, h1]

theorem onlyReported.now {s t : State} (h : onlyReported s t) : t.now = s.now := by rw [h]
theorem onlyReported.mem {s t : State} (h : onlyReported s t) : t.mem = s.mem := by rw [h]
theorem onlyReported.mcores {s t : State} (h : onlyReported s t) : t.mcores = s.mcores := by rw [h]
theorem onlyReported.mc {s t : State} (h : onlyReported s t) (g : Nat) : mc t g = mc s g := by
  unfold Machine.mc; rw [h.mcores]

theorem onlyReported_setReg (s : State) (b o v : Nat) : onlyReported s (setReg s b o v) := rfl
theorem onlyReported_setRegField (s : State) (b o hi lo v : Nat) : onlyReported s (setRegField s b o hi lo v) := rfl
theorem onlyReported_countField (s : State) (b o hi lo n : Nat) : onlyReported s (countField s b o hi lo n) := rfl
theorem onlyReported_setFt (s : State) (f : FTimer → FTimer) : onlyReported s (setFt s f) := rfl
theorem onlyReported_setChord (s : State) (f : Chord → Chord) : onlyReported s (setChord s f) := rfl
theorem onlyReported_queueWriteBack (s : State) (i : Nat) : onlyReported s (queueWriteBack s i) := rfl

theorem onlyReported_setErr (s : State) (b i : Nat) : onlyReported s (setErr s b i) := by
  rw [setErr_frame]; rfl

theorem onlyReported_markFaulted (s : State) : onlyReported s (markFaulted s) := by
  unfold markFaulted
  split <;> rfl

theorem onlyReported_recordFault (s : State) (l : Bool) (c r n u f : Nat) : onlyReported s (recordFault s l c r n u f) := by
  unfold recordFault
  extract_lets ft s1 s2 s3 s4
  split
  · rfl
  · exact (onlyReported_setReg s _ _ _).trans <| (onlyReported_setReg s1 _ _ _).trans <| (onlyReported_setReg s2 _ _ _).trans <|
      (onlyReported_setReg s3 _ _ _).trans (onlyReported_setErr s4 _ _)

theorem onlyReported_haltFrom (s : State) (c n t : Nat) : onlyReported s (haltFrom s c n t) := by
  unfold haltFrom nodeFrom copiesBelow
  exact List.foldlRecOn (motive := onlyReported s) _ _ (onlyReported_setChord s _)
    fun _ h _ _ => h.trans (onlyReported_setChord _ _)

theorem onlyReported_haltSend (s : State) : onlyReported s (haltSend s) := by
  unfold haltSend
  split
  · split
    · exact onlyReported.trans (by rfl) (onlyReported_haltFrom _ _ _ _)
    · rfl
  · rfl

theorem onlyReported_lowerUnit (s : State) (c u f t : Nat) : onlyReported s (lowerUnit s c u f t) := by
  unfold lowerUnit
  dsimp only
  split <;> rfl

theorem onlyReported_rootHalt (s : State) (l : Bool) (c r n u f d : Nat) : onlyReported s (rootHalt s l c r n u f d) := by
  unfold rootHalt rootSend
  split
  · rfl
  · refine (onlyReported_recordFault s l c r n u f).trans ?_
    exact ((onlyReported_setFt _ _).trans (onlyReported_setChord _ _)).trans (onlyReported_haltSend _)

theorem onlyReported_localHalt (s : State) (b c f t d : Nat) : onlyReported s (localHalt s b c f t d) := by
  unfold localHalt
  dsimp only
  split
  · exact onlyReported_lowerUnit _ _ _ _ _
  · refine onlyReported.trans ?_ (onlyReported_rootHalt _ _ _ _ _ _ _ _)
    split <;> rfl

theorem onlyReported_raiseFault (s : State) (b c : Nat) : onlyReported s (raiseFault s b c) := by
  unfold raiseFault
  split
  · refine (onlyReported_markFaulted s).trans ?_
    dsimp only
    split
    · exact onlyReported_localHalt _ _ _ _ _ _
    · rfl
  · rfl

theorem onlyReported_errFault (s : State) (b i c : Nat) : onlyReported s (errFault s b i c) :=
  (onlyReported_setErr s b i).trans (onlyReported_raiseFault _ _ _)

theorem onlyReported_reportSramCorr (s : State) (i : Nat) : onlyReported s (reportSramCorr s i) := by
  unfold reportSramCorr
  refine (onlyReported_queueWriteBack s i).trans ?_
  dsimp only
  split
  · exact onlyReported_setErr _ _ _
  · exact onlyReported_setErr _ _ _
  · exact onlyReported_setErr _ _ _
  · exact onlyReported_countField _ _ _ _ _ _

theorem onlyReported_reportSramUncorr (s : State) (i : Nat) : onlyReported s (reportSramUncorr s i) := by
  unfold reportSramUncorr
  dsimp only
  split
  · exact onlyReported_errFault _ _ _ _
  · exact onlyReported_errFault _ _ _ _
  · exact onlyReported_errFault _ _ _ _
  · exact onlyReported_setRegField _ _ _ _ _ _
  · exact (onlyReported_setRegField s _ _ _ _ _).trans (onlyReported_raiseFault _ _ _)

/-- A granule beside device memory is read: of the state, only what its report changes differs. -/
theorem onlyReported_sramRead (s : State) (i : Nat) : onlyReported s (sramRead s i).1 := by
  unfold sramRead
  dsimp only
  split
  · rfl
  · exact onlyReported_reportSramCorr s i
  · exact onlyReported_reportSramCorr s i
  · exact onlyReported_reportSramUncorr s i

end Sys2Proof.Machine
end

section
/-! PROOFS. MAC_STEP (R121, R122, R124, R125, R140). -/

namespace Sys2Proof.Machine

theorem onlyReported_streamLines (s : State) (g k : Nat) : onlyReported s (streamLines s g k).1 := by
  unfold streamLines
  dsimp only
  split
  · rfl
  · refine List.foldlRecOn (motive := fun x : State × _ => onlyReported s x.1) _ _ (onlyReported.refl s) fun ⟨s1, _⟩ hs1 _ _ => ?_
    dsimp only
    exact List.foldlRecOn (motive := fun y : State × _ => onlyReported s y.1) _ _ hs1
      fun ⟨s2, _⟩ hs2 _ _ => hs2.trans (onlyReported_sramRead s2 _)

theorem onlyReported_aregChecked (s : State) (g : Nat) (o : MacOp) (j : Nat) : onlyReported s (aregChecked s g o j).1 := by
  unfold aregChecked
  split
  · rfl
  · exact List.foldlRecOn (motive := fun x : State × _ => onlyReported s x.1) _ _ (onlyReported.refl s)
      fun _ hx _ _ => hx.trans (onlyReported_sramRead _ _)

theorem streamLines_state_of_sramClean {s : State} (h : sramClean s = true) (g k : Nat) : (streamLines s g k).1 = s := by
  simp [streamLines, h]

theorem aregChecked_state_of_sramClean {s : State} (h : sramClean s = true) (g : Nat) (o : MacOp) (j : Nat) :
    (aregChecked s g o j).1 = s := by
  simp [aregChecked, h]

theorem onlyMcore_setMc (s : State) (g : Nat) (f : MCore → MCore) : onlyMcore g s (setMc s g f) :=
  ⟨rfl, fun h hh => by simp [mc_setMc, hh]⟩

/-- A step of the run `r` takes M-core `m` to `m'` in cc `now` (R124, R140): one step more, and the run goes on at the next
one, or leaves the pipe with its writeback due 24 cc later. -/
def MacStepped (r : MacRun) (now : Nat) (m m' : MCore) : Prop :=
  m'.steps = m.steps + 1 ∧
  if r.step + 1 = macSteps r.op then
    m'.mac = none ∧ ∃ w, m'.wbs = m.wbs ++ [w] ∧ w.due = now + 24 ∧ w.arow = r.op.arow ∧ w.rumask = r.op.rumask
      ∧ w.add = (r.op.acc == 1)
  else m'.wbs = m.wbs ∧ ∃ r', m'.mac = some r' ∧ r'.step = r.step + 1 ∧ r'.lastStep = now ∧ r'.op = r.op

/-- A step is one change of its M-core, after the reports of what it reads, of which clean SRAMs give none. -/
theorem macStepGo_eq_setMc (s : State) (g : Nat) (r : MacRun) :
    ∃ s1 f, onlyReported s s1 ∧ (sramClean s = true → s1 = s) ∧ macStepGo s g r = setMc s1 g f
      ∧ ∀ m, MacStepped r s1.now m (f m) := by
  unfold macStepGo
  extract_lets o k
  generalize htaken : (if o.wsrc = 0 then (s, r.buf.take k) else streamLines s g k) = x
  obtain ⟨hlines, hlinesClean⟩ : onlyReported s x.1 ∧ (sramClean s = true → x.1 = s) := by
    rw [← htaken]
    split
    · exact ⟨onlyReported.refl s, fun _ => rfl⟩
    · exact ⟨onlyReported_streamLines s g k, fun h => streamLines_state_of_sramClean h g k⟩
  obtain ⟨s1, taken⟩ := x
  have hregs := onlyReported_aregChecked s1 g o r.step
  have hregsClean := fun h => aregChecked_state_of_sramClean (s := s1) h g o r.step
  dsimp only at *
  generalize aregChecked s1 g o r.step = y at hregs hregsClean ⊢
  obtain ⟨s2, m⟩ := y
  dsimp only at *
  refine ⟨s2, _, hlines.trans hregs, fun h => ?_, rfl, fun m => ⟨rfl, ?_⟩⟩
  · obtain rfl := hlinesClean h
    exact hregsClean h
  · split
    · exact ⟨rfl, _, rfl, rfl, rfl, rfl, rfl⟩
    · exact ⟨rfl, _, rfl, rfl, rfl, rfl⟩

theorem execMacStep_due {s : State} {g : Nat} {r : MacRun} (hg : g < mcoreCount) (hmac : (mc s g).mac = some r)
    (hopen : workOpen s (blk Ty.MCORE g) = true) (hdue : stepDue (mc s g) r s.now = true) :
    exec (.macStep g) s = .next (macStepGo s g r) := by
  change execMacStep g s = _
  rw [execMacStep, onUnit_lt hg, hmac]
  simp [hopen, hdue]

end Sys2Proof.Machine
end

section
/-! SUPPORT. Spans of whole granules through their checkers: what a read of a clean span and a write of whole granules
beside DRAM come to (R229, R256, R638). -/

namespace Sys2Proof.Machine

/-! ## Spans of bytes -/

theorem Memory.setBytes_append (m : List Host.Cell) (a : Nat) (l r : List Byte) :
    Memory.setBytes m a (l ++ r) = Memory.setBytes (Memory.setBytes m a l) (a + l.length) r := by
  induction l generalizing m a with
  | nil => rfl
  | cons b l ih => simp only [List.cons_append, Memory.setBytes, ih, List.length_cons, Nat.add_right_comm a 1, Nat.add_assoc]

theorem rawWrite_append (s : State) (a : Nat) (l r : List Byte) :
    rawWrite s a (l ++ r) = rawWrite (rawWrite s a l) (a + l.length) r := by
  simp only [rawWrite, Memory.setBytes_append]

theorem rawRead_drop_take (s : State) {a n d k : Nat} (h : d + k ≤ n) : ((rawRead s a n).drop d).take k = rawRead s (a + d) k := by
  obtain ⟨e, rfl⟩ := Nat.exists_eq_add_of_le h
  rw [rawRead_append s a (d + k) e, rawRead_append s a d k, List.append_assoc, List.drop_append_of_le_length (by simp),
    List.drop_of_length_le (by simp), List.nil_append, List.take_append_of_le_length (by simp), List.take_of_length_le (by simp)]

theorem mem_granulesOf {a n i : Nat} : i ∈ granulesOf a n ↔ n ≠ 0 ∧ a / 32 ≤ i ∧ i ≤ (a + n - 1) / 32 := by
  unfold granulesOf
  split
  · simp_all
  · simp only [List.mem_map, List.mem_range]
    constructor
    · rintro ⟨k, hk, rfl⟩
      omega
    · rintro ⟨-, hlo, hhi⟩
      exact ⟨i - a / 32, by omega, by omega⟩

/-- A part of a clean span is clean. -/
theorem spanClean_mono {s : State} {a n b k : Nat} (h : spanClean s a n) (hlo : a ≤ b) (hhi : b + k ≤ a + n) : spanClean s b k := by
  intro i hi
  rw [mem_granulesOf] at hi
  exact h i (mem_granulesOf.mpr ⟨by omega, by omega, by omega⟩)

/-! ## Reads of clean spans -/

theorem granuleRead_clean {s : State} {i : Nat} (hc : granuleClass s i = .clean) (hl : contentsLost s i = false) :
    granuleRead s i = (s, rawRead s (32 * i) 32, false) := by
  simp [granuleRead, hc, hl]

theorem granulesRead_clean {s : State} (n i : Nat)
    (h : ∀ k < n, granuleClass s (i + k) = .clean ∧ contentsLost s (i + k) = false) :
    granulesRead n s i = (s, rawRead s (32 * i) (32 * n), List.replicate n false) := by
  induction n generalizing i with
  | zero => rfl
  | succ n ih =>
    obtain ⟨hc, hl⟩ : granuleClass s i = .clean ∧ contentsLost s i = false := h 0 (by omega)
    have hrest := ih (i + 1) fun k hk => by rw [Nat.add_right_comm, Nat.add_assoc]; exact h (k + 1) (by omega)
    rw [granulesRead, granuleRead_clean hc hl]
    dsimp only
    rw [hrest, Nat.mul_add 32 i 1, Nat.mul_add 32 n 1, Nat.add_comm (32 * n), rawRead_append, List.replicate_succ]

/-- A read of a clean span returns what is stored and changes nothing. -/
theorem memRead_of_spanClean {s : State} {a n : Nat} (h : spanClean s a n) : memRead s a n = (s, rawRead s a n, false) := by
  by_cases hn : n = 0
  · subst hn
    simp [memRead, granulesRead, rawRead]
  · have hclean : ∀ k < (a + n - 1) / 32 + 1 - a / 32,
        granuleClass s (a / 32 + k) = .clean ∧ contentsLost s (a / 32 + k) = false :=
      fun k hk => h _ (mem_granulesOf.mpr ⟨hn, by omega, by omega⟩)
    have hdata : ((rawRead s (32 * (a / 32)) (32 * ((a + n - 1) / 32 + 1 - a / 32))).drop (a % 32)).take n = rawRead s a n := by
      rw [rawRead_drop_take s (by omega), Nat.div_add_mod]
    simp only [memRead, hn, if_false, granulesRead_clean _ _ hclean, hdata, Prod.mk.injEq, true_and]
    simp

/-! ## Writes of whole granules -/

/-- A whole granule beside DRAM is written: its bytes are stored with fresh check bits. -/
theorem granuleWrite_beside_dram (s : State) {i : Nat} (h : ∀ c o, placeOf (32 * i) ≠ .dram c o) (d : List Byte) (rq : Bool) :
    granuleWrite s i d rq = rawWrite (freshCheck s i) (32 * i) d := by
  unfold granuleWrite
  dsimp only
  split
  next c o hp => exact absurd hp (h c o)
  next => rfl

/-- Fresh check bits for `n` granules from index `i` on. -/
def freshGranules (s : State) (i n : Nat) : State := (List.range' i n).foldl freshCheck s

/-- Stored bytes and check bits are apart. -/
theorem freshGranules_rawWrite (s : State) (a : Nat) (l : List Byte) (i n : Nat) :
    freshGranules (rawWrite s a l) i n = rawWrite (freshGranules s i n) a l := by
  unfold freshGranules
  induction n generalizing s i with
  | zero => rfl
  | succ n ih => exact ih (freshCheck s i) (i + 1)

/-- A write of `n` whole granules beside DRAM: the bytes are stored with fresh check bits, and none is refused. -/
theorem memWriteGo_whole (n : Nat) {fuel : Nat} (hf : n ≤ fuel) (s : State) (i : Nat) (l : List Byte) (rq : Bool)
    (hl : l.length = 32 * n) (hd : ∀ k < n, ∀ c o, placeOf (32 * (i + k)) ≠ .dram c o) :
    memWriteGo fuel s (32 * i) l rq = (rawWrite (freshGranules s i n) (32 * i) l, false) := by
  induction n generalizing fuel s i l with
  | zero =>
    obtain rfl := List.length_eq_zero_iff.mp hl
    cases fuel <;> rfl
  | succ n ih =>
    cases fuel with
    | zero => omega
    | succ fuel =>
      have hne : l ≠ [] := by rintro rfl; simp at hl
      have htake : (l.take 32).length = 32 := by rw [List.length_take]; omega
      have hfirst : ∀ c o, placeOf (32 * i) ≠ .dram c o := hd 0 (by omega)
      have hmerge : granuleMerge s i 0 (l.take 32) rq = (rawWrite (freshCheck s i) (32 * i) (l.take 32), false) := by
        rw [granuleMerge, if_pos ⟨rfl, htake⟩, granuleWrite_beside_dram s hfirst]
      have hrest := ih (fuel := fuel) (by omega) (rawWrite (freshCheck s i) (32 * i) (l.take 32)) (i + 1) (l.drop 32)
        (by rw [List.length_drop]; omega) fun k hk => by rw [Nat.add_right_comm, Nat.add_assoc]; exact hd (k + 1) (by omega)
      have hnext : 32 * (i + 1) = 32 * i + (l.take 32).length := by omega
      rw [memWriteGo, if_neg hne]
      simp only [Nat.mul_mod_right, Nat.mul_div_right i (show 0 < 32 by decide), Nat.sub_zero, hmerge, ← Nat.mul_add_one, hrest]
      rw [freshGranules_rawWrite, hnext, ← rawWrite_append, List.take_append_drop]
      rfl

theorem memWrite_whole (n : Nat) (s : State) (i : Nat) (l : List Byte) (rq : Bool)
    (hl : l.length = 32 * n) (hd : ∀ k < n, ∀ c o, placeOf (32 * (i + k)) ≠ .dram c o) :
    memWrite s (32 * i) l rq = (rawWrite (freshGranules s i n) (32 * i) l, false) :=
  memWriteGo_whole n (by omega) s i l rq hl hd

/-! ## What a write of an M-core's own leaves -/

/-- Only stored bytes, their check bits and write-backs, and the signature records that wait in M-core `g` differ (R588);
a clean granule stays clean. -/
structure StoresOnly (g : Nat) (s t : State) : Prop where
  frame : t = { s with mem := t.mem, synd := t.synd, writeBacks := t.writeBacks, mcores := t.mcores }
  others : ∀ h, h ≠ g → mc t h = mc s h
  core : mc t g = { mc s g with sigCc := (mc t g).sigCc }
  clean : ∀ i, granuleClass s i = .clean → granuleClass t i = .clean

theorem StoresOnly.refl (g : Nat) (s : State) : StoresOnly g s s := ⟨rfl, fun _ _ => rfl, rfl, fun _ h => h⟩

theorem StoresOnly.trans {g : Nat} {s t u : State} (h1 : StoresOnly g s t) (h2 : StoresOnly g t u) : StoresOnly g s u where
  frame := by rw [h2.frame, h1.frame]
  others h hh := (h2.others h hh).trans (h1.others h hh)
  core := by rw [h2.core, h1.core]
  clean i hi := h2.clean i (h1.clean i hi)

theorem StoresOnly.regs {g : Nat} {s t : State} (h : StoresOnly g s t) : t.regs = s.regs := by rw [h.frame]
theorem StoresOnly.wbs {g : Nat} {s t : State} (h : StoresOnly g s t) : (mc t g).wbs = (mc s g).wbs := by rw [h.core]
theorem StoresOnly.lastWr {g : Nat} {s t : State} (h : StoresOnly g s t) : (mc t g).lastWr = (mc s g).lastWr := by rw [h.core]
theorem StoresOnly.clr {g : Nat} {s t : State} (h : StoresOnly g s t) : (mc t g).clr = (mc s g).clr := by rw [h.core]

theorem StoresOnly.spanClean {g : Nat} {s t : State} (h : StoresOnly g s t) {a n : Nat} (hs : spanClean s a n) : spanClean t a n := by
  intro i hi
  obtain ⟨hc, hl⟩ := hs i hi
  refine ⟨h.clean i hc, ?_⟩
  rw [h.frame]
  exact hl

theorem storesOnly_rawWrite (g : Nat) (s : State) (a : Nat) (l : List Byte) : StoresOnly g s (rawWrite s a l) :=
  ⟨rfl, fun _ _ => rfl, rfl, fun _ h => h⟩

theorem Inv.freshCheck {s : State} (i : Nat) (h : Inv s) : Inv (freshCheck s i) := ⟨h.mem, Assoc.sorted_put _ _ h.synd, h.regs⟩

theorem storesOnly_freshCheck (g : Nat) {s : State} (i : Nat) (h : Inv s) : StoresOnly g s (freshCheck s i) := by
  refine ⟨rfl, fun _ _ => rfl, rfl, fun j hj => ?_⟩
  by_cases hji : j = i
  · subst hji
    simp only [granuleClass, Machine.freshCheck, Assoc.get?_put_none _ h.synd]
  · simp only [granuleClass, Machine.freshCheck, Assoc.get?_put_ne _ _ _ _ hji]
    exact hj

theorem freshGranules_mem (s : State) (i n : Nat) : (freshGranules s i n).mem = s.mem :=
  List.foldlRecOn (motive := fun t : State => t.mem = s.mem) _ _ rfl fun _ ht _ _ => ht

theorem Inv.freshGranules {s : State} (i n : Nat) (h : Inv s) : Inv (freshGranules s i n) :=
  Inv.foldl _ _ (fun _ j hj => Inv.freshCheck j hj) h

theorem storesOnly_freshGranules (g : Nat) {s : State} (i n : Nat) (h : Inv s) : StoresOnly g s (freshGranules s i n) := by
  have hboth : Inv (Machine.freshGranules s i n) ∧ StoresOnly g s (Machine.freshGranules s i n) :=
    List.foldlRecOn (motive := fun t => Inv t ∧ StoresOnly g s t) _ _ ⟨h, StoresOnly.refl g s⟩
      fun t ⟨hi, ht⟩ j _ => ⟨hi.freshCheck j, ht.trans (storesOnly_freshCheck g j hi)⟩
  exact hboth.2

theorem storesOnly_mcSig (g : Nat) (s : State) (i : Nat) : StoresOnly g s (mcSig s g i) := by
  refine ⟨rfl, fun h hh => ?_, ?_, fun _ h => h⟩
  · simp [mcSig, mc_setMc, hh]
  · simp [mcSig]

theorem storesOnly_mcSigSpan (g : Nat) (s : State) (a n : Nat) : StoresOnly g s (mcSigSpan s g a n) :=
  List.foldlRecOn (motive := StoresOnly g s) _ _ (StoresOnly.refl g s) fun t ht i _ => ht.trans (storesOnly_mcSig g t i)

theorem mcSigSpan_mem (s : State) (g a n : Nat) : (mcSigSpan s g a n).mem = s.mem :=
  List.foldlRecOn (motive := fun t : State => t.mem = s.mem) _ _ rfl fun _ ht _ _ => ht

theorem Inv.mcSigSpan {s : State} (g a n : Nat) (h : Inv s) : Inv (mcSigSpan s g a n) :=
  Inv.foldl (fun t i => mcSig t g i) _ (fun _ _ ht => ⟨ht.mem, ht.synd, ht.regs⟩) h

end Sys2Proof.Machine
end

section
/-! PROOFS. Accumulator rows and MAC_WRITEBACK (R114, R140, R165): a row is 16 whole granules of the M-core's store, so that
the rows of a writeback are stored one after another, each apart from the others. -/

namespace Sys2Proof.Machine

/-! ## Accumulator rows -/

/-- Index of the first granule of an accumulator row. -/
def accGran (g row : Nat) : Nat := 0x300000000 + 0x80000 * g + 0x40000 + 16 * row

theorem accRow_eq (g row : Nat) : accRow g row = 32 * accGran g row := by
  unfold accRow mstoreAddr mstoreBase accOff accGran
  omega

theorem placeOf_accGran {g row k : Nat} (hg : g < mcoreCount) (hrow : row < 512) (hk : k < 16) :
    placeOf (32 * (accGran g row + k)) = .mstore g (0x800000 + 512 * row + 32 * k) := by
  simp only [mcoreCount] at hg
  have haddr : 32 * (accGran g row + k) = 0x6000000000 + (g * 0x1000000 + (0x800000 + 512 * row + 32 * k)) := by
    unfold accGran; omega
  have hinst : (g * 0x1000000 + (0x800000 + 512 * row + 32 * k)) / 0x1000000 = g := by omega
  have hoff : (g * 0x1000000 + (0x800000 + 512 * row + 32 * k)) % 0x1000000 = 0x800000 + 512 * row + 32 * k := by omega
  simp only [placeOf, haddr, mstoreBase, vmemBase, slmBase]
  rw [if_neg (by omega), if_neg (by omega), if_neg (by omega), if_pos (by omega), Nat.add_sub_cancel_left, hinst, hoff, if_pos (by omega)]

/-- The bytes of a row of words. -/
def wordBytes (v : List Word) : List Byte := (v.map (fun w => leBytes 4 w.toNat)).flatten

theorem wordBytes_length (v : List Word) : (wordBytes v).length = 4 * v.length := by
  induction v with
  | nil => rfl
  | cons w v ih =>
    rw [wordBytes, List.map_cons, List.flatten_cons, List.length_append, ← wordBytes, ih, List.length_cons, Nat.mul_add_one, Nat.add_comm]
    rfl

/-- The numbers that the words of a row stand for. -/
def rowWords (s : State) (g row : Nat) : List Nat := (List.range 128).map (fun l => leNat (rawRead s (accRow g row + 4 * l) 4))

/-- The definition as an equation of functions: applied to a row, the kernel would go on into the read. -/
theorem readRow_eq : readRow = fun s g row =>
    let (s1, d, _) := memRead s (accRow g row) 512
    (s1, (List.range 128).map (fun l => leNat ((d.drop (4 * l)).take 4))) := rfl

/-- A clean row is read as it stands, and nothing changes. -/
theorem readRow_of_spanClean {s : State} {g row : Nat} (h : spanClean s (accRow g row) 512) : readRow s g row = (s, rowWords s g row) := by
  have hwords : (List.range 128).map (fun l => leNat (((rawRead s (accRow g row) 512).drop (4 * l)).take 4)) = rowWords s g row := by
    refine List.map_congr_left fun l hl => ?_
    rw [List.mem_range] at hl
    rw [rawRead_drop_take s (by omega)]
  rw [congrFun (congrFun (congrFun readRow_eq s) g) row, memRead_of_spanClean h]
  exact congrArg (Prod.mk s) hwords

/-- A row is stored with fresh check bits and its signature records. -/
theorem writeRow_eq (s : State) {g row : Nat} {v : List Word} (hg : g < mcoreCount) (hrow : row < 512) (hv : v.length = 128) :
    writeRow s g row v = mcSigSpan (rawWrite (freshGranules s (accGran g row) 16) (accRow g row) (wordBytes v)) g (accRow g row) 512 := by
  have hwrite := memWrite_whole 16 s (accGran g row) (wordBytes v) false (by rw [wordBytes_length, hv])
    fun k hk c o => by rw [placeOf_accGran hg hrow hk]; exact Place.noConfusion
  rw [← accRow_eq] at hwrite
  rw [writeRow, ← wordBytes, hwrite, mcSigSpan]

section
variable {s : State} {g row : Nat} {v : List Word} (hinv : Inv s) (hg : g < mcoreCount) (hrow : row < 512) (hv : v.length = 128)
include hinv hg hrow hv

theorem Inv.writeRow : Inv (writeRow s g row v) := by
  rw [writeRow_eq s hg hrow hv]
  exact ((hinv.freshGranules _ _).rawWrite _ _).mcSigSpan _ _ _

theorem storesOnly_writeRow : StoresOnly g s (writeRow s g row v) := by
  rw [writeRow_eq s hg hrow hv]
  exact ((storesOnly_freshGranules g _ _ hinv).trans (storesOnly_rawWrite _ _ _ _)).trans (storesOnly_mcSigSpan _ _ _ _)

theorem rawRead_writeRow : rawRead (writeRow s g row v) (accRow g row) 512 = wordBytes v := by
  have hback := rawRead_rawWrite (accRow g row) (wordBytes v) (hinv.freshGranules (accGran g row) 16).mem
  rw [wordBytes_length, hv] at hback
  rw [writeRow_eq s hg hrow hv]
  exact (rawRead_congr _ _ fun x _ _ => by rw [mcSigSpan_mem]).trans hback

omit hinv in
/-- Every byte outside the row is as before. -/
theorem get_writeRow_out {x : Nat} (hx : x < accRow g row ∨ accRow g row + 512 ≤ x) :
    Memory.get (writeRow s g row v).mem x = Memory.get s.mem x := by
  rw [writeRow_eq s hg hrow hv, mcSigSpan_mem, rawWrite_mem, Memory.get_setBytes_out _ _ _ _ (by rw [wordBytes_length, hv]; exact hx),
    freshGranules_mem]

end

/-! ## The rows of a writeback -/

/-- The words that a writeback leaves in the row of `x`: the lane sums, or their device sums with the row's values (R165). -/
def writebackWords (s : State) (g : Nat) (w : Writeback) (x : Nat × List Word) : List Word :=
  if w.add then ((rowWords s g (4 * w.arow + x.1)).zip x.2).map (fun y => BitVec.ofNat 32 (devAdd32 y.1 y.2.toNat)) else x.2

theorem writebackWords_length (s : State) (g : Nat) (w : Writeback) {x : Nat × List Word} (hx : x.2.length = 128) :
    (writebackWords s g w x).length = 128 := by
  unfold writebackWords
  split
  · simp [rowWords, hx]
  · exact hx

/-- The four rows of a writeback (R140). -/
theorem accRow_unit (g arow i : Nat) : accRow g (4 * arow + i) = accRow g (4 * arow) + 512 * i := by
  unfold accRow mstoreAddr
  omega

/-- The words for a row depend on that row's bytes alone. -/
theorem writebackWords_congr {s t : State} {g : Nat} {w : Writeback} {x : Nat × List Word}
    (h : ∀ b, accRow g (4 * w.arow + x.1) ≤ b → b < accRow g (4 * w.arow + x.1) + 512 → Memory.get t.mem b = Memory.get s.mem b) :
    writebackWords t g w x = writebackWords s g w x := by
  have hwords : rowWords t g (4 * w.arow + x.1) = rowWords s g (4 * w.arow + x.1) := by
    refine List.map_congr_left fun l hl => ?_
    rw [List.mem_range] at hl
    rw [rawRead_congr _ _ fun b hlo hhi => h b (by omega) (by omega)]
  rw [writebackWords, writebackWords, hwords]

/-- Rows of distinct row units: each holds its words, made from what it held at first, and every other byte is as before. -/
structure RowsWritten (g : Nat) (w : Writeback) (l : List (Nat × List Word)) (s t : State) : Prop where
  stores : StoresOnly g s t
  row : ∀ x ∈ l, rawRead t (accRow g (4 * w.arow + x.1)) 512 = wordBytes (writebackWords s g w x)
  out : ∀ b, (∀ x ∈ l, b < accRow g (4 * w.arow + x.1) ∨ accRow g (4 * w.arow + x.1) + 512 ≤ b) →
    Memory.get t.mem b = Memory.get s.mem b

/-- `f` writes one row of the writeback: `x` is its logical row unit with the unit's lane sums. -/
def WritesRow (g : Nat) (w : Writeback) (f : State → Nat × List Word → State) : Prop :=
  ∀ s x, (mc s g).clr = none → (w.add = true → spanClean s (accRow g (4 * w.arow + x.1)) 512) →
    f s x = writeRow s g (4 * w.arow + x.1) (writebackWords s g w x)

theorem rowsWritten_cons {g : Nat} {w : Writeback} {p : Nat × List Word} {l : List (Nat × List Word)} {s s1 t : State}
    (hp : ∀ x ∈ l, x.1 ≠ p.1) (h1 : RowsWritten g w [p] s s1) (h2 : RowsWritten g w l s1 t) : RowsWritten g w (p :: l) s t := by
  have happart : ∀ x ∈ l, accRow g (4 * w.arow + x.1) + 512 ≤ accRow g (4 * w.arow + p.1) ∨
      accRow g (4 * w.arow + p.1) + 512 ≤ accRow g (4 * w.arow + x.1) := by
    intro x hx
    have hne := hp x hx
    rw [accRow_unit g w.arow x.1, accRow_unit g w.arow p.1]
    omega
  refine ⟨h1.stores.trans h2.stores, fun x hx => ?_, fun b hb => ?_⟩
  · rcases List.mem_cons.mp hx with rfl | hx
    · rw [← h1.row x List.mem_cons_self]
      refine rawRead_congr _ _ fun b hlo hhi => h2.out b fun y hy => ?_
      have hy := happart y hy
      omega
    · have hx' := happart x hx
      rw [h2.row x hx, writebackWords_congr fun b hlo hhi => h1.out b (List.forall_mem_singleton.mpr (by omega))]
  · rw [h2.out b fun x hx => hb x (List.mem_cons_of_mem _ hx)]
    exact h1.out b (List.forall_mem_singleton.mpr (hb p List.mem_cons_self))

theorem rowsWritten_foldl {g : Nat} {w : Writeback} {f : State → Nat × List Word → State} (hf : WritesRow g w f)
    (hg : g < mcoreCount) (harow : w.arow < 128) (l : List (Nat × List Word)) (hdist : (l.map Prod.fst).Nodup)
    (hunit : ∀ x ∈ l, x.1 < 4 ∧ x.2.length = 128) {s : State} (hinv : Inv s) (hclr : (mc s g).clr = none)
    (hclean : w.add = true → spanClean s (accRow g (4 * w.arow)) 2048) : RowsWritten g w l s (l.foldl f s) := by
  induction l generalizing s with
  | nil => exact ⟨StoresOnly.refl g s, fun x hx => absurd hx List.not_mem_nil, fun _ _ => rfl⟩
  | cons p l ih =>
    obtain ⟨hp, hl⟩ := List.nodup_cons.mp hdist
    obtain ⟨hp4, hplen⟩ := hunit p List.mem_cons_self
    have hrow : 4 * w.arow + p.1 < 512 := by omega
    have hlen := writebackWords_length s g w hplen
    have hstep : f s p = writeRow s g (4 * w.arow + p.1) (writebackWords s g w p) :=
      hf s p hclr fun ha => spanClean_mono (hclean ha) (by rw [accRow_unit]; omega) (by rw [accRow_unit]; omega)
    have hstores := storesOnly_writeRow hinv hg hrow hlen
    have hfirst : RowsWritten g w [p] s (f s p) := by
      rw [hstep]
      exact ⟨hstores, List.forall_mem_singleton.mpr (rawRead_writeRow hinv hg hrow hlen),
        fun b hb => get_writeRow_out hg hrow hlen (hb p List.mem_cons_self)⟩
    refine rowsWritten_cons (fun x hx he => hp (he ▸ List.mem_map_of_mem hx)) hfirst ?_
    refine ih hl (fun x hx => hunit x (List.mem_cons_of_mem _ hx)) (hstep ▸ Inv.writeRow hinv hg hrow hlen) ?_ ?_
    · rw [hfirst.stores.clr, hclr]
    · exact fun ha => hfirst.stores.spanClean (hclean ha)

theorem ruList_lt {mask i : Nat} (h : i ∈ ruList mask) : i < 4 := List.mem_range.mp (List.mem_filter.mp h).1

theorem ruList_nodup (mask : Nat) : (ruList mask).Nodup := List.nodup_range.filter _

/-- Row units in ascending order: each row of the writeback is stored or added to. -/
theorem rowsWritten_writebackRows {s : State} {g : Nat} {w : Writeback} (hg : g < mcoreCount) (harow : w.arow < 128)
    (hlen : w.acc.length = (ruList w.rumask).length) (hacc : ∀ a ∈ w.acc, a.length = 128) (hinv : Inv s)
    (hclr : (mc s g).clr = none) (hclean : w.add = true → spanClean s (accRow g (4 * w.arow)) 2048) :
    RowsWritten g w ((ruList w.rumask).zip w.acc) s (writebackRows s g w) := by
  unfold writebackRows
  refine rowsWritten_foldl ?_ hg harow _ ?_ ?_ hinv hclr hclean
  · rintro u ⟨i, a⟩ hu (hspan : w.add = true → spanClean u (accRow g (4 * w.arow + i)) 512)
    have hclear : ¬ clearedNow u g (4 * w.arow + i) = true := by rw [clearedNow, hu]; exact Bool.false_ne_true
    refine (if_neg hclear).trans ?_
    by_cases hadd : w.add = true
    · rw [if_pos hadd, readRow_of_spanClean (hspan hadd), writebackWords, if_pos hadd]
    · rw [if_neg hadd, writebackWords, if_neg hadd]
  · rw [List.map_fst_zip (by omega)]
    exact ruList_nodup _
  · rintro ⟨i, a⟩ hx
    obtain ⟨hi, ha⟩ := List.of_mem_zip hx
    exact ⟨ruList_lt hi, hacc a ha⟩

/-- The oldest writeback has left M-core `g` (R140). -/
def popWriteback (s : State) (g : Nat) (rest : List Writeback) : State :=
  setMc s g (fun m => { m with wbs := rest, lastWr := s.now + 1 })

theorem execMacWriteback_due {s : State} {g : Nat} {w : Writeback} {rest : List Writeback} (hg : g < mcoreCount)
    (hwbs : (mc s g).wbs = w :: rest) (hawake : awake s = true) (hlive : workLive s (blk Ty.MCORE g) = true)
    (hfence : (mc s g).fenceAt = 0 ∨ s.now < (mc s g).fenceAt) (hdue : w.due ≤ s.now) :
    exec (.macWriteback g) s = .next (writebackRows (popWriteback s g rest) g w) := by
  change execMacWriteback g s = _
  rw [execMacWriteback, onUnit_lt hg, hwbs]
  simp [hawake, hlive, hfence, hdue, popWriteback]

@[simp] theorem popWriteback_mc_same (s : State) (g : Nat) (rest : List Writeback) :
    mc (popWriteback s g rest) g = { mc s g with wbs := rest, lastWr := s.now + 1 } := mc_setMc_same _ _ _

theorem popWriteback_mc_ne (s : State) {g h : Nat} (rest : List Writeback) (hh : h ≠ g) : mc (popWriteback s g rest) h = mc s h := by
  rw [popWriteback, mc_setMc, if_neg hh]

@[simp] theorem popWriteback_mem (s : State) (g : Nat) (rest : List Writeback) : (popWriteback s g rest).mem = s.mem := rfl
@[simp] theorem popWriteback_regs (s : State) (g : Nat) (rest : List Writeback) : (popWriteback s g rest).regs = s.regs := rfl

theorem Inv.popWriteback {s : State} (g : Nat) (rest : List Writeback) (h : Inv s) : Inv (popWriteback s g rest) :=
  ⟨h.mem, h.synd, h.regs⟩

theorem mem_zip_of_getElem? {l : List Nat} {acc : List (List Word)} {k i : Nat} (hlen : acc.length = l.length) (hk : l[k]? = some i) :
    (i, acc.getD k []) ∈ l.zip acc := by
  obtain ⟨hlt, -⟩ := List.getElem?_eq_some_iff.mp hk
  have hacc : acc[k]? = some (acc.getD k []) := by
    rw [List.getD_eq_getElem?_getD, List.getElem?_eq_getElem (by omega), Option.getD_some]
  exact List.mem_of_getElem? (List.getElem?_zip_eq_some.mpr ⟨hk, hacc⟩)

/-- Settles O15: a step is one change of its M-core after the reports of what it reads (`macStepGo_eq_setMc`), and the rows
of a writeback are written one after another, each apart from the others (`rowsWritten_foldl`). -/
theorem macPipe : Obligations.MacPipe := by
  refine ⟨fun s g r hg hmac hopen hdue => ?_, fun s g w rest hinv hg hwbs hawake hlive hfence hdue harow hlen hacc hclr hclean => ?_⟩
  · obtain ⟨s1, f, hrep, hclean, hgo, hf⟩ := macStepGo_eq_setMc s g r
    obtain ⟨hsteps, hrest⟩ := hf (mc s1 g)
    rw [hrep.mc, hrep.now] at hrest
    rw [hrep.mc] at hsteps
    refine ⟨_, execMacStep_due hg hmac hopen hdue, ?_⟩
    rw [hgo, mc_setMc_same, hrep.mc]
    refine ⟨hrep.mem, fun h hh => ?_, fun hc => ?_, hsteps, hrest⟩
    · rw [mc_setMc, if_neg hh, hrep.mc]
    · rw [hclean hc]
      exact onlyMcore_setMc s g f
  · have hrows := rowsWritten_writebackRows hg harow hlen hacc (hinv.popWriteback g rest)
      (by rw [popWriteback_mc_same, hclr]) (fun ha => hclean ha)
    refine ⟨_, execMacWriteback_due hg hwbs hawake hlive hfence hdue, ?_, ?_, ?_, fun k i hk => ?_, fun x hx => ?_, fun h hh => ?_⟩
    · rw [hrows.stores.wbs, popWriteback_mc_same]
    · rw [hrows.stores.lastWr, popWriteback_mc_same]
    · rw [hrows.stores.regs, popWriteback_regs]
    · have hrow := hrows.row _ (mem_zip_of_getElem? hlen hk)
      rw [writebackWords_congr fun _ _ _ => by rw [popWriteback_mem], writebackWords, rowWords, wordBytes] at hrow
      exact hrow
    · refine hrows.out x fun y hy => ?_
      have hy4 := ruList_lt (List.of_mem_zip hy).1
      rw [accRow_unit]
      omega
    · rw [hrows.stores.others h hh, popWriteback_mc_ne s rest hh]

end Sys2Proof.Machine
end

section
/-! PROOFS. NOP, WAITS and END of a V-core (R198, R210): each is one change of the V-core's own state; a late release also
sets WAIT_LATE. -/

namespace Sys2Proof.Machine

theorem onlyVcore.refl (v : Nat) (s : State) : onlyVcore v s s := ⟨rfl, fun _ _ => rfl⟩

theorem vecIssued_vecIssue (s : State) (v : Nat) : VecIssued s (vecIssue s v) v ((vc s v).pc + 1) := by
  simp [VecIssued]

theorem vecSame_vecIssue (s : State) (v : Nat) : VecSame s (vecIssue s v) v := by simp [VecSame]

/-! ## Release of a WAITS -/

/-- An error flag is beside every V-core. -/
theorem setErrIf_vc (c : Bool) (s : State) (b i v : Nat) : vc (setErrIf c s b i) v = vc s v := by
  unfold setErrIf
  split
  · rw [setErr_frame]; rfl
  · rfl

theorem setErrIf_mem (c : Bool) (s : State) (b i : Nat) : (setErrIf c s b i).mem = s.mem := by
  unfold setErrIf
  split
  · rw [setErr_frame]
  · rfl

/-- The V-core is held no longer. -/
def vecRelease (s : State) (v : Nat) : State := setVc s v fun m => { m with hold := .none }

/-- The release of a hold whose position has come; it is late when the WAITS issued after the position. -/
theorem execWaitsRelease_due {s : State} {v slot cc : Nat} (hv : v < vcoreCount) (hhold : (vc s v).hold = .position slot cc)
    (hopen : workOpen s (blk Ty.VCORE v) = true) (hpos : 64 * slot + cc ≤ frameCc s) :
    exec (.waitsRelease v) s = .next (setErrIf
      (decide (64 * slot + cc < 64 * slotAt s ((vc s v).issued - 1) + ccAt s ((vc s v).issued - 1)))
      (vecRelease s v) (blk Ty.VCORE v) Err.VCORE_WAIT_LATE) := by
  change execWaitsRelease v s = _
  rw [execWaitsRelease, onUnit_lt hv, hhold]
  simp only [hopen, hpos, decide_true, Bool.and_self, if_true, vecRelease]

/-! ## End of the frame's work -/

/-- The V-core has finished the frame's work. -/
def vecDone (s : State) (v : Nat) : State := setVc s v fun m => { m with done := true, issued := s.now + 1 }

theorem vecDone_frame (s : State) (v : Nat) :
    onlyVcore v s (vecDone s v) ∧ (vc (vecDone s v) v).done = true ∧ VecSame s (vecDone s v) v :=
  ⟨onlyVcore_setVc _ _ _, by simp [vecDone], by simp [vecDone, VecSame]⟩

theorem execVcoreEnd_ready {s : State} {v : Nat} (hv : v < vcoreCount) (hready : vecReady s v .endFrame = true) :
    exec (.vcoreEnd v) s = .next (vecDone s v) := by
  change execVcoreEnd v s = _
  rw [execVcoreEnd, onUnit_lt hv]
  simp only [hready, Bool.true_or, if_true, vecDone]

/-- Past its last instruction the V-core ends as END does (R210). -/
theorem execVcoreEnd_past {s : State} {v : Nat} (hv : v < vcoreCount) (hopen : workOpen s (blk Ty.VCORE v) = true)
    (hrun : (vc s v).running = true) (hstop : (vc s v).stopped = false) (hdone : (vc s v).done = false)
    (hfence : (vc s v).fenced = false) (hissued : (vc s v).issued ≠ s.now + 1) (hfree : vHoldFree (vc s v).hold s.now = true)
    (hpast : vecCount (vecBody s v) ≤ (vc s v).pc) : exec (.vcoreEnd v) s = .next (vecDone s v) := by
  change execVcoreEnd v s = _
  rw [execVcoreEnd, onUnit_lt hv]
  simp only [hopen, hrun, hstop, hdone, hfence, hissued, hfree, hpast, Bool.not_false, ne_eq, not_false_eq_true, decide_true,
    Bool.and_self, Bool.or_true, if_true, vecDone]

/-- Settles O8, one clause for each instruction from what it comes to: `vecGo_may` for NOP and WAITS, `execWaitsRelease_due`
for the release, `execVcoreEnd_ready` and `execVcoreEnd_past` for END and the end of the program. -/
theorem vcoreSequencing : Obligations.VcoreSequencing := by
  refine ⟨fun s v h => ?nop, fun s v slot cc h => ?waits, fun s v slot cc hv hhold hopen hpos => ?release, fun s v hv h => ?done,
    fun s v hv hopen hrun hstop hdone hfence hissued hfree hpast => ?past⟩
  case nop =>
    refine ⟨vecIssue s v, ?_, onlyVcore_vecIssue s v, vecIssued_vecIssue s v, vecSame_vecIssue s v⟩
    change execVcoreNop v s = _
    rw [execVcoreNop, onUnit_lt h.1, vecGo_may _ h, id]
  case waits =>
    refine ⟨setVc (vecIssue s v) v fun m => { m with hold := .position slot cc }, ?_,
      onlyVcore_trans (onlyVcore_vecIssue s v) (onlyVcore_setVc _ _ _), ?_⟩
    · change execWaits v slot cc s = _
      rw [execWaits, onUnit_lt h.1, vecGo_may _ h]
    · simp [VecSame]
  case release =>
    refine ⟨_, execWaitsRelease_due hv hhold hopen hpos, ?_, ?_, setErrIf_mem _ _ _ _, fun hintime => ?_, fun hlate hinv => ?_⟩
    · simp [setErrIf_vc, vecRelease]
    · simp [VecSame, setErrIf_vc, vecRelease]
    · rw [decide_eq_false (Nat.not_lt.mpr hintime), setErrIf, if_neg Bool.false_ne_true]
      exact onlyVcore_setVc _ _ _
    · rw [decide_eq_true hlate]
      exact errSummary_setErr _ _ hinv.regs (by decide)
  case done => exact ⟨_, execVcoreEnd_ready hv h, vecDone_frame s v⟩
  case past => exact ⟨_, execVcoreEnd_past hv hopen hrun hstop hdone hfence hissued hfree hpast, vecDone_frame s v⟩

end Sys2Proof.Machine
end

section
/-! SUPPORT. A write of bytes in V-core local memory (R204, R638), inside one clean granule or over whole granules, and what a
V-core's own store leaves as it was (R588). -/

namespace Sys2Proof.Machine

/-! ## Bytes and places -/

theorem leBytes_length (n x : Nat) : (leBytes n x).length = n := by
  induction n generalizing x with
  | zero => rfl
  | succ n ih => rw [leBytes, List.length_cons, ih]

theorem splice_length {d l : List Byte} {o : Nat} (h : o + l.length ≤ d.length) : (splice d o l).length = d.length := by
  simp only [splice, List.length_append, List.length_take, List.length_drop]
  omega

theorem take_drop_splice {d : List Byte} {o : Nat} (l : List Byte) (h : o ≤ d.length) : ((splice d o l).drop o).take l.length = l := by
  have ho : (d.take o).length = o := List.length_take_of_le h
  rw [splice, List.append_assoc, List.drop_append_of_le_length (Nat.le_of_eq ho.symm),
    List.drop_of_length_le (Nat.le_of_eq ho), List.nil_append, List.take_left]

theorem getElem?_splice_out {d l : List Byte} {o j : Nat} (h : o + l.length ≤ d.length) (hj : j < o ∨ o + l.length ≤ j) :
    (splice d o l)[j]? = d[j]? := by
  have ho : (d.take o ++ l).length = o + l.length := by rw [List.length_append, List.length_take_of_le (by omega)]
  rcases hj with hj | hj
  · rw [splice, List.append_assoc, List.getElem?_append_left (by rw [List.length_take]; omega), List.getElem?_take_of_lt hj]
  · rw [splice, List.getElem?_append_right (by omega), ho, List.getElem?_drop, Nat.add_sub_cancel' hj]

theorem placeOf_vmemAddr {v off : Nat} (hv : v < vcoreCount) (hoff : off < 0x400000) : placeOf (vmemAddr v off) = .vmem v off := by
  simp only [vcoreCount] at hv
  have haddr : vmemAddr v off = 0x6080000000 + (v * 0x1000000 + off) := by
    unfold vmemAddr vmemBase
    omega
  have hinst : (v * 0x1000000 + off) / 0x1000000 = v := by omega
  have hrest : (v * 0x1000000 + off) % 0x1000000 = off := by omega
  simp only [placeOf, haddr, mstoreBase, vmemBase, slmBase]
  rw [if_neg (by omega), if_neg (by omega), if_neg (by omega), if_neg (by omega), if_pos (by omega), Nat.add_sub_cancel_left,
    hinst, hrest, if_pos hoff]

theorem vmemAddr_mod_32 (v a : Nat) : vmemAddr v a % 32 = a % 32 := by
  unfold vmemAddr vmemBase
  omega

/-- The granules of local memory lie beside DRAM. -/
theorem vmemGran_beside_dram {v a k : Nat} (hv : v < vcoreCount) (h : 32 * (a / 32) + 32 * k < 0x400000) (c o : Nat) :
    placeOf (32 * (vmemAddr v a / 32 + k)) ≠ .dram c o := by
  have haddr : 32 * (vmemAddr v a / 32 + k) = vmemAddr v (32 * (a / 32) + 32 * k) := by
    unfold vmemAddr vmemBase
    omega
  rw [haddr, placeOf_vmemAddr hv h]
  exact Place.noConfusion

/-! ## Writes inside one granule -/

/-- A write of a part of a clean granule beside DRAM: the granule is read, merged and stored with fresh check bits. -/
theorem memWrite_inside {s : State} {a : Nat} {l : List Byte} (rq : Bool) (hne : l ≠ []) (hlt : l.length < 32)
    (hfit : a % 32 + l.length ≤ 32) (hclean : spanClean s a l.length) (hd : ∀ c o, placeOf (32 * (a / 32)) ≠ .dram c o) :
    memWrite s a l rq = (rawWrite (freshGranules s (a / 32) 1) (32 * (a / 32))
      (splice (rawRead s (32 * (a / 32)) 32) (a % 32) l), false) := by
  have hpos := List.length_pos_iff.mpr hne
  obtain ⟨hc, hl⟩ := hclean (a / 32) (mem_granulesOf.mpr ⟨by omega, by omega, by omega⟩)
  have hmerge : granuleMerge s (a / 32) (a % 32) l rq = (rawWrite (freshGranules s (a / 32) 1) (32 * (a / 32))
      (splice (rawRead s (32 * (a / 32)) 32) (a % 32) l), false) := by
    rw [granuleMerge, if_neg (by omega), granuleRead_clean hc hl]
    dsimp only
    rw [if_neg Bool.false_ne_true, granuleWrite_beside_dram s hd]
    rfl
  have htake : l.take (32 - a % 32) = l := List.take_of_length_le (by omega)
  have hdrop : l.drop (32 - a % 32) = [] := List.drop_of_length_le (by omega)
  rw [memWrite, memWriteGo, if_neg hne]
  dsimp only
  rw [htake, hdrop, hmerge, memWriteGo, if_pos rfl]
  rfl

/-! ## What a V-core's own store leaves -/

/-- Only stored bytes, their check bits and write-backs, and the V-core's signature and busy units differ; a clean granule
stays clean. -/
structure VecStores (v : Nat) (s t : State) : Prop where
  frame : t = { s with mem := t.mem, synd := t.synd, writeBacks := t.writeBacks, vcores := t.vcores }
  core : vc t v = { vc s v with sig := (vc t v).sig, busy := (vc t v).busy }
  inv : Inv s → Inv t
  clean : ∀ i, granuleClass s i = .clean → granuleClass t i = .clean

section
variable {v : Nat} {s t u : State}

theorem VecStores.refl (v : Nat) (s : State) : VecStores v s s := ⟨rfl, rfl, id, fun _ h => h⟩

theorem VecStores.trans (h1 : VecStores v s t) (h2 : VecStores v t u) : VecStores v s u where
  frame := by rw [h2.frame, h1.frame]
  core := by rw [h2.core, h1.core]
  inv h := h2.inv (h1.inv h)
  clean i hi := h2.clean i (h1.clean i hi)

theorem VecStores.spanClean (h : VecStores v s t) {a n : Nat} (hs : spanClean s a n) : spanClean t a n := by
  intro i hi
  obtain ⟨hc, hl⟩ := hs i hi
  refine ⟨h.clean i hc, ?_⟩
  rw [h.frame]
  exact hl

/-- A store that follows its issue leaves the V-core issued, its registers as before, and no facet register changed. -/
theorem VecStores.issued (h : VecStores v (vecIssue s v) t) : VecIssued s t v ((vc s v).pc + 1) ∧ VecSame s t v ∧ t.regs = s.regs := by
  refine ⟨?_, ?_, ?_⟩
  · rw [VecIssued, h.core, vecIssue_vc]
    exact ⟨rfl, rfl, rfl⟩
  · rw [VecSame, h.core, vecIssue_vc]
    exact ⟨rfl, rfl⟩
  · rw [h.frame]
    rfl

end

/-- Signature records change no memory. -/
theorem foldl_vcSig_mem (s : State) (v : Nat) (gs : List Nat) : (gs.foldl (fun s i => vcSig s v i) s).mem = s.mem :=
  List.foldlRecOn (motive := fun t : State => t.mem = s.mem) _ _ rfl fun _ ht _ _ => ht

theorem vcSig_mem (s : State) (v i : Nat) : (vcSig s v i).mem = s.mem := rfl

theorem vecStores_vcSig (s : State) (v i : Nat) : VecStores v s (vcSig s v i) :=
  ⟨rfl, by simp [vcSig], fun h => ⟨h.mem, h.synd, h.regs⟩, fun _ h => h⟩

theorem vecStores_foldl_vcSig (s : State) (v : Nat) (gs : List Nat) : VecStores v s (gs.foldl (fun s i => vcSig s v i) s) :=
  List.foldlRecOn (motive := VecStores v s) _ _ (VecStores.refl v s) fun t ht i _ => ht.trans (vecStores_vcSig t v i)

theorem vecStores_vcSigSpan (s : State) (v a n : Nat) : VecStores v s (vcSigSpan s v a n) := vecStores_foldl_vcSig s v _

theorem vcSigSpan_mem (s : State) (v a n : Nat) : (vcSigSpan s v a n).mem = s.mem := foldl_vcSig_mem s v _

theorem holdUnit_mem (s : State) (v u n : Nat) : (holdUnit s v u n).mem = s.mem := rfl

theorem vecStores_holdUnit (s : State) (v u n : Nat) : VecStores v s (holdUnit s v u n) :=
  ⟨rfl, by simp [holdUnit], fun h => ⟨h.mem, h.synd, h.regs⟩, fun _ h => h⟩

theorem freshGranules_frame (s : State) (i n : Nat) :
    freshGranules s i n = { s with synd := (freshGranules s i n).synd, writeBacks := (freshGranules s i n).writeBacks } :=
  List.foldlRecOn (motive := fun t : State => t = { s with synd := t.synd, writeBacks := t.writeBacks }) _ _ rfl
    fun t ht j _ => by rw [ht]; rfl

theorem vecStores_freshWrite {s : State} (v i n a : Nat) (l : List Byte) (hinv : Inv s) :
    VecStores v s (rawWrite (freshGranules s i n) a l) where
  frame := by rw [freshGranules_frame]; rfl
  core := by rw [freshGranules_frame]; rfl
  inv _ := (hinv.freshGranules i n).rawWrite a l
  clean := (storesOnly_freshGranules 0 i n hinv).clean

/-! ## Local memory after a store -/

/-- A store of V-core `v` has put the bytes `l` at device address `a`, and every other byte is as before. -/
structure VecStored (v a : Nat) (l : List Byte) (s t : State) : Prop where
  stores : VecStores v s t
  bytes : rawRead t a l.length = l
  rest : sameMemBut a l.length s t

/-- What changes the V-core alone afterwards leaves the bytes stored. -/
theorem VecStored.trans_of_mem_eq {v a : Nat} {l : List Byte} {s t u : State} (h : VecStored v a l s t) (hu : VecStores v t u)
    (hmem : u.mem = t.mem) : VecStored v a l s u where
  stores := h.stores.trans hu
  bytes := (rawRead_congr _ _ fun _ _ _ => by rw [hmem]).trans h.bytes
  rest x hx := by rw [hmem, h.rest x hx]

/-- A store that follows its issue: what it leaves, with the number of its bytes. -/
theorem VecStored.after_issue {v a n : Nat} {l : List Byte} {s t : State} (h : VecStored v a l (vecIssue s v) t) (hlen : l.length = n) :
    VecIssued s t v ((vc s v).pc + 1) ∧ VecSame s t v ∧ rawRead t a n = l ∧ sameMemBut a n s t ∧ t.regs = s.regs := by
  obtain ⟨hissued, hsame, hregs⟩ := h.stores.issued
  subst hlen
  exact ⟨hissued, hsame, h.bytes, h.rest, hregs⟩

/-- Merged into the bytes that stand around them and stored, bytes read back, and the bytes around them stay. -/
theorem vecStored_splice {s : State} (v i : Nat) {o : Nat} {l : List Byte} (hinv : Inv s) (hfit : o + l.length ≤ 32) :
    VecStored v (32 * i + o) l s (rawWrite (freshGranules s i 1) (32 * i) (splice (rawRead s (32 * i) 32) o l)) := by
  have hlen : (splice (rawRead s (32 * i) 32) o l).length = 32 := by rw [splice_length, rawRead_length]; simpa using hfit
  have hfresh := hinv.freshGranules i 1
  refine ⟨vecStores_freshWrite v i 1 _ _ hinv, ?_, fun x hx => ?_⟩
  · have hback := rawRead_rawWrite (32 * i) (splice (rawRead s (32 * i) 32) o l) hfresh.mem
    rw [hlen] at hback
    rw [← rawRead_drop_take _ hfit, hback]
    exact take_drop_splice l (by rw [rawRead_length]; omega)
  · rw [rawWrite_mem]
    by_cases hin : 32 * i ≤ x ∧ x < 32 * i + 32
    · obtain ⟨j, rfl⟩ := Nat.exists_eq_add_of_le hin.1
      have hsame : (splice (rawRead s (32 * i) 32) o l)[j]? = (rawRead s (32 * i) 32)[j]? :=
        getElem?_splice_out (by rw [rawRead_length]; exact hfit) (by omega)
      rw [List.getElem?_eq_getElem (by omega), List.getElem?_eq_getElem (by rw [rawRead_length]; omega), Option.some_inj] at hsame
      rw [Memory.get_setBytes_in _ _ _ hfresh.mem (by omega), hsame]
      simp [rawRead]
    · rw [Memory.get_setBytes_out _ _ _ _ (by omega), freshGranules_mem]

section
variable {s : State} {v a : Nat} {l : List Byte} (hinv : Inv s) (hv : v < vcoreCount) (hend : a + l.length ≤ 0x400000)
include hinv hv hend

/-- A store inside one clean granule of local memory. -/
theorem vecStored_lmWrite_inside (hne : l ≠ []) (hlt : l.length < 32) (hfit : a % 32 + l.length ≤ 32)
    (hclean : spanClean s (vmemAddr v a) l.length) : VecStored v (vmemAddr v a) l s (lmWrite s v a l) := by
  have hpos := List.length_pos_iff.mpr hne
  rw [← vmemAddr_mod_32 v a] at hfit
  have hgran := vmemGran_beside_dram (a := a) (k := 0) hv (by omega)
  rw [Nat.add_zero] at hgran
  rw [lmWrite, memWrite_inside false hne hlt hfit hclean hgran]
  have hstored := vecStored_splice v (vmemAddr v a / 32) hinv hfit
  rwa [Nat.div_add_mod] at hstored

/-- A store of whole granules of local memory. -/
theorem vecStored_lmWrite_whole {n : Nat} (halign : a % 32 = 0) (hn : l.length = 32 * n) :
    VecStored v (vmemAddr v a) l s (lmWrite s v a l) := by
  have haddr : vmemAddr v a = 32 * (vmemAddr v a / 32) := by have := vmemAddr_mod_32 v a; omega
  have hwrite : lmWrite s v a l = rawWrite (freshGranules s (vmemAddr v a / 32) n) (vmemAddr v a) l := by
    have hwhole := memWrite_whole n s (vmemAddr v a / 32) l false hn fun k hk => vmemGran_beside_dram hv (by omega)
    rw [← haddr] at hwhole
    rw [lmWrite, hwhole]
  rw [hwrite]
  refine ⟨vecStores_freshWrite v _ n _ l hinv, rawRead_rawWrite _ l (hinv.freshGranules _ n).mem, fun x hx => ?_⟩
  rw [rawWrite_mem, Memory.get_setBytes_out _ _ _ _ hx, freshGranules_mem]

end

theorem localOk_iff {a n align : Nat} : localOk a n align = true ↔ a % align = 0 ∧ a + n ≤ 0x400000 := by
  rw [localOk, Bool.and_eq_true, decide_eq_true_iff, decide_eq_true_iff, lmemSize]

end Sys2Proof.Machine
end

section
/-! PROOFS. SST, VST and VSCATTER (R198, R204, R206). -/

namespace Sys2Proof.Machine

/-! ## SST and VST -/

theorem Inv.vecIssue {s : State} (v : Nat) (h : Inv s) : Inv (vecIssue s v) := ⟨h.mem, h.synd, h.regs⟩

/-- The issue of an instruction is beside memory. -/
theorem spanClean_vecIssue {s : State} (v : Nat) {a n : Nat} (h : spanClean s a n) : spanClean (vecIssue s v) a n := by
  intro i hi
  obtain ⟨hc, hl⟩ := h i hi
  exact ⟨hc, hl⟩

section
variable {s : State} {v sa a : Nat}

theorem execSst_local {sd : Nat} {imm : Int} (h : VecMay s v (.sst sd sa imm) [sd, sa] [] []) (ha : ea (sreg (vc s v) sa) imm = a)
    (hok : localOk a 8 8 = true) :
    exec (.sst v sd sa imm) s = .next (vcSig (lmWrite (vecIssue s v) v a (leBytes 8 (sreg (vc s v) sd))) v (vmemAddr v a / 32)) := by
  change execSst v sd sa imm s = _
  rw [execSst, onUnit_lt h.1, vecGo_may _ h, ha, if_pos hok, vecIssue_sreg]

theorem execVst_local {vd : Nat} {off : Int} (h : VecMay s v (.vst vd sa off) [sa] [vd] [])
    (ha : ea (sreg (vc s v) sa) (32 * off) = a) (hok : localOk a 256 32 = true) :
    exec (.vst v vd sa off) s = .next (vcSigSpan
      (lmWrite (vecIssue s v) v a (leBytes 256 (vreg (vc s v) vd).toNat)) v (vmemAddr v a) 256) := by
  change execVst v vd sa off s = _
  rw [execVst, onUnit_lt h.1, vecGo_may _ h, ha, if_pos hok, vecIssue_vreg]

/-- SST stores its register's bytes, in one granule, and enters that granule in the signature. -/
theorem sst_stores {sd : Nat} {imm : Int} (hinv : Inv s) (h : VecMay s v (.sst sd sa imm) [sd, sa] [] [])
    (ha : ea (sreg (vc s v) sa) imm = a) (halign : a % 8 = 0) (hend : a + 8 ≤ 0x400000) (hclean : spanClean s (vmemAddr v a) 8) :
    ∃ t, exec (.sst v sd sa imm) s = .next t ∧ VecIssued s t v ((vc s v).pc + 1) ∧ VecSame s t v
      ∧ rawRead t (vmemAddr v a) 8 = leBytes 8 (sreg (vc s v) sd) ∧ sameMemBut (vmemAddr v a) 8 s t ∧ t.regs = s.regs := by
  have hexec := execSst_local h ha (localOk_iff.mpr ⟨halign, hend⟩)
  have hlen := leBytes_length 8 (sreg (vc s v) sd)
  generalize leBytes 8 (sreg (vc s v) sd) = l at hexec hlen ⊢
  have hwritten : VecStored v (vmemAddr v a) l (vecIssue s v) (lmWrite (vecIssue s v) v a l) :=
    vecStored_lmWrite_inside (hinv.vecIssue v) h.1 (by omega) (List.ne_nil_of_length_pos (by omega)) (by omega) (by omega)
      (by rw [hlen]; exact spanClean_vecIssue v hclean)
  exact ⟨_, hexec, (hwritten.trans_of_mem_eq (vecStores_vcSig _ _ _) (vcSig_mem _ _ _)).after_issue hlen⟩

/-- VST stores its register's bytes, eight whole granules, and enters each in the signature. -/
theorem vst_stores {vd : Nat} {off : Int} (hinv : Inv s) (h : VecMay s v (.vst vd sa off) [sa] [vd] [])
    (ha : ea (sreg (vc s v) sa) (32 * off) = a) (halign : a % 32 = 0) (hend : a + 256 ≤ 0x400000) :
    ∃ t, exec (.vst v vd sa off) s = .next t ∧ VecIssued s t v ((vc s v).pc + 1) ∧ VecSame s t v
      ∧ rawRead t (vmemAddr v a) 256 = leBytes 256 (vreg (vc s v) vd).toNat ∧ sameMemBut (vmemAddr v a) 256 s t ∧ t.regs = s.regs := by
  have hexec := execVst_local h ha (localOk_iff.mpr ⟨halign, hend⟩)
  have hlen := leBytes_length 256 (vreg (vc s v) vd).toNat
  generalize leBytes 256 (vreg (vc s v) vd).toNat = l at hexec hlen ⊢
  have hwritten : VecStored v (vmemAddr v a) l (vecIssue s v) (lmWrite (vecIssue s v) v a l) :=
    vecStored_lmWrite_whole (n := 8) (hinv.vecIssue v) h.1 (by omega) halign hlen
  exact ⟨_, hexec, (hwritten.trans_of_mem_eq (vecStores_vcSigSpan _ _ _ _) (vcSigSpan_mem _ _ _ _)).after_issue hlen⟩

end

/-! ## VSCATTER -/

/-- Elements of `w` bytes stored one after another, each an address with its value (R206). -/
def storeElems (s : State) (v w : Nat) (l : List (Nat × Nat)) : State :=
  l.foldl (fun s p => lmWrite s v p.1 (leBytes w p.2)) s

/-- The stored elements: where an address comes again the later element is left, and every byte of no element is as before. -/
structure ElemsStored (v w : Nat) (l : List (Nat × Nat)) (s t : State) : Prop where
  stores : VecStores v s t
  last : ∀ (k : Nat) (p : Nat × Nat), l[k]? = some p → (∀ (j : Nat) (q : Nat × Nat), k < j → l[j]? = some q → q.1 ≠ p.1) → rawRead t (vmemAddr v p.1) w = leBytes w p.2
  rest : ∀ x, (∀ p ∈ l, x < vmemAddr v p.1 ∨ vmemAddr v p.1 + w ≤ x) → Memory.get t.mem x = Memory.get s.mem x

/-- Elements have 1, 2, 4 or 8 bytes (R194). -/
theorem vWidth_bytes (ty : Nat) : vWidth ty / 8 = 1 ∨ vWidth ty / 8 = 2 ∨ vWidth ty / 8 = 4 ∨ vWidth ty / 8 = 8 := by
  unfold vWidth
  split <;> decide

section
variable {v w : Nat} (hw : w = 1 ∨ w = 2 ∨ w = 4 ∨ w = 8)
include hw

/-- An aligned element lies in one granule. -/
theorem vecStored_elem {s : State} {a : Nat} (x : Nat) (hinv : Inv s) (hv : v < vcoreCount) (halign : a % w = 0)
    (hend : a + w ≤ 0x400000) (hclean : spanClean s (vmemAddr v a) w) :
    VecStored v (vmemAddr v a) (leBytes w x) s (lmWrite s v a (leBytes w x)) := by
  have hlen := leBytes_length w x
  have hfit : a % 32 + w ≤ 32 := by rcases hw with rfl | rfl | rfl | rfl <;> omega
  refine vecStored_lmWrite_inside hinv hv (by omega) ?_ (by omega) (by omega) (by rwa [hlen])
  exact List.ne_nil_of_length_pos (by omega)

/-- Two aligned elements share their address or lie apart. -/
theorem elems_apart {a b : Nat} (ha : a % w = 0) (hb : b % w = 0) (hne : b ≠ a) :
    vmemAddr v a + w ≤ vmemAddr v b ∨ vmemAddr v b + w ≤ vmemAddr v a := by
  unfold vmemAddr
  rcases hw with rfl | rfl | rfl | rfl <;> omega

theorem elemsStored_storeElems (hv : v < vcoreCount) (l : List (Nat × Nat)) {s : State} (hinv : Inv s)
    (hl : ∀ p ∈ l, p.1 % w = 0 ∧ p.1 + w ≤ 0x400000 ∧ spanClean s (vmemAddr v p.1) w) :
    ElemsStored v w l s (storeElems s v w l) := by
  induction l generalizing s with
  | nil => exact ⟨VecStores.refl v s, fun _ _ h => (nomatch h), fun _ _ => rfl⟩
  | cons p l ih =>
    obtain ⟨halign, hend, hclean⟩ := hl p List.mem_cons_self
    have hfirst := vecStored_elem hw p.2 hinv hv halign hend hclean
    have hothers := ih (hfirst.stores.inv hinv) fun q hq =>
      have ⟨ha, he, hc⟩ := hl q (List.mem_cons_of_mem _ hq)
      ⟨ha, he, hfirst.stores.spanClean hc⟩
    have hbytes := hfirst.bytes
    have houtside := hfirst.rest
    rw [sameMemBut, leBytes_length] at houtside
    rw [leBytes_length] at hbytes
    refine ⟨hfirst.stores.trans hothers.stores, fun k q hk hlast => ?_, fun x hx => ?_⟩
    · cases k with
      | zero =>
        obtain rfl : p = q := by simpa using hk
        refine (rawRead_congr _ _ fun x hlo hhi => hothers.rest x fun r hr => ?_).trans hbytes
        obtain ⟨j, hj⟩ := List.mem_iff_getElem?.mp hr
        have hapart := elems_apart (v := v) hw halign (hl r (List.mem_cons_of_mem _ hr)).1 (hlast (j + 1) r (by omega) hj)
        omega
      | succ k => exact hothers.last k q hk fun j r hj hr => hlast (j + 1) r (by omega) hr
    · refine (hothers.rest x fun r hr => hx r (List.mem_cons_of_mem _ hr)).trans (houtside x (hx p List.mem_cons_self))

end

/-- The granules that a scatter writes, once each, ascending (R206, R588). -/
def scatterGranules (v : Nat) (as : List Nat) : List Nat :=
  (as.foldl (fun acc a => Assoc.put (vmemAddr v a / 32) (some ()) acc) ([] : List (Nat × Unit))).map Prod.fst

/-- A scatter of elements that are all aligned and in local memory: after the stores come signature records and the unit's
busy time. -/
theorem execVscatter_local {s : State} {v vd sa vb ty : Nat} (h : VecMay s v (.vscatter vd sa vb ty) [sa] [vd, vb] [uGather])
    (hok : ∀ a ∈ elemAddrs (sreg (vc s v) sa) ty (vreg (vc s v) vb), localOk a (vWidth ty / 8) (vWidth ty / 8) = true) :
    exec (.vscatter v vd sa vb ty) s = .next (holdUnit
      (List.foldl (fun s i => vcSig s v i)
        (storeElems (vecIssue s v) v (vWidth ty / 8)
          ((elemAddrs (sreg (vc s v) sa) ty (vreg (vc s v) vb)).zip (vElems ty (vreg (vc s v) vd))))
        (scatterGranules v (elemAddrs (sreg (vc s v) sa) ty (vreg (vc s v) vb)))) v uGather (ceilDiv (vCount ty) 8)) := by
  have hbad : badElem ty (elemAddrs (sreg (vc s v) sa) ty (vreg (vc s v) vb)) = none :=
    List.find?_eq_none.mpr fun a ha => by rw [hok a ha]; decide
  change execVscatter v vd sa vb ty s = _
  rw [execVscatter, onUnit_lt h.1, vecGo_may _ h]
  dsimp only
  rw [hbad]
  rfl

theorem getElem?_eq_some_nth {l : List Nat} {k : Nat} (h : k < l.length) : l[k]? = some (nth l k) := by
  rw [nth, List.getD_eq_getElem?_getD, List.getElem?_eq_getElem h, Option.getD_some]

theorem nth_eq_of_getElem? {l : List Nat} {k x : Nat} (h : l[k]? = some x) : nth l k = x := by
  rw [nth, List.getD_eq_getElem?_getD, h, Option.getD_some]

/-- What changes the V-core alone afterwards leaves the elements stored. -/
theorem ElemsStored.trans_of_mem_eq {v w : Nat} {l : List (Nat × Nat)} {s t u : State} (h : ElemsStored v w l s t)
    (hu : VecStores v t u) (hmem : u.mem = t.mem) : ElemsStored v w l s u where
  stores := h.stores.trans hu
  last k p hk hlast := (rawRead_congr _ _ fun _ _ _ => by rw [hmem]).trans (h.last k p hk hlast)
  rest x hx := by rw [hmem, h.rest x hx]

/-- Of the elements with one address, the one of the highest index is left (R206). -/
theorem ElemsStored.highest {v w : Nat} {as xs : List Nat} {s t : State} (h : ElemsStored v w (as.zip xs) s t)
    (hlen : as.length = xs.length) {k : Nat} (hk : k < as.length) (hlast : ∀ j, k < j → j < as.length → nth as j ≠ nth as k) :
    rawRead t (vmemAddr v (nth as k)) w = leBytes w (nth xs k) := by
  have helem : (as.zip xs)[k]? = some (nth as k, nth xs k) :=
    List.getElem?_zip_eq_some.mpr ⟨getElem?_eq_some_nth hk, getElem?_eq_some_nth (hlen ▸ hk)⟩
  refine h.last k _ helem fun j q hj hq => ?_
  obtain ⟨haddr, -⟩ := List.getElem?_zip_eq_some.mp hq
  have hjlen : j < as.length := (List.getElem?_eq_some_iff.mp haddr).1
  have hne := hlast j hj hjlen
  rwa [nth_eq_of_getElem? haddr] at hne

/-- Every byte of no element is as before. -/
theorem ElemsStored.rest_of_addrs {v w : Nat} {as xs : List Nat} {s t : State} (h : ElemsStored v w (as.zip xs) s t) {x : Nat}
    (hx : ∀ a ∈ as, x < vmemAddr v a ∨ vmemAddr v a + w ≤ x) : Memory.get t.mem x = Memory.get s.mem x :=
  h.rest x fun _ hp => hx _ (List.of_mem_zip hp).1

/-- VSCATTER stores its elements in order, and then enters their granules in the signature. -/
theorem vscatter_stores {s : State} {v vd sa vb ty : Nat} (hinv : Inv s) (h : VecMay s v (.vscatter vd sa vb ty) [sa] [vd, vb] [uGather])
    (has : ∀ a ∈ elemAddrs (sreg (vc s v) sa) ty (vreg (vc s v) vb),
      a % (vWidth ty / 8) = 0 ∧ a + vWidth ty / 8 ≤ 0x400000 ∧ spanClean s (vmemAddr v a) (vWidth ty / 8)) :
    ∃ t, exec (.vscatter v vd sa vb ty) s = .next t ∧ ElemsStored v (vWidth ty / 8)
      ((elemAddrs (sreg (vc s v) sa) ty (vreg (vc s v) vb)).zip (vElems ty (vreg (vc s v) vd))) (vecIssue s v) t := by
  have hexec := execVscatter_local h fun a ha => localOk_iff.mpr ⟨(has a ha).1, (has a ha).2.1⟩
  have helems := elemsStored_storeElems (vWidth_bytes ty) h.1
    ((elemAddrs (sreg (vc s v) sa) ty (vreg (vc s v) vb)).zip (vElems ty (vreg (vc s v) vd))) (hinv.vecIssue v)
    fun p hp =>
      have ⟨ha, he, hc⟩ := has p.1 (List.of_mem_zip hp).1
      ⟨ha, he, spanClean_vecIssue v hc⟩
  exact ⟨_, hexec, (helems.trans_of_mem_eq (vecStores_foldl_vcSig _ v _) (foldl_vcSig_mem _ v _)).trans_of_mem_eq
    (vecStores_holdUnit _ v _ _) (holdUnit_mem _ v _ _)⟩

/-- Settles O10: SST stores inside one granule and VST over whole granules; for VSCATTER the elements are stored one after
another (`elemsStored_storeElems`), two that differ in address being apart. -/
theorem vcoreStores : Obligations.VcoreStores := by
  refine ⟨⟨fun s v sd sa imm hinv h halign hend hclean => ?sst, fun s v vd sa off hinv h halign hend => ?vst⟩,
    fun s v vd sa vb ty hinv h has => ?vscatter⟩
  case sst => exact sst_stores hinv h rfl halign hend hclean
  case vst => exact vst_stores hinv h rfl halign hend
  case vscatter =>
    obtain ⟨t, hexec, helems⟩ := vscatter_stores hinv h has
    obtain ⟨hissued, hsame, hregs⟩ := helems.stores.issued
    have hlen : (elemAddrs (sreg (vc s v) sa) ty (vreg (vc s v) vb)).length = (vElems ty (vreg (vc s v) vd)).length := by
      simp [elemAddrs, vElems]
    exact ⟨t, hexec, hissued, hsame, hregs, fun k hk hlast => helems.highest hlen hk hlast, fun x hx => helems.rest_of_addrs hx⟩

end Sys2Proof.Machine
end

section
/-! SUPPORT. What the raising of a frame fault leaves (R559-R573): the position of the boundary slot's actions, every register
but error summaries and the frame timer's, and every error flag that was set. -/

namespace Sys2Proof.Machine

theorem onlyReported.kv {s t : State} (h : onlyReported s t) : t.kv = s.kv := by rw [h]

/-- Of the state, only what a report changes differs, and of that neither the boundary slot's position nor a register apart
from error summaries and the frame timer's own; an error flag that was set stays set. -/
structure Raised (s t : State) : Prop where
  reported : onlyReported s t
  doneStage : t.ft.doneStage = s.ft.doneStage
  reg : ∀ b o, b ≠ blk Ty.FTIMER 0 → o < 4096 → o ≠ Off.ERR_SUMMARY → getReg t b o = getReg s b o
  inv : Inv s → Inv t
  flag : Inv s → ∀ b j, j < 32 → (errSummary s b).testBit j = true → (errSummary t b).testBit j = true

theorem Raised.refl (s : State) : Raised s s := ⟨rfl, rfl, fun _ _ _ _ _ => rfl, id, fun _ _ _ _ h => h⟩

theorem Raised.trans {s t u : State} (h1 : Raised s t) (h2 : Raised t u) : Raised s u where
  reported := h1.reported.trans h2.reported
  doneStage := h2.doneStage.trans h1.doneStage
  reg b o hb ho he := (h2.reg b o hb ho he).trans (h1.reg b o hb ho he)
  inv h := h2.inv (h1.inv h)
  flag h b j hj hset := h2.flag (h1.inv h) b j hj (h1.flag h b j hj hset)

/-- A change that no register sees. -/
theorem raised_of_regs {s t : State} (h : onlyReported s t) (hdone : t.ft.doneStage = s.ft.doneStage) (hregs : t.regs = s.regs)
    (hinv : Inv s → Inv t) : Raised s t where
  reported := h
  doneStage := hdone
  reg b o _ _ _ := getReg_congr hregs b o
  inv := hinv
  flag _ b j _ hset := by rwa [errSummary, getReg_congr hregs]

theorem raised_setChord (s : State) (f : Chord → Chord) : Raised s (setChord s f) :=
  raised_of_regs rfl rfl rfl fun h => ⟨h.mem, h.synd, h.regs⟩

theorem raised_chordSend (s : State) (k : ChordKind) (a b c d : Nat) (e : Bool) : Raised s (chordSend s k a b c d e) := by
  unfold chordSend
  exact raised_setChord s _

theorem raised_pins (s : State) (p : Pins) : Raised s { s with pins := p } :=
  raised_of_regs rfl rfl rfl fun h => ⟨h.mem, h.synd, h.regs⟩

theorem raised_setFt (s : State) {f : FTimer → FTimer} (hf : (f s.ft).doneStage = s.ft.doneStage) : Raised s (setFt s f) :=
  raised_of_regs rfl hf rfl fun h => ⟨h.mem, h.synd, h.regs⟩

/-- A register of the frame timer beside its error summary is written. -/
theorem raised_setReg_ftimer (s : State) {o : Nat} (v : Nat) (ho : o < 4096) (he : o ≠ Off.ERR_SUMMARY) :
    Raised s (setReg s (blk Ty.FTIMER 0) o v) where
  reported := onlyReported_setReg s _ _ _
  doneStage := rfl
  reg b o' hb ho' _ := getReg_setReg_ne _ _ _ b o' ho ho' (by simp [hb])
  inv := Inv.setReg _ _ _
  flag _ b j _ hset := by
    rwa [errSummary, getReg_setReg_ne _ _ _ b _ ho (by decide) (by simp [Ne.symm he])]

theorem raised_setErr (s : State) (b i : Nat) : Raised s (setErr s b i) where
  reported := onlyReported_setErr s b i
  doneStage := by rw [setErr_frame]
  reg b' o _ ho he := getReg_setErr s b i b' o ho he
  inv := Inv.setErr b i
  flag h b' j hj hset := errSummary_setErr_mono b i b' j h.regs hj hset

theorem raised_markFaulted (s : State) : Raised s (markFaulted s) := by
  unfold markFaulted
  split
  · exact raised_setFt s rfl
  · exact raised_setFt s rfl

theorem raised_recordFault (s : State) (l : Bool) (c r n u f : Nat) : Raised s (recordFault s l c r n u f) := by
  unfold recordFault
  extract_lets ft s1 s2 s3 s4
  split
  · exact Raised.refl s
  · exact (raised_setReg_ftimer s _ (by decide) (by decide)).trans <| (raised_setReg_ftimer s1 _ (by decide) (by decide)).trans <|
      (raised_setReg_ftimer s2 _ (by decide) (by decide)).trans <| (raised_setReg_ftimer s3 _ (by decide) (by decide)).trans <|
      raised_setErr s4 _ _

theorem raised_haltFrom (s : State) (c n t : Nat) : Raised s (haltFrom s c n t) := by
  unfold haltFrom nodeFrom copiesBelow
  exact List.foldlRecOn (motive := Raised s) _ _ (raised_setChord s _) fun _ h _ _ => h.trans (raised_setChord _ _)

theorem raised_haltSend (s : State) : Raised s (haltSend s) := by
  unfold haltSend
  split
  · split
    · exact (raised_pins s _).trans <| (raised_setChord _ _).trans (raised_haltFrom _ _ _ _)
    · exact Raised.refl s
  · exact Raised.refl s

theorem raised_lowerUnit (s : State) (c u f t : Nat) : Raised s (lowerUnit s c u f t) := by
  unfold lowerUnit setRegField
  extract_lets ft info s1 s2
  split
  · exact (raised_setReg_ftimer s _ (by decide) (by decide)).trans <| (raised_setReg_ftimer s1 _ (by decide) (by decide)).trans <|
      (raised_setReg_ftimer s2 _ (by decide) (by decide)).trans (raised_setReg_ftimer _ _ (by decide) (by decide))
  · exact Raised.refl s

theorem raised_rootHalt (s : State) (l : Bool) (c r n u f d : Nat) : Raised s (rootHalt s l c r n u f d) := by
  unfold rootHalt rootSend
  split
  · exact Raised.refl s
  · exact (raised_recordFault s l c r n u f).trans <| (raised_setFt _ rfl).trans <| (raised_setChord _ _).trans (raised_haltSend _)

theorem raised_localHalt (s : State) (b c f t d : Nat) : Raised s (localHalt s b c f t d) := by
  unfold localHalt
  dsimp only
  split
  · exact raised_lowerUnit _ _ _ _ _
  · refine Raised.trans ?_ (raised_rootHalt _ _ _ _ _ _ _ _)
    split
    · exact raised_setFt s rfl
    · exact Raised.refl s

theorem raised_raiseFault (s : State) (b c : Nat) : Raised s (raiseFault s b c) := by
  unfold raiseFault
  split
  · refine (raised_markFaulted s).trans ?_
    dsimp only
    split
    · exact raised_localHalt _ _ _ _ _ _
    · exact raised_chordSend _ _ _ _ _ _ _
  · exact Raised.refl s

theorem raised_errFault (s : State) (b i c : Nat) : Raised s (errFault s b i c) :=
  (raised_setErr s b i).trans (raised_raiseFault _ _ _)

theorem errSummary_errFault {s : State} (b : Nat) {i : Nat} (c : Nat) (h : Inv s) (hi : i < 32) :
    (errSummary (errFault s b i c) b).testBit i = true :=
  (raised_raiseFault _ b c).flag (h.setErr b i) b i hi (errSummary_setErr b i h.regs hi)

end Sys2Proof.Machine
end

section
/-! SUPPORT. What a write of device memory leaves of the units (R638): it may report its granules and draws free values. -/

namespace Sys2Proof.Machine

/-- The prefix engine but its signature, the cores and the position of the boundary slot's actions are as before. -/
structure UnitsKept (s t : State) : Prop where
  kv : t.kv = { s.kv with sig := t.kv.sig }
  mcores : t.mcores = s.mcores
  vcores : t.vcores = s.vcores
  doneStage : t.ft.doneStage = s.ft.doneStage
  inv : Inv s → Inv t

theorem UnitsKept.refl (s : State) : UnitsKept s s := ⟨rfl, rfl, rfl, rfl, id⟩

theorem UnitsKept.trans {s t u : State} (h1 : UnitsKept s t) (h2 : UnitsKept t u) : UnitsKept s u where
  kv := by rw [h2.kv, h1.kv]
  mcores := h2.mcores.trans h1.mcores
  vcores := h2.vcores.trans h1.vcores
  doneStage := h2.doneStage.trans h1.doneStage
  inv h := h2.inv (h1.inv h)

theorem UnitsKept.foldl {α : Type} {f : State → α → State} (hf : ∀ s x, UnitsKept s (f s x)) (s : State) (l : List α) :
    UnitsKept s (l.foldl f s) :=
  List.foldlRecOn (motive := UnitsKept s) _ _ (UnitsKept.refl s) fun t ht x _ => ht.trans (hf t x)

theorem Raised.unitsKept {s t : State} (h : Raised s t) : UnitsKept s t where
  kv := by rw [h.reported.kv]
  mcores := h.reported.mcores
  vcores := by rw [h.reported]
  doneStage := h.doneStage
  inv := h.inv

theorem unitsKept_setReg (s : State) (b o v : Nat) : UnitsKept s (setReg s b o v) := ⟨rfl, rfl, rfl, rfl, Inv.setReg b o v⟩

theorem unitsKept_setCol (s : State) (c : Nat) (f : Column → Column) : UnitsKept s (setCol s c f) :=
  ⟨rfl, rfl, rfl, rfl, fun h => ⟨h.mem, h.synd, h.regs⟩⟩

theorem unitsKept_rawWrite (s : State) (a : Nat) (l : List Byte) : UnitsKept s (rawWrite s a l) :=
  ⟨rfl, rfl, rfl, rfl, Inv.rawWrite a l⟩

theorem unitsKept_freshCheck (s : State) (i : Nat) : UnitsKept s (freshCheck s i) := ⟨rfl, rfl, rfl, rfl, Inv.freshCheck i⟩

theorem unitsKept_putSynd (s : State) (i : Nat) (x : Option Word) : UnitsKept s { s with synd := Assoc.put i x s.synd } :=
  ⟨rfl, rfl, rfl, rfl, fun h => ⟨h.mem, Assoc.sorted_put _ _ h.synd, h.regs⟩⟩

theorem unitsKept_setErr (s : State) (b i : Nat) : UnitsKept s (setErr s b i) := (raised_setErr s b i).unitsKept

theorem unitsKept_setErrIf (c : Bool) (s : State) (b i : Nat) : UnitsKept s (setErrIf c s b i) := by
  unfold setErrIf
  split
  · exact unitsKept_setErr s b i
  · exact UnitsKept.refl s

/-- A write-back queued (R261). -/
theorem unitsKept_writeBacks (s : State) (w : List Nat) : UnitsKept s { s with writeBacks := w } :=
  ⟨rfl, rfl, rfl, rfl, fun h => ⟨h.mem, h.synd, h.regs⟩⟩

theorem unitsKept_reportCorr (s : State) (i bit : Nat) (d : Bool) : UnitsKept s (reportCorr s i bit d) := by
  unfold reportCorr
  split
  next c off =>
    extract_lets b s1 s2 s3
    exact (unitsKept_setReg s _ _ _).trans <| (unitsKept_setReg s1 _ _ _).trans <| (unitsKept_setReg s2 _ _ _).trans <|
      (unitsKept_setCol s3 _ _).trans (unitsKept_setErr _ _ _)
  next => exact (unitsKept_setReg s _ _ _).trans (unitsKept_writeBacks _ _)
  next => exact (unitsKept_writeBacks s _).trans (unitsKept_setErr _ _ _)
  next => exact (unitsKept_writeBacks s _).trans (unitsKept_setErr _ _ _)
  next => exact UnitsKept.refl s

theorem unitsKept_reportUncorr (s : State) (i : Nat) : UnitsKept s (reportUncorr s i) := by
  unfold reportUncorr
  split
  next c off =>
    extract_lets b s1 s2
    exact (unitsKept_setReg s _ _ _).trans <| (unitsKept_setReg s1 _ _ _).trans (raised_errFault _ _ _ _).unitsKept
  next => exact (unitsKept_setReg s _ _ _).trans (raised_raiseFault _ _ _).unitsKept
  next => exact (raised_errFault _ _ _ _).unitsKept
  next => exact (raised_errFault _ _ _ _).unitsKept
  next => exact UnitsKept.refl s

theorem unitsKept_granuleRead (s : State) (i : Nat) : UnitsKept s (granuleRead s i).1 := by
  unfold granuleRead
  split
  · exact ⟨rfl, rfl, rfl, rfl, fun h => ⟨h.mem, h.synd, h.regs⟩⟩
  · split
    · exact UnitsKept.refl s
    · exact unitsKept_reportCorr s i _ _
    · exact unitsKept_reportCorr s i _ _
    · exact unitsKept_reportUncorr s i

theorem unitsKept_granuleWrite (s : State) (i : Nat) (d : List Byte) (rq : Bool) : UnitsKept s (granuleWrite s i d rq) := by
  unfold granuleWrite
  extract_lets s1
  have h1 : UnitsKept s s1 := unitsKept_freshCheck s i
  clear_value s1
  refine h1.trans ?_
  split
  · extract_lets b s2 f bits data sy s3 s4
    have h2 : UnitsKept s1 s2 := unitsKept_setCol s1 _ _
    refine h2.trans ?_
    split
    · exact (unitsKept_setReg s2 _ _ _).trans <| (unitsKept_rawWrite s3 _ _).trans (unitsKept_putSynd s4 _ _)
    · exact unitsKept_rawWrite _ _ _
  · exact unitsKept_rawWrite _ _ _

theorem unitsKept_granuleMerge (s : State) (i o : Nat) (l : List Byte) (rq : Bool) : UnitsKept s (granuleMerge s i o l rq).1 := by
  unfold granuleMerge
  split
  · exact unitsKept_granuleWrite _ _ _ _
  · have hread := unitsKept_granuleRead s i
    generalize granuleRead s i = x at hread ⊢
    obtain ⟨s1, d, u⟩ := x
    dsimp only at hread ⊢
    split
    · exact hread
    · exact hread.trans (unitsKept_granuleWrite _ _ _ _)

theorem unitsKept_memWriteGo (n : Nat) (s : State) (a : Nat) (l : List Byte) (rq : Bool) : UnitsKept s (memWriteGo n s a l rq).1 := by
  induction n generalizing s a l with
  | zero => exact UnitsKept.refl s
  | succ n ih =>
    rw [memWriteGo]
    split
    · exact UnitsKept.refl s
    · exact (unitsKept_granuleMerge s _ _ _ _).trans (ih _ _ _)

theorem unitsKept_memWrite (s : State) (a : Nat) (l : List Byte) (rq : Bool) : UnitsKept s (memWrite s a l rq).1 :=
  unitsKept_memWriteGo _ s a l rq

end Sys2Proof.Machine
end

section
/-! PROOFS. KV requests, their staging and errors, commits, ALLOC, copy ends and the flush (R374-R385). -/

namespace Sys2Proof.Machine

/-! ## Requests, staging, request errors -/

/-- A record for a frame from the current one to 64 ahead, within the limits and with an ORD of its own, is taken (R375-R377). -/
theorem kvRecord_taken {s : State} {b : List Byte} (hcfg : (kvCfg s).isSome = true) (hhalt : s.ft.halted = false)
    (hahead : frameAhead s.ft.frame (kvReqOf b).frame ≤ 64) (hframe : (kvOf s (kvReqOf b).frame).length < 4096)
    (hall : s.kv.reqs.length < 16384) (hord : ∀ x ∈ kvOf s (kvReqOf b).frame, x.ord ≠ (kvReqOf b).ord) :
    kvRecord s b = setKv s fun k =>
      { k with reqs := kvInsert { (kvReqOf b) with bad := if kvReserved b then 3 else 0 } k.reqs,
               waiting := k.waiting ++ [((kvReqOf b).frame, (kvReqOf b).ord)] } := by
  have hsome : (kvCfg s).isNone = false := by rw [← Option.not_isSome, hcfg]; rfl
  have hnew : (kvOf s (kvReqOf b).frame).any (fun x => x.ord == (kvReqOf b).ord) = false := by
    rw [List.any_eq_false]
    intro x hx
    simpa using hord x hx
  have hlast : decide (frameAhead s.ft.frame (kvReqOf b).frame = 2 ^ 48 - 1) = false := decide_eq_false (by omega)
  unfold kvRecord
  simp only [hsome, hlast, hhalt, hnew, Bool.false_and, Bool.false_eq_true, if_false]
  rw [if_neg (by omega)]

/-- With no copy waiting at hub port 12 the record is the command's own (R375). -/
theorem execKvRequest_direct {s : State} (rec : BitVec 256) (hup : hubUp s = true) (hout : (rtr s 32).outq = []) :
    exec (.kvRequest rec) s = .next (kvRecord s (leBytes 32 rec.toNat)) := by
  change execKvRequest rec s = _
  simp [execKvRequest, hup, hout]

theorem kvLook_of_sramClean {s : State} (h : sramClean s = true) (lines : List Nat) : kvLook s lines = s := by
  rw [kvLook, if_pos h]

/-- The oldest waiting request is staged once every line that it needs is there (R377). -/
theorem kvCc_stages {s : State} {n ord : Nat} {rest : List (Nat × Nat)} (hwait : s.kv.waiting = (n, ord) :: rest) (hasks : s.kv.asks = [])
    (hlines : ∀ l ∈ kvNeeds s n ord, l ∈ s.kv.lines ∨ l ∈ s.kv.got) (hclean : sramClean s = true) :
    kvCc s = setKv s fun k =>
      { k with waiting := rest, stagedAt := max s.now s.kv.stagedAt + 4, got := [],
               reqs := k.reqs.map fun r =>
                 if r.frame = n ∧ r.ord = ord ∧ r.staged = 0 then { r with staged := max s.now s.kv.stagedAt + 4 } else r } := by
  have hnone : (kvNeeds s n ord).filter (fun l => !s.kv.lines.contains l && !s.kv.got.contains l) = [] := by
    rw [List.filter_eq_nil_iff]
    intro l hl
    simpa [Classical.or_iff_not_imp_left] using hlines l hl
  unfold kvCc
  rw [hwait]
  simp only [hasks, hnone, kvLook_of_sramClean hclean, ne_eq, not_true_eq_false, if_false]

/-- A request error leaves its code and ORD in the engine's facet, and nothing of memory or of the engine changes (R376, R380). -/
theorem kvFault_reports {s : State} {code ord : Nat} (h : Inv s) (hcode : code < 256) (hord : ord < 2 ^ 32) :
    let t := kvFault s code ord
    t.kv = s.kv ∧ t.mem = s.mem ∧ getReg t prefixBlk Off.PREFIX_FAULT = code * 2 ^ 24 ∧ getReg t prefixBlk Off.PREFIX_FAULT_ORD = ord
      ∧ (errSummary t prefixBlk).testBit Err.PREFIX_REQ_FAULT = true := by
  unfold kvFault
  extract_lets s1
  have hcodeReg : Inv (setReg s prefixBlk Off.PREFIX_FAULT (code * 2 ^ 24)) := h.setReg _ _ _
  have h1 : Inv s1 := hcodeReg.setReg _ _ _
  have hraised := raised_errFault s1 prefixBlk Err.PREFIX_REQ_FAULT 0x24
  refine ⟨hraised.reported.kv, hraised.reported.mem, ?_, ?_, errSummary_errFault prefixBlk 0x24 h1 (by decide)⟩
  · rw [hraised.reg _ _ (by decide) (by decide) (by decide), getReg_setReg_ne _ _ _ _ _ (by decide) (by decide) (by decide),
      getReg_setReg_same _ _ _ h.regs, Nat.mod_eq_of_lt (by omega)]
  · rw [hraised.reg _ _ (by decide) (by decide) (by decide), getReg_setReg_same _ _ _ hcodeReg.regs, Nat.mod_eq_of_lt hord]

/-- The first request of a frame that was wrong on its arrival is that frame's error (R380). -/
theorem kvTick_bad {s : State} {n : Nat} {r : KvReq} {g : KvCfg} (hcfg : kvCfg s = some g) (hlive : kvLive s = true)
    (hhalt : s.ft.halted = false) (hbad : (kvOf s n).find? (fun r => r.bad != 0) = some r) :
    kvTick s n = kvFault s r.bad r.ord := by
  simp only [kvTick, hlive, hhalt, Bool.not_false, Bool.and_self, if_true, kvCheck, hcfg, hbad]

/-! ## Commits -/

/-- The number of the frame that has ended. -/
def endedFrame (s : State) : Nat := (s.ft.frame + 2 ^ 48 - 1) % 2 ^ 48

/-- The commit's cc has come, and the requests of the frame that has ended are no longer held (R378). -/
def requestsTaken (s : State) : State :=
  { s with ft := { s.ft with doneStage := 29 },
           kv := { s.kv with reqs := s.kv.reqs.filter (fun r => r.frame != endedFrame s),
                             waiting := s.kv.waiting.filter (fun w => w.1 != endedFrame s) } }

theorem execCommit_due {s : State} (hawake : awake s = true) (hslot : slotNow s = 0) (hcc : 29 ≤ ccNow s) (hstage : s.ft.doneStage < 29) :
    exec .commit s = .next (commitNow s) := by
  change execCommit s = _
  simp [execCommit, inBoundary, hawake, hslot, hcc, hstage]

/-- A frame that faulted or was halted commits nothing (R385, R564). -/
theorem commitNow_of_stopped {s : State} (h : s.ft.faultedPrev = true ∨ s.ft.halted = true) : commitNow s = requestsTaken s := by
  have hstop : (s.ft.faultedPrev || s.ft.halted) = true := by simpa using h
  unfold commitNow
  extract_lets s1 n reqs s2
  have hs2 : s2 = requestsTaken s := rfl
  clear_value s2
  subst hs2
  split
  · rw [if_pos (by simp [requestsTaken, hstop])]
  · rfl

/-- A commit reads of the engine only what the taking of its requests leaves. -/
theorem commitTx_requestsTaken (s : State) (g : KvCfg) (reqs : List KvReq) (n : Nat) :
    commitTx (requestsTaken s) g reqs n = commitTx s g reqs n := rfl

/-- The requests of a frame that ran, none of them wrong, are applied when every step takes them (R378, R380). -/
theorem commitNow_of_ran {s : State} {g : KvCfg} (hcfg : kvCfg s = some g) (hran : s.ft.faultedPrev = false) (hhalt : s.ft.halted = false)
    (hlive : kvLive s = true) (hgood : ∀ r ∈ kvOf s (endedFrame s), r.bad = 0)
    (herr : (commitTx s g (kvOf s (endedFrame s)) (endedFrame s)).err = none) :
    commitNow s = applyCommit (requestsTaken s) g (kvOf s (endedFrame s)) (endedFrame s)
      (commitTx s g (kvOf s (endedFrame s)) (endedFrame s)) := by
  have hnone : (kvOf s (endedFrame s)).any (fun r => r.bad != 0) = false := by
    rw [List.any_eq_false]
    intro r hr
    simp [hgood r hr]
  unfold commitNow
  extract_lets s1 n reqs s2
  have hs2 : s2 = requestsTaken s := rfl
  have hreqs : reqs = kvOf s (endedFrame s) := rfl
  have hn : n = endedFrame s := rfl
  clear_value s2 reqs n
  rw [hs2, hreqs, hn]
  have htaken : kvCfg (requestsTaken s) = some g := hcfg
  have hgo : ((requestsTaken s).ft.faultedPrev || (requestsTaken s).ft.halted || !kvLive (requestsTaken s)
      || (kvOf s (endedFrame s)).any (fun r => r.bad != 0)) = false := by
    have hliveTaken : kvLive (requestsTaken s) = true := hlive
    rw [hliveTaken, hnone]
    simp [requestsTaken, hran, hhalt]
  rw [htaken]
  dsimp only
  rw [hgo, if_neg Bool.false_ne_true, commitTx_requestsTaken, herr]
  rfl

theorem unitsKept_writeEntry (s : State) (g : KvCfg) (h e : Nat) : UnitsKept s (writeEntry s g h e) := by
  unfold writeEntry
  extract_lets a b s1
  have h1 : UnitsKept s s1 := (unitsKept_memWrite s a b true).trans (unitsKept_freshCheck _ _)
  exact h1.trans ⟨rfl, rfl, rfl, rfl, fun h => ⟨h.mem, h.synd, h.regs⟩⟩

theorem unitsKept_writeResult (s : State) (g : KvCfg) (x : KvTx) (r : KvReq) : UnitsKept s (writeResult s g x r) := by
  unfold writeResult
  split
  · exact unitsKept_memWrite _ _ _ _
  · exact UnitsKept.refl s

/-- A commit without a copy writes entries, buckets and results through memory, and then takes over the transaction's pins and log
and enters LAST_COMMIT (R378, R386). -/
theorem applyCommit_of_no_copies (s : State) (g : KvCfg) (reqs : List KvReq) (n : Nat) {x : KvTx} (hcopies : x.copies = []) :
    ∃ s1, UnitsKept s s1 ∧ applyCommit s g reqs n x =
      setReg (setKv s1 fun k => { k with framePins := x.framePins, pins := x.pins, copyNo := x.copyNo, log := x.log })
        prefixBlk Off.PREFIX_LAST_COMMIT (n % 2 ^ 32) := by
  unfold applyCommit
  rw [hcopies]
  extract_lets s0 entries buckets results flagged taken done
  have hentries : UnitsKept s entries := UnitsKept.foldl (fun t h => by
    dsimp only
    split
    · exact UnitsKept.refl t
    · exact unitsKept_writeEntry t g h _) s _
  have hbuckets : UnitsKept entries buckets := UnitsKept.foldl (fun t b => by
    split
    · exact UnitsKept.refl t
    · exact unitsKept_memWrite t _ _ _) entries _
  have hresults : UnitsKept buckets results :=
    UnitsKept.foldl (fun t codes => UnitsKept.foldl (fun t r => unitsKept_writeResult t g x r) t _) buckets _
  exact ⟨flagged, hentries.trans <| hbuckets.trans <| hresults.trans (unitsKept_setErrIf _ _ _ _), rfl⟩

/-- What a commit leaves that took place without a copy (R378, R385). -/
theorem applyCommit_done {s : State} (g : KvCfg) (reqs : List KvReq) (n : Nat) {x : KvTx} (h : Inv s) (hcopies : x.copies = []) :
    let t := applyCommit s g reqs n x
    t.ft.doneStage = s.ft.doneStage ∧ t.kv.pins = x.pins ∧ t.kv.framePins = x.framePins ∧ t.kv.log = x.log ∧ t.kv.reqs = s.kv.reqs
      ∧ getReg t prefixBlk Off.PREFIX_LAST_COMMIT = n % 2 ^ 32 ∧ t.mcores = s.mcores ∧ t.vcores = s.vcores := by
  obtain ⟨s1, hkept, heq⟩ := applyCommit_of_no_copies s g reqs n hcopies
  dsimp only
  rw [heq]
  generalize htaken : setKv s1 _ = s2
  have hsorted : Assoc.sorted s2.regs = true := by
    rw [← htaken]
    exact (hkept.inv h).regs
  rw [getReg_setReg_same _ _ _ hsorted, Nat.mod_mod]
  subst htaken
  exact ⟨hkept.doneStage, rfl, rfl, rfl, by rw [setReg_kv, setKv_kv, hkept.kv], rfl, hkept.mcores, hkept.vcores⟩

/-- No request is left of the frame that has ended (R378). -/
theorem kvOf_endedFrame {s t : State} (h : t.kv.reqs = (requestsTaken s).kv.reqs) : kvOf t (endedFrame s) = [] := by
  rw [kvOf, h, requestsTaken, List.filter_filter, List.filter_eq_nil_iff]
  simp

/-! ## ALLOC -/

/-- The entry of a new page: settled at frame `n`, one reference, live, its owner and its place (R373, R379). -/
def newEntry (n owner loc : Nat) : Nat := n * 2 ^ 80 + 1 * 2 ^ 48 + owner % 2 ^ 22 * 2 ^ 26 + 1 * 2 ^ 24 + loc

theorem newPage_eq_put (g : KvCfg) (x : KvTx) (h n owner : Nat) : newPage g x h n owner = x.put h (newEntry n owner (g.loc h)) := rfl

section
variable {n loc : Nat} (owner : Nat) (hloc : loc < 2 ^ 23)
include hloc

theorem entState_newEntry : entState (newEntry n owner loc) = 1 := by
  rw [entState, fieldOf_eq_div_mod, newEntry]
  omega

theorem entRef_newEntry : entRef (newEntry n owner loc) = 1 := by
  rw [entRef, fieldOf_eq_div_mod, newEntry]
  omega

theorem entDelta_newEntry : entDelta (newEntry n owner loc) = 0 := by
  rw [entDelta, fieldOf_eq_div_mod, newEntry]
  omega

theorem entSettled_newEntry (hn : n < 2 ^ 48) : entSettled (newEntry n owner loc) = n := by
  rw [entSettled, fieldOf_eq_div_mod, newEntry]
  omega

theorem entPinned_newEntry : entPinned (newEntry n owner loc) = false := by
  rw [entPinned, bitOf, Nat.testBit_eq_decide_div_mod_eq, newEntry, decide_eq_false_iff_not]
  omega

end

theorem txEnt_put (s : State) (g : KvCfg) (x : KvTx) (h e k : Nat) :
    txEnt s g (x.put h e) k = if k = h then e else txEnt s g x k := by
  have hents : (x.put h e).ents = Assoc.put h (some e) x.ents := rfl
  rw [txEnt, hents]
  split
  next hk => rw [hk, Assoc.get?_put_some, Option.getD_some]
  next hk => rw [Assoc.get?_put_ne _ _ _ _ hk, txEnt]

/-- An ALLOC takes the lowest free page of its column (R379). -/
theorem stepTake_alloc {s : State} {g : KvCfg} {x : KvTx} {r : KvReq} {h : Nat} (n : Nat) (hcode : r.code = 3)
    (hcol : g.cols.contains (r.target % 512) = true) (hfree : lowestFree s g x (g.cols.idxOf (r.target % 512)) = some h) :
    stepTake s g n x r = (x.put h (newEntry n r.owner (g.loc h))).result r.ord 0 (some h) := by
  rw [stepTake, if_pos hcode, hcol, hfree]
  exact if_neg Bool.false_ne_true

/-! ## Copy ends -/

/-- The report of a copy's end ends its pins and leaves the network (R382). -/
theorem execCopyEndReport_landed {s : State} {id h t : Nat} {m : ChordMsg} (hmsg : landedMsg s id = some m) (hkind : m.kind = .copyEnd h t) :
    exec (.copyEndReport id) s = .next (setKv (chordDrop s id) fun k =>
      { k with pins := k.pins.map fun p => if p.2.1 = h ∧ p.2.2 = 0 then (p.1, h, t + 1) else p }) := by
  have hpins : ∀ p : Nat × Nat × Nat, (if p.2.1 = h ∧ p.2.2 = 0 then (p.1, p.2.1, t + 1) else p)
      = if p.2.1 = h ∧ p.2.2 = 0 then (p.1, h, t + 1) else p := by
    intro p
    split
    next hp => rw [hp.1]
    next => rfl
  change execCopyEndReport id s = _
  rw [execCopyEndReport, hmsg]
  dsimp only
  rw [hkind]
  simp only [hpins]

/-! ## The obligation -/

/-- Settles O39, one clause for each thing that the engine does: a record taken (`kvRecord_taken`), its staging (`kvCc_stages`), a
request error (`kvFault_reports`), a commit that takes place (`applyCommit_done`) or does not (`commitNow_of_stopped`), an ALLOC
(`stepTake_alloc`), the end of a copy (`execCopyEndReport_landed`) and the flush. -/
theorem kvRequests : Obligations.KvRequests := by
  refine ⟨fun s rec g hup hcfg hhalt hout hahead hframe hall hord => ?record,
    fun s n ord rest hwait hasks hlines hclean => kvCc_stages hwait hasks hlines hclean,
    fun s n r g hinv hcfg hlive hhalt hbad hcode hord => ?error,
    fun s g hinv hawake hslot hcc hstage hcfg hran hhalt hlive hgood herr hcopies => ?commit,
    fun s hawake hslot hcc hstage hstop => ?stopped,
    fun s g n x r h hcode hcol hfree hn hloc => ?alloc,
    fun s id h t m hmsg hkind => ⟨_, execCopyEndReport_landed hmsg hkind, rfl, rfl, rfl, rfl⟩,
    fun s hpending => ?flush⟩
  case record =>
    rw [execKvRequest_direct rec hup hout, kvRecord_taken (by rw [hcfg]; rfl) hhalt hahead hframe hall hord]
    rfl
  case error =>
    rw [kvTick_bad hcfg hlive hhalt hbad, hcode]
    exact kvFault_reports hinv (by decide) hord
  case commit =>
    have hexec := execCommit_due hawake hslot hcc hstage
    rw [commitNow_of_ran hcfg hran hhalt hlive hgood herr] at hexec
    obtain ⟨hdone, hpins, hframePins, hlog, hreqs, hlast, hmc, hvc⟩ :=
      applyCommit_done g (kvOf s (endedFrame s)) (endedFrame s) (s := requestsTaken s) ⟨hinv.mem, hinv.synd, hinv.regs⟩ hcopies
    exact ⟨_, hexec, hdone, hpins, hframePins, hlog, hlast, kvOf_endedFrame hreqs, hmc, hvc⟩
  case stopped =>
    rw [execCommit_due hawake hslot hcc hstage, commitNow_of_stopped hstop]
    rfl
  case alloc =>
    rw [stepTake_alloc n hcode hcol hfree]
    have hent : ∀ k, txEnt s g ((x.put h (newEntry n r.owner (g.loc h))).result r.ord 0 (some h)) k
        = if k = h then newEntry n r.owner (g.loc h) else txEnt s g x k := txEnt_put s g x h _
    simp only [hent, if_true]
    exact ⟨entState_newEntry _ hloc, entRef_newEntry _ hloc, entDelta_newEntry _ hloc, entSettled_newEntry _ hloc hn,
      entPinned_newEntry _ hloc, rfl, fun k hk => if_neg hk⟩
  case flush =>
    change execPrefixFlushed s = _
    rw [execPrefixFlushed, if_pos hpending]
    rfl

end Sys2Proof.Machine
end

section
/-! SUPPORT. A mailbox queue's SRAM while it holds no error (R417, R638): its entries read as they stand, and the write of an
entry or of a granule replaces just those entries. -/

namespace Sys2Proof

/-- A key that no entry of a table has reads as absent. -/
theorem Assoc.get?_none_of_ne {α : Type} {l : List (Nat × α)} {k : Nat} (h : ∀ z ∈ l, z.1 ≠ k) : Assoc.get? k l = none := by
  induction l with
  | nil => rfl
  | cons z l ih =>
    rw [Assoc.get?, if_neg (h z List.mem_cons_self)]
    exact ih fun y hy => h y (List.mem_cons_of_mem z hy)

namespace Machine

/-! ## Clean granules -/

theorem granuleClass_of_sramClean {s : State} {i : Nat} (h : sramClean s = true) (hi : 2 ^ 43 ≤ i) : granuleClass s i = .clean := by
  have hnone : Assoc.get? i s.synd = none := Assoc.get?_none_of_ne fun z hz => by
    have hz : z.1 < 2 ^ 43 := by simpa using List.all_eq_true.mp h z hz
    omega
  rw [granuleClass, hnone]

theorem sramRead_of_sramClean {s : State} {i : Nat} (h : sramClean s = true) (hi : 2 ^ 43 ≤ i) :
    sramRead s i = (s, granuleBits s i, false) := by
  simp only [sramRead, correctedBits, granuleClass_of_sramClean h hi]

theorem sramClean_freshCheck {s : State} (i : Nat) (h : sramClean s = true) : sramClean (freshCheck s i) = true := by
  refine List.all_eq_true.mpr fun z hz => ?_
  obtain hz | ⟨_, hnone, _⟩ := Assoc.mem_put hz
  · exact List.all_eq_true.mp h z hz
  · cases hnone

/-! ## Granules of a queue -/

theorem le_mboxGran (q k : Nat) : 2 ^ 43 ≤ mboxGran q k := by
  unfold mboxGran
  omega

theorem mboxGran_div {q : Nat} (hq : q < 128) (k : Nat) : mboxGran q k / 2 ^ 43 = 3 := by
  unfold mboxGran
  omega

theorem mboxGran_mod {q : Nat} (hq : q < 128) (k : Nat) : mboxGran q k % 2 ^ 43 = 512 * q + k % 512 := by
  unfold mboxGran
  omega

/-- The queue of a granule, and the granule's place in it. -/
theorem mboxGran_place (q k : Nat) : (512 * q + k % 512) / 512 = q ∧ (512 * q + k % 512) % 512 = k % 512 := by
  omega

theorem granuleBits_mboxGran (s : State) {q : Nat} (hq : q < 128) (k : Nat) :
    granuleBits s (mboxGran q k) = (mbx s q).entry (2 * (k % 512)) ++ (mbx s q).entry (2 * (k % 512) + 1) := by
  simp only [granuleBits, mboxGran_div hq, mboxGran_mod hq, mboxGran_place]

theorem granulePut_mboxGran (s : State) {q : Nat} (hq : q < 128) (k : Nat) (d : List Byte) :
    granulePut s (mboxGran q k) d = setMbx s q fun x =>
      { x with entries := Assoc.put (2 * (k % 512) + 1) (some (d.drop 16)) (Assoc.put (2 * (k % 512)) (some (d.take 16)) x.entries) } := by
  simp only [granulePut, mboxGran_div hq, mboxGran_mod hq, mboxGran_place]

theorem fit_of_length {l : List Byte} {n : Nat} (h : l.length = n) : fit l n = l := by
  rw [fit, List.take_append_of_le_length (Nat.le_of_eq h.symm), List.take_of_length_le (Nat.le_of_eq h)]

/-! ## Entries -/

/-- The entries of a queue with that at pointer `p` replaced. -/
def withEntry (f : Nat → List Byte) (p : Nat) (e : List Byte) : Nat → List Byte := fun j => if j % 1024 = p % 1024 then e else f j

theorem withEntry_same (f : Nat → List Byte) (p : Nat) (e : List Byte) : withEntry f p e p = e := if_pos rfl

theorem withEntry_ne (f : Nat → List Byte) {p j : Nat} (e : List Byte) (h : j % 1024 ≠ p % 1024) : withEntry f p e j = f j := if_neg h

theorem withEntry_congr (f : Nat → List Byte) {p r : Nat} (e : List Byte) (h : p % 1024 = r % 1024) : withEntry f p e = withEntry f r e := by
  unfold withEntry
  rw [h]

theorem withEntry_length {f : Nat → List Byte} {p : Nat} {e : List Byte} (hf : ∀ j, (f j).length = 16) (he : e.length = 16) (j : Nat) :
    (withEntry f p e j).length = 16 := by
  unfold withEntry
  split
  · exact he
  · exact hf j

theorem MBox.entry_congr (x : MBox) {p r : Nat} (h : p % 1024 = r % 1024) : x.entry p = x.entry r := by
  unfold MBox.entry
  rw [h]

/-- An entry that is written as it stands. -/
theorem withEntry_self (x : MBox) (p : Nat) : withEntry x.entry p (x.entry p) = x.entry := by
  funext j
  unfold withEntry
  split
  next h => exact x.entry_congr h.symm
  next => rfl

theorem withEntry_comm (f : Nat → List Byte) {p r : Nat} (a b : List Byte) (h : p % 1024 ≠ r % 1024) :
    withEntry (withEntry f p a) r b = withEntry (withEntry f r b) p a := by
  funext j
  simp only [withEntry]
  split
  next hr => rw [if_neg (by omega)]
  next => rfl

theorem entry_putEntries (x : MBox) {k : Nat} (hk : k < 1024) (e : List Byte) :
    ({ x with entries := Assoc.put k (some e) x.entries } : MBox).entry = withEntry x.entry k e := by
  funext j
  simp only [MBox.entry, withEntry, Assoc.getD_put_some, Nat.mod_eq_of_lt hk]

/-! ## What a write leaves -/

theorem onlyQueue_trans {q : Nat} {s t u : State} (h1 : onlyQueue q s t) (h2 : onlyQueue q t u) : onlyQueue q s u := by
  obtain ⟨hst, hmbx1, hsynd1⟩ := h1
  obtain ⟨htu, hmbx2, hsynd2⟩ := h2
  refine ⟨?_, fun h hh => (hmbx2 h hh).trans (hmbx1 h hh), fun i hi => (hsynd2 i hi).trans (hsynd1 i hi)⟩
  rw [htu, hst]

theorem onlyQueue_setMbx (s : State) (q : Nat) (f : MBox → MBox) : onlyQueue q s (setMbx s q f) :=
  ⟨rfl, fun h hh => by rw [mbx_setMbx, if_neg hh], fun _ _ => rfl⟩

theorem onlyQueue_freshCheck (s : State) (q k : Nat) : onlyQueue q s (freshCheck s (mboxGran q k)) :=
  ⟨rfl, fun _ _ => rfl, fun _ hi => Assoc.get?_put_ne _ _ _ _ (Nat.ne_of_lt (Nat.lt_of_lt_of_le hi (le_mboxGran q k)))⟩

/-- Queue `q` of a clean state comes to stand as `x`, with the entries `w`, and nothing else changes. -/
structure Stored (q : Nat) (x : MBox) (w : Nat → List Byte) (s t : State) : Prop where
  only : onlyQueue q s t
  clean : QueueClean t q
  queue : mbx t q = { x with entries := (mbx t q).entries, wroteAt := (mbx t q).wroteAt }
  entry : (mbx t q).entry = w

theorem Stored.trans {q : Nat} {x y : MBox} {v w : Nat → List Byte} {s t u : State} (h1 : Stored q x v s t) (h2 : Stored q y w t u) :
    Stored q y w s u := ⟨onlyQueue_trans h1.only h2.only, h2.clean, h2.queue, h2.entry⟩

/-- The pointers and flags of a queue change, whatever its entries are. -/
theorem Stored.setMbx {q : Nat} {x : MBox} {w : Nat → List Byte} {s t : State} (h : Stored q x w s t) (f : MBox → MBox)
    (hf : ∀ y es n, f { y with entries := es, wroteAt := n } = { f y with entries := es, wroteAt := n }) :
    Stored q (f x) w s (setMbx t q f) := by
  obtain ⟨honly, ⟨hsram, hlen⟩, hqueue, hentry⟩ := h
  have hkeep : (f (mbx t q)).entries = (mbx t q).entries := by
    rw [hqueue, hf]
  have hmbx : mbx (Machine.setMbx t q f) q = f (mbx t q) := mbx_setMbx_same t q f
  have hent : (f (mbx t q)).entry = (mbx t q).entry := by
    funext p
    rw [MBox.entry, hkeep, MBox.entry]
  refine ⟨onlyQueue_trans honly (onlyQueue_setMbx t q f), ⟨hsram, fun p => ?_⟩, ?_, ?_⟩
  · rw [hmbx, hent]
    exact hlen p
  · rw [hmbx, hqueue, hf]
  · rw [hmbx, hent, hentry]

section
variable {s : State} {q : Nat} (hq : q < 128) (hclean : QueueClean s q)
include hq hclean

/-- A granule of two entries is written. -/
theorem stored_mbStore (k : Nat) {a b : List Byte} (ha : a.length = 16) (hb : b.length = 16) :
    Stored q (mbx s q) (withEntry (withEntry (mbx s q).entry (2 * (k % 512)) a) (2 * (k % 512) + 1) b) s
      (mbStore s q (mboxGran q k) (a ++ b)) := by
  have htake : (a ++ b).take 16 = a := List.take_left' ha
  have hdrop : (a ++ b).drop 16 = b := List.drop_left' ha
  obtain ⟨hsram, hlen⟩ := hclean
  have hmbx : mbx (mbStore s q (mboxGran q k) (a ++ b)) q =
      { mbx s q with entries := Assoc.put (2 * (k % 512) + 1) (some b) (Assoc.put (2 * (k % 512)) (some a) (mbx s q).entries),
                     wroteAt := s.now + 1 } := by
    rw [mbStore, granulePut_mboxGran _ hq, htake, hdrop, mbx_setMbx_same, mbx_setMbx_same]
    rfl
  have hentry : (mbx (mbStore s q (mboxGran q k) (a ++ b)) q).entry
      = withEntry (withEntry (mbx s q).entry (2 * (k % 512)) a) (2 * (k % 512) + 1) b := by
    rw [hmbx, ← entry_putEntries (mbx s q) (by omega) a, ← entry_putEntries _ (by omega) b]
    rfl
  refine ⟨?_, ⟨?_, fun p => ?_⟩, ?_, hentry⟩
  · rw [mbStore, granulePut_mboxGran _ hq]
    exact onlyQueue_trans (onlyQueue_freshCheck s q k) (onlyQueue_trans (onlyQueue_setMbx _ q _) (onlyQueue_setMbx _ q _))
  · rw [mbStore, granulePut_mboxGran _ hq]
    exact sramClean_freshCheck _ hsram
  · rw [hentry]
    exact withEntry_length (withEntry_length hlen ha) hb p
  · rw [hmbx]

/-- An entry reads as it stands. -/
theorem mbGet_clean (p : Nat) : mbGet s q p = (s, (mbx s q).entry p, false) := by
  obtain ⟨hsram, hlen⟩ := hclean
  rw [mbGet, sramRead_of_sramClean hsram (le_mboxGran q _), granuleBits_mboxGran s hq]
  dsimp only
  rcases Nat.mod_two_eq_zero_or_one p with hp | hp
  · rw [hp, Nat.mul_zero, List.drop_zero, List.take_left' (hlen _), MBox.entry_congr _ (by omega : 2 * (p % 1024 / 2 % 512) % 1024 = p % 1024)]
  · rw [hp, Nat.mul_one, List.drop_left' (hlen _), List.take_of_length_le (Nat.le_of_eq (hlen _)),
      MBox.entry_congr _ (by omega : (2 * (p % 1024 / 2 % 512) + 1) % 1024 = p % 1024)]

/-- One entry is written beside its neighbour in the granule. -/
theorem mbPut_stores (p : Nat) {e : List Byte} (he : e.length = 16) :
    (mbPut s q p e).2 = false ∧ Stored q (mbx s q) (withEntry (mbx s q).entry p e) s (mbPut s q p e).1 := by
  have ⟨hsram, hlen⟩ := hclean
  have hput : mbPut s q p e = (mbStore s q (mboxGran q (p % 1024 / 2))
      (splice ((mbx s q).entry (2 * (p % 1024 / 2 % 512)) ++ (mbx s q).entry (2 * (p % 1024 / 2 % 512) + 1)) (16 * (p % 2)) e), false) := by
    simp only [mbPut, sramRead_of_sramClean hsram (le_mboxGran q _), granuleBits_mboxGran s hq, fit_of_length he,
      Bool.false_eq_true, if_false]
  rw [hput]
  refine ⟨rfl, ?_⟩
  dsimp only
  generalize hk : p % 1024 / 2 = k
  rcases Nat.mod_two_eq_zero_or_one p with hp | hp
  · have hsplice : splice ((mbx s q).entry (2 * (k % 512)) ++ (mbx s q).entry (2 * (k % 512) + 1)) (16 * (p % 2)) e
        = e ++ (mbx s q).entry (2 * (k % 512) + 1) := by
      rw [hp, splice, Nat.mul_zero, List.take_zero, List.nil_append, Nat.zero_add, he, List.drop_left' (hlen _)]
    have hstored := stored_mbStore hq hclean k he (hlen (2 * (k % 512) + 1))
    rwa [withEntry_comm _ _ _ (by omega), withEntry_self, withEntry_congr _ _ (by omega : 2 * (k % 512) % 1024 = p % 1024),
      ← hsplice] at hstored
  · have hsplice : splice ((mbx s q).entry (2 * (k % 512)) ++ (mbx s q).entry (2 * (k % 512) + 1)) (16 * (p % 2)) e
        = (mbx s q).entry (2 * (k % 512)) ++ e := by
      rw [hp, splice, Nat.mul_one, he, List.take_left' (hlen _),
        List.drop_of_length_le (Nat.le_of_eq (by rw [List.length_append, hlen, hlen])), List.append_nil]
    have hstored := stored_mbStore hq hclean k (hlen (2 * (k % 512))) he
    rwa [withEntry_self, withEntry_congr _ _ (by omega : (2 * (k % 512) + 1) % 1024 = p % 1024), ← hsplice] at hstored

end

end Machine

end Sys2Proof
end

section
/-! PROOFS. Mailbox queues: APPEND, CLOSE and READ, the queue's pointers in a cc, its errors and its stale notice (R418-R424). -/

namespace Sys2Proof.Machine

/-! ## Error flags and notices leave the queues -/

theorem onlyReported.mboxes {s t : State} (h : onlyReported s t) : t.mboxes = s.mboxes := by rw [h]
theorem onlyReported.outs {s t : State} (h : onlyReported s t) : t.outs = s.outs := by rw [h]
theorem onlyReported.mbx {s t : State} (h : onlyReported s t) (q : Nat) : mbx t q = mbx s q := by
  unfold Machine.mbx
  rw [h.mboxes]

theorem onlyReported_sendNotice (s : State) (src target line cls : Nat) : onlyReported s (sendNotice s src target line cls) := by
  unfold sendNotice badTarget
  dsimp only
  repeat' split
  all_goals rfl

theorem onlyReported_mbNotice (s : State) (q : Nat) : onlyReported s (mbNotice s q) := by
  unfold mbNotice
  dsimp only
  split
  · exact (onlyReported_sendNotice s _ _ _ _).trans (onlyReported_setErr _ _ _)
  · exact onlyReported.refl s

theorem Inv.setMbx {s : State} (q : Nat) (f : MBox → MBox) (h : Inv s) : Inv (setMbx s q f) := ⟨h.mem, h.synd, h.regs⟩

theorem inbound_eq_true {q : Nat} (h : q < 64) : inbound q = true := decide_eq_true h
theorem inbound_eq_false {q : Nat} (h : 64 ≤ q) : inbound q = false := decide_eq_false (Nat.not_lt.mpr h)

/-! ## APPEND -/

section
variable {s : State} {q : Nat}

/-- APPEND to an open outbound packet appends the two halves of its flit (R422). -/
theorem execAppend_open (hout : 64 ≤ q) (hq : q < 128) (data : BitVec 256) (f : Bool) (hup : hubUp s = true)
    (hfence : (mbx s q).fenced = false) (hopen : (mbx s q).isOpen = true) :
    exec (.append q data f) s = .next (mbAddTwo s q ((leBytes 32 data.toNat).take 16) ((leBytes 32 data.toNat).drop 16)).1 := by
  have hhalf : ((leBytes 32 data.toNat).drop 16).take 16 = (leBytes 32 data.toNat).drop 16 :=
    List.take_of_length_le (Nat.le_of_eq (by rw [List.length_drop, leBytes_length]))
  change execAppend q data f s = _
  simp [execAppend, onUnit, hq, hup, mbAppend, hfence, inbound_eq_false hout, hopen, hhalf]

/-- An entry appended where the writer sees one free. -/
theorem mbAdd_stores (hq : q < 128) (hclean : QueueClean s q) (hdrop : (mbx s q).dropping = false) (hfree : mbFree (mbx s q) ≠ 0)
    {e : List Byte} (he : e.length = 16) :
    Stored q { mbx s q with resv := ((mbx s q).resv + 1) % 2048 } (withEntry (mbx s q).entry (mbx s q).resv e) s (mbAdd s q e).1 := by
  have hadd : mbAdd s q e =
      (setMbx (mbPut s q (mbx s q).resv e).1 q fun x => { x with resv := (x.resv + 1) % 2048 }, (mbPut s q (mbx s q).resv e).2) := by
    simp only [mbAdd, hdrop, hfree, Bool.false_eq_true, if_false]
  rw [hadd]
  exact (mbPut_stores hq hclean _ he).2.setMbx (fun x => { x with resv := (x.resv + 1) % 2048 }) fun _ _ _ => rfl

/-- Two entries appended where the writer sees two free: as one granule, or one after the other. -/
theorem mbAddTwo_stores (hq : q < 128) (hclean : QueueClean s q) (hdrop : (mbx s q).dropping = false)
    (hrd : rdSeen (mbx s q) < 2048) (hresv : (mbx s q).resv < 2048) (hfree : 2 ≤ mbFree (mbx s q))
    {a b : List Byte} (ha : a.length = 16) (hb : b.length = 16) :
    Stored q { mbx s q with resv := ((mbx s q).resv + 2) % 2048 }
      (withEntry (withEntry (mbx s q).entry (mbx s q).resv a) ((mbx s q).resv + 1) b) s (mbAddTwo s q a b).1 := by
  by_cases heven : (mbx s q).resv % 2 = 0
  · have hone : mbAddTwo s q a b = (setMbx (mbStore s q (mboxGran q ((mbx s q).resv % 1024 / 2)) (a ++ b)) q
        fun x => { x with resv := (x.resv + 2) % 2048 }, false) := by
      rw [mbAddTwo]
      dsimp only
      rw [if_pos ⟨heven, hfree, by rw [hdrop]; rfl⟩, fit_of_length ha, fit_of_length hb]
    have hstored := (stored_mbStore hq hclean ((mbx s q).resv % 1024 / 2) ha hb).setMbx
      (fun x => { x with resv := (x.resv + 2) % 2048 }) fun _ _ _ => rfl
    rw [withEntry_congr _ a (by omega : _ % 1024 = (mbx s q).resv % 1024),
      withEntry_congr _ b (by omega : _ % 1024 = ((mbx s q).resv + 1) % 1024)] at hstored
    rw [hone]
    exact hstored
  · have htwo : mbAddTwo s q a b = ((mbAdd (mbAdd s q a).1 q b).1, (mbAdd s q a).2 || (mbAdd (mbAdd s q a).1 q b).2) := by
      rw [mbAddTwo]
      dsimp only
      rw [if_neg fun h => heven h.1]
    have hfirst := mbAdd_stores hq hclean hdrop (by omega) ha
    rw [htwo]
    generalize (mbAdd s q a).1 = t at hfirst ⊢
    have hmbx := hfirst.queue
    have hdrop' : (mbx t q).dropping = false := by rw [hmbx]; exact hdrop
    have hresv' : (mbx t q).resv = ((mbx s q).resv + 1) % 2048 := by rw [hmbx]
    have hrd' : rdSeen (mbx t q) = rdSeen (mbx s q) := by rw [hmbx]; rfl
    have hfree' : mbFree (mbx t q) ≠ 0 := by
      unfold mbFree at hfree ⊢
      rw [hresv', hrd']
      omega
    have hsecond := hfirst.trans (mbAdd_stores hq hfirst.clean hdrop' hfree' hb)
    have hnext : (((mbx s q).resv + 1) % 2048 + 1) % 2048 = ((mbx s q).resv + 2) % 2048 := by omega
    rw [hfirst.entry, hresv', withEntry_congr _ b (by omega : _ % 1024 = ((mbx s q).resv + 1) % 1024), hnext] at hsecond
    exact ⟨hsecond.only, hsecond.clean, by rw [hsecond.queue, hmbx], hsecond.entry⟩

/-- An append that finds no entry free cuts the packet and sets OVERFLOW (R421). -/
theorem mbAdd_full (hdrop : (mbx s q).dropping = false) (hfull : mbFree (mbx s q) = 0) (e : List Byte) :
    mbAdd s q e = (setErr (setMbx s q fun x => { x with trunc := true }) (mbBlk q) Err.MBOX_OVERFLOW, false) := by
  simp only [mbAdd, hdrop, hfull, Bool.false_eq_true, if_false, if_true]

theorem mbx_of_overflow (s : State) (q : Nat) :
    mbx (setErr (setMbx s q fun x => { x with trunc := true }) (mbBlk q) Err.MBOX_OVERFLOW) q = { mbx s q with trunc := true } := by
  rw [(onlyReported_setErr _ _ _).mbx, mbx_setMbx_same]

theorem mbAddTwo_full (hinv : Inv s) (hdrop : (mbx s q).dropping = false) (hfull : mbFree (mbx s q) = 0) (a b : List Byte) :
    let t := (mbAddTwo s q a b).1
    mbx t q = { mbx s q with trunc := true } ∧ t.mem = s.mem ∧ (errSummary t (mbBlk q)).testBit Err.MBOX_OVERFLOW = true := by
  intro t
  have ht : t = (mbAdd (mbAdd s q a).1 q b).1 := by
    simp [t, mbAddTwo, hfull]
  rw [mbAdd_full hdrop hfull] at ht
  have hmbx := mbx_of_overflow s q
  have hinv1 := (hinv.setMbx q fun x => { x with trunc := true }).setErr (mbBlk q) Err.MBOX_OVERFLOW
  have hmem : (setErr (setMbx s q fun x => { x with trunc := true }) (mbBlk q) Err.MBOX_OVERFLOW).mem = s.mem :=
    (onlyReported_setErr _ _ _).mem
  generalize setErr (setMbx s q fun x => { x with trunc := true }) (mbBlk q) Err.MBOX_OVERFLOW = u at ht hmbx hinv1 hmem
  rw [mbAdd_full (by rw [hmbx]; exact hdrop) (by rw [hmbx]; exact hfull)] at ht
  rw [ht]
  exact ⟨by rw [mbx_of_overflow, hmbx], (onlyReported_setErr _ _ _).mem.trans hmem,
    errSummary_setErr _ _ (hinv1.setMbx q _).regs (by decide)⟩

/-- An operation that the queue's direction does not have, unscheduled (R422). -/
theorem execAppend_inbound (hq : q < 64) (data : BitVec 256) (hup : hubUp s = true) (hfence : (mbx s q).fenced = false) :
    exec (.append q data false) s = .next (setErr s (mbBlk q) Err.MBOX_BAD_OP) := by
  have hq128 : q < 128 := by omega
  change execAppend q data false s = _
  simp [execAppend, onUnit, hq128, hup, mbAppend, hfence, inbound_eq_true hq, mbBad]

/-! ## CLOSE -/

/-- CLOSE of an open outbound packet (R421, R422). -/
theorem execClose_open (hout : 64 ≤ q) (hq : q < 128) (f : Bool) (hup : hubUp s = true) (hfence : (mbx s q).fenced = false)
    (hopen : (mbx s q).isOpen = true) : exec (.close q f) s = .next (mbClose s q []).1 := by
  change execClose q f s = _
  simp [execClose, onUnit, hq, hup, mbCloseOp, hfence, inbound_eq_false hout, hopen]

/-- The header that a close writes with no WRITER (R421). -/
def closedHeader (x : MBox) : List Byte :=
  leBytes 4 (b2n x.trunc * 2 ^ 31 + (x.resv + 2048 - x.openAt) % 2048) ++ List.replicate 12 0

theorem mbClose_stores (hq : q < 128) (hclean : QueueClean s q) (hdrop : (mbx s q).dropping = false) :
    Stored q { mbx s q with isOpen := false, commitTo := (mbx s q).resv } (withEntry (mbx s q).entry (mbx s q).openAt (closedHeader (mbx s q)))
      s (mbClose s q []).1 := by
  have hclose : (mbClose s q []).1 = setMbx (mbPut s q (mbx s q).openAt (closedHeader (mbx s q))).1 q
      fun x => { x with isOpen := false, commitTo := x.resv } := by
    simp only [mbClose, hdrop, Bool.false_eq_true, if_false]
    rfl
  rw [hclose]
  have hlen : (closedHeader (mbx s q)).length = 16 := by
    rw [closedHeader, List.length_append, leBytes_length, List.length_replicate]
  exact (mbPut_stores hq hclean _ hlen).2.setMbx (fun x => { x with isOpen := false, commitTo := x.resv }) fun _ _ _ => rfl

/-! ## A cc of a queue -/

/-- A queue that moves in a cc: its advance, with the stale timer of R424. -/
def movedQueue (s : State) (q : Nat) : MBox :=
  { (mbx s q).advance with
    timer := if hubHeld q (mbx s q).advance = 0 then 0 else if hubHeld q (mbx s q) = 0 then s.now + 2 else (mbx s q).advance.timer }

theorem mboxCc_of_still (h : (mbx s q).advance = mbx s q) : mboxCc s q = s := by
  unfold mboxCc
  exact if_pos h

/-- Beside the queue that moves, only what a level notice reports can change (R425). -/
theorem mboxCc_of_moving (h : (mbx s q).advance ≠ mbx s q) : onlyReported (setMbx s q fun _ => movedQueue s q) (mboxCc s q) := by
  unfold mboxCc
  extract_lets x y before after s1 n level
  rw [if_neg h]
  change onlyReported s1 _
  split
  · exact onlyReported_mbNotice s1 q
  · exact onlyReported.refl s1

theorem mbx_mboxCc_of_moving (h : (mbx s q).advance ≠ mbx s q) : mbx (mboxCc s q) q = movedQueue s q := by
  rw [(mboxCc_of_moving h).mbx, mbx_setMbx_same]

theorem mbx_mboxCc_ne (s : State) {q h : Nat} (hh : h ≠ q) : mbx (mboxCc s q) h = mbx s h := by
  by_cases hstill : (mbx s q).advance = mbx s q
  · rw [mboxCc_of_still hstill]
  · rw [(mboxCc_of_moving hstill).mbx, mbx_setMbx, if_neg hh]

/-- A queue after a cc is its advance, but for the timer (R419). -/
theorem mbx_mboxCc_advance (s : State) (q : Nat) : ∃ n, mbx (mboxCc s q) q = { (mbx s q).advance with timer := n } := by
  by_cases hstill : (mbx s q).advance = mbx s q
  · exact ⟨(mbx s q).timer, by rw [mboxCc_of_still hstill, hstill]⟩
  · exact ⟨_, mbx_mboxCc_of_moving hstill⟩

/-- A queue that becomes non-empty in the hub's view starts its stale timer with the next cc (R424). -/
theorem timer_mboxCc_of_filled (s : State) (q : Nat) (hempty : hubHeld q (mbx s q) = 0) (hfilled : hubHeld q (mbx (mboxCc s q) q) ≠ 0) :
    (mbx (mboxCc s q) q).timer = s.now + 2 := by
  have hmoving : (mbx s q).advance ≠ mbx s q := fun hstill => hfilled (by rw [mboxCc_of_still hstill, hempty])
  rw [mbx_mboxCc_of_moving hmoving] at hfilled ⊢
  have hadvance : hubHeld q (mbx s q).advance ≠ 0 := hfilled
  rw [movedQueue, if_neg hadvance, if_pos hempty]

/-! ## READ -/

theorem staleFirst_of_not_over {t : Nat} (h : staleOver s q t = false) : staleFirst s q t = s := by
  rw [staleFirst, if_neg (by simp [h])]

/-- READ of an inbound queue whose stale timer has not run out returns the units of the entries taken (R422). -/
theorem execRead_inbound {len : Nat} (hq : q < 64) (hlen : len < 256) (hup : hubUp s = true) (hfence : (mbx s q).fenced = false)
    (hfresh : staleOver s q s.now = false) (hsome : mbUnits (mbTake s q (2 * (len + 1))).2 ≠ []) :
    exec (.read q len) s = .next (addOut (mbTake s q (2 * (len + 1))).1
      (.mailRead q ((mbUnits (mbTake s q (2 * (len + 1))).2).map fun x => BitVec.ofNat 256 (leNat x.1)))) := by
  have hq128 : q < 128 := by omega
  change execRead q len s = _
  simp [execRead, onUnit, hq128, hup, mbReadOp, hfence, inbound_eq_true hq, Nat.mod_eq_of_lt hlen, staleFirst_of_not_over hfresh, hsome]

theorem mbUnits_length (l : List (List Byte × Bool)) : (mbUnits l).length = (l.length + 1) / 2 := by
  induction l using mbUnits.induct with
  | case1 => rfl
  | case2 a => simp [mbUnits]
  | case3 a b l ih =>
    rw [mbUnits, List.length_cons, ih, List.length_cons, List.length_cons]
    omega

/-- A unit is two entries one after the other. -/
theorem getElem?_mbUnits {l : List (List Byte × Bool)} {i : Nat} {a b : List Byte × Bool} (ha : l[2 * i]? = some a)
    (hb : l[2 * i + 1]? = some b) : (mbUnits l)[i]? = some (a.1 ++ b.1, a.2 || b.2) := by
  induction l using mbUnits.induct generalizing i with
  | case1 => simp at ha
  | case2 c => simp at hb
  | case3 c d l ih =>
    cases i with
    | zero =>
      obtain rfl : c = a := by simpa using ha
      obtain rfl : d = b := by simpa using hb
      rfl
    | succ i => exact ih ha hb

theorem mbUnits_replicate (n : Nat) (a : List Byte × Bool) : mbUnits (List.replicate (2 * n) a) = List.replicate n (a.1 ++ a.1, a.2 || a.2) := by
  induction n with
  | zero => rfl
  | succ n ih =>
    rw [Nat.mul_add, List.replicate_succ, List.replicate_succ, mbUnits, ih, List.replicate_succ]

/-- What a read of `n` entries returns of a packet that has `k` of them: its next entries, and zero for those past its end. -/
def entriesRead (x : MBox) (n k : Nat) : List (List Byte × Bool) :=
  (List.range k).map (fun i => (x.entry (x.rd + i), false)) ++ List.replicate (n - k) (List.replicate 16 0, false)

/-- A queue after a read of its next `k` entries in cc `now`: RD behind them, the last of them kept. -/
def queueRead (q : Nat) (x : MBox) (k now : Nat) : MBox :=
  mbAfterRead q { x with rd := (x.rd + k) % 2048, lastRead := x.entry (x.rd + k - 1) } now

theorem entriesRead_length (x : MBox) {n k : Nat} (h : k ≤ n) : (entriesRead x n k).length = n := by
  rw [entriesRead, List.length_append, List.length_map, List.length_range, List.length_replicate, Nat.add_sub_cancel' h]

theorem getElem?_entriesRead (x : MBox) (n : Nat) {k i : Nat} (h : i < k) : (entriesRead x n k)[i]? = some (x.entry (x.rd + i), false) := by
  rw [entriesRead, List.getElem?_append_left (by rwa [List.length_map, List.length_range]), List.getElem?_map, List.getElem?_range h,
    Option.map_some]

/-- READ of a queue that holds no whole packet: the value last read for each entry, and UNDERRUN (R420, R422). -/
theorem mbTake_of_empty (hempty : mbWhole s q = (s, none, none)) (n : Nat) :
    mbTake s q n = (setErr s (mbBlk q) Err.MBOX_UNDERRUN, List.replicate n (fit (mbx s q).lastRead 16, false)) := by
  rw [mbTake, hempty]

end

section
variable {s : State} {q : Nat} (hq : q < 128) (hclean : QueueClean s q)
include hq hclean

theorem mbWhole_clean : mbWhole s q = (s, (mbWhole s q).2.1, none) := by
  unfold mbWhole
  simp only [mbGet_clean hq hclean]
  split <;> rfl

theorem mbGets_clean (p n : Nat) : mbGets s q p n = (s, (List.range n).map fun i => ((mbx s q).entry (p + i), false)) := by
  induction n generalizing p with
  | zero => rfl
  | succ n ih =>
    simp only [mbGets, mbGet_clean hq hclean, ih, List.range_succ_eq_map, List.map_cons, List.map_map, Nat.add_zero]
    simp only [Function.comp_def, Nat.succ_eq_add_one, Nat.add_assoc, Nat.add_comm 1]

/-- READ of a whole packet takes its next entries (R420, R421). -/
theorem mbTake_clean {m : Nat} (n : Nat) (hwhole : (mbWhole s q).2.1 = some m) (hpos : 0 < min n m) :
    mbTake s q n = (setMbx s q fun x => queueRead q x (min n m) s.now, entriesRead (mbx s q) n (min n m)) := by
  have hlast : ((List.range (min n m)).map fun i => ((mbx s q).entry ((mbx s q).rd + i), false)).getLast?
      = some ((mbx s q).entry ((mbx s q).rd + min n m - 1), false) := by
    rw [List.getLast?_map, List.getLast?_range, if_neg (by omega), Option.map_some, Nat.add_sub_assoc hpos]
  rw [mbTake, mbWhole_clean hq hclean, hwhole]
  dsimp only
  rw [mbGets_clean hq hclean]
  dsimp only
  rw [hlast]
  rfl

end

/-! ## The stale notice -/

theorem execStaleTimeout_over {s : State} {q : Nat} (hq : q < 128) (hover : staleOver s q s.now = true) (hwait : readWaits s q = false) :
    exec (.staleTimeout q) s = .next (staleFire s q) := by
  change execStaleTimeout q s = _
  simp [execStaleTimeout, onUnit, hq, hover, hwait]

/-- A queue whose route is enabled sets its notice flag (R423). -/
theorem errSummary_mbNotice {s : State} {q : Nat} (hinv : Inv s) (hroute : bitOf (getReg s (mbBlk q) Off.MBOX_NOTICE_ROUTE) 31 = true) :
    (errSummary (mbNotice s q) (mbBlk q)).testBit Err.MBOX_NOTICE = true := by
  unfold mbNotice
  dsimp only
  rw [if_pos hroute]
  exact errSummary_setErr _ _ (hinv.sendNotice _ _ _ _).regs (by decide)

/-! ## The obligation -/

/-- Settles O42, one clause for each thing that a queue does: an APPEND (`mbAddTwo_stores`), one that finds the queue full
(`mbAddTwo_full`), a CLOSE (`mbClose_stores`), the pointers in a cc (`mbx_mboxCc_advance`), a READ (`mbTake_clean`) and one of an empty
queue (`mbTake_of_empty`), a bad operation and the stale notice. -/
theorem mailboxQueues : Obligations.MailboxQueues := by
  refine ⟨fun s q data f hout hq hup hfence hopen hdrop hrd hresv hfree hclean => ?append,
    fun s q data f hinv hout hq hup hfence hopen hdrop hfull =>
      ⟨_, execAppend_open hout hq data f hup hfence hopen, mbAddTwo_full hinv hdrop hfull _ _⟩,
    fun s q f hout hq hup hfence hopen hdrop hclean => ?close,
    fun s q => ?cc,
    fun s q len m hq hlen hup hfence hfresh hclean hwhole hm => ?read,
    fun s q len hinv hq hlen hup hfence hfresh hempty => ?underrun,
    fun s q data hinv hq hup hfence => ⟨_, execAppend_inbound hq data hup hfence, (onlyReported_setErr _ _ _).mboxes,
      (onlyReported_setErr _ _ _).mem, errSummary_setErr _ _ hinv.regs (by decide)⟩,
    fun s q hinv hq hover hwait => ?stale⟩
  case append =>
    have hlen := leBytes_length 32 data.toNat
    obtain ⟨honly, -, hqueue, hentry⟩ := mbAddTwo_stores hq hclean hdrop hrd hresv hfree
      (a := (leBytes 32 data.toNat).take 16) (b := (leBytes 32 data.toNat).drop 16)
      (by rw [List.length_take, hlen]; rfl) (by rw [List.length_drop, hlen])
    refine ⟨_, execAppend_open hout hq data f hup hfence hopen, honly, by rw [hqueue], by rw [hqueue], by rw [hqueue], ?_, ?_, fun p hp hp1 => ?_⟩
    · rw [hentry, withEntry_ne _ _ (by omega), withEntry_same]
    · rw [hentry, withEntry_same]
    · rw [hentry, withEntry_ne _ _ hp1, withEntry_ne _ _ hp]
  case close =>
    obtain ⟨honly, -, hqueue, hentry⟩ := mbClose_stores hq hclean hdrop
    refine ⟨_, execClose_open hout hq f hup hfence hopen, honly, by rw [hqueue], by rw [hqueue], by rw [hqueue], by rw [hqueue],
      by rw [hqueue], ?_, fun p hp => ?_⟩
    · rw [hentry, withEntry_same, closedHeader]
    · rw [hentry, withEntry_ne _ _ hp]
  case cc =>
    obtain ⟨n, hqueue⟩ := mbx_mboxCc_advance s q
    refine ⟨?_, ?_, ?_, ?_, ?_, ?_, timer_mboxCc_of_filled s q, fun h hh => mbx_mboxCc_ne s hh⟩
    all_goals rw [hqueue, MBox.advance]
  case read =>
    have htake := mbTake_clean (by omega : q < 128) hclean (2 * (len + 1)) hwhole (by omega)
    have hle : min (2 * (len + 1)) m ≤ 2 * (len + 1) := Nat.min_le_left _ _
    generalize min (2 * (len + 1)) m = k at htake hle ⊢
    have hunits : (mbUnits (entriesRead (mbx s q) (2 * (len + 1)) k)).length = len + 1 := by
      rw [mbUnits_length, entriesRead_length _ hle]
      omega
    have hexec := execRead_inbound hq hlen hup hfence hfresh (by rw [htake]; exact List.ne_nil_of_length_eq_add_one hunits)
    rw [htake] at hexec
    have hqueue (o : Out) : mbx (addOut (setMbx s q fun x => queueRead q x k s.now) o) q = queueRead q (mbx s q) k s.now :=
      mbx_setMbx_same s q fun x => queueRead q x k s.now
    refine ⟨_, _, hexec, by rw [hqueue]; rfl, by rw [hqueue]; rfl, by rw [hqueue]; rfl, by rw [hqueue]; rfl, rfl, ?_, fun i hi => ?_,
      fun h hh => ?_⟩
    · rw [List.length_map, hunits]
    · rw [List.getElem?_map, getElem?_mbUnits (getElem?_entriesRead _ _ (by omega)) (getElem?_entriesRead _ _ hi)]
      rfl
    · exact (mbx_setMbx s q h fun x => queueRead q x k s.now).trans (if_neg hh)
  case underrun =>
    have htake := mbTake_of_empty hempty (2 * (len + 1))
    have hunits := mbUnits_replicate (len + 1) (fit (mbx s q).lastRead 16, false)
    have hexec := execRead_inbound hq hlen hup hfence hfresh (by
      rw [htake, hunits]
      exact List.cons_ne_nil _ _)
    rw [htake, hunits, List.map_replicate] at hexec
    have hreported := onlyReported_setErr s (mbBlk q) Err.MBOX_UNDERRUN
    refine ⟨_, hexec, hreported.mboxes, errSummary_setErr _ _ hinv.regs (by decide), ?_⟩
    rw [addOut, hreported.outs]
  case stale =>
    refine ⟨_, execStaleTimeout_over hq hover hwait, ?_, (onlyReported_mbNotice _ _).mem, fun hroute => ?_⟩
    · rw [staleFire, (onlyReported_mbNotice _ _).mbx, mbx_setMbx_same]
    · exact errSummary_mbNotice (hinv.setMbx q _) hroute

end Sys2Proof.Machine
end

section
/-! SUPPORT. What a step of a Garlet port leaves: the port's place among the blocks (R40, R344), its counters (R47), and the
message of a frame fault away from the hub (R561, R570). -/

namespace Sys2Proof.Machine

/-! ## The block of a port -/

section
variable {p : Nat} (hp : p < 20)
include hp

theorem typeOf_gpBlk : typeOf (gpBlk p) = Ty.GPORT := by
  simp only [gpBlk, blk, typeBase, typeOf, Ty.GPORT]
  repeat rw [if_neg (by omega)]
  rw [if_pos (by omega)]

/-- A port stands at its stack's node (R344). -/
theorem chordUnit_gpBlk : chordUnit (gpBlk p) = (p + 12, 32) := by
  have hinst : instOf (gpBlk p) = p := by
    rw [instOf, typeOf_gpBlk hp]
    exact Nat.add_sub_cancel_left _ _
  simp only [chordUnit, typeOf_gpBlk hp, hinst, Ty.GPORT]

theorem chordUnit_gpBlk_ne_hub : (chordUnit (gpBlk p)).1 ≠ 32 := by
  rw [chordUnit_gpBlk hp]
  exact Nat.ne_of_lt (by omega)

theorem gpBlk_ne_ftimer : gpBlk p ≠ blk Ty.FTIMER 0 := fun h => by
  have htype := typeOf_gpBlk hp
  rw [h] at htype
  exact absurd htype (by decide)

theorem regReset_fecUncorr : regReset (gpBlk p) Off.GPORT_FEC_UNCORR = 0 := by
  rw [regReset, typeOf_gpBlk hp]
  decide

end

theorem onlyPort_setGp (s : State) (p : Nat) (f : GPort → GPort) : onlyPort p s (setGp s p f) :=
  ⟨rfl, fun h hh => by rw [gp_setGp, if_neg hh]⟩

theorem onlyReported.gports {s t : State} (h : onlyReported s t) : t.gports = s.gports := by rw [h]
theorem onlyReported.flights {s t : State} (h : onlyReported s t) : t.flights = s.flights := by rw [h]

/-! ## Counters -/

/-- A counter as wide as its register stops at the top (R47). -/
theorem getReg_countField_word {s : State} (b o n : Nat) (h : Assoc.sorted s.regs = true) (hlt : getReg s b o < 2 ^ 32) :
    getReg (countField s b o 31 0 n) b o = min (2 ^ 32 - 1) (getReg s b o + n) := by
  have hfield : fieldOf (getReg s b o) 31 0 = getReg s b o := by
    rw [fieldOf_eq_div_mod, Nat.pow_zero, Nat.div_one, Nat.mod_eq_of_lt hlt]
  have htop : min (2 ^ 32 - 1) (getReg s b o + n) < 2 ^ 32 := by omega
  simp only [countField, setRegField, regField, putField, satAdd, hfield, Nat.reduceAdd, Nat.reduceSub, Nat.shiftLeft_zero, Nat.sub_self,
    Nat.zero_add]
  rw [getReg_setReg_same b o _ h, Nat.mod_mod, Nat.mod_eq_of_lt htop]

theorem getReg_countField_ne (s : State) (b o hi lo n : Nat) {b' o' : Nat} (ho : o < 4096) (ho' : o' < 4096) (h : o' ≠ o) :
    getReg (countField s b o hi lo n) b' o' = getReg s b' o' :=
  getReg_setReg_ne b o _ b' o' ho ho' (by simp [h])

/-! ## The messages of a fault -/

/-- A message of one word is the newest of the network (R341). -/
theorem chordSend_one_word (s : State) {k : ChordKind} (src unit dst lane : Nat) (held : Bool) (hk : wordsOf k = 1) :
    ∃ m, (chordSend s k src unit dst lane held).chord.msgs = s.chord.msgs ++ [m] ∧ m.kind = k ∧ m.node = dst ∧ m.lane = lane := by
  simp [chordSend, setChord, hk]

/-- Marking the frame that a fault belongs to changes the frame timer only (R560). -/
theorem markFaulted_frame (s : State) : markFaulted s = { s with ft := (markFaulted s).ft } := by
  unfold markFaulted
  split <;> rfl

/-- While a program runs, the frame fault of a block away from the hub leaves its node as a FAULT message (R561, R570). -/
theorem raiseFault_sends {s : State} {b : Nat} (c : Nat) (hrun : running s = true) (hnode : (chordUnit b).1 ≠ 32) :
    ∃ m ∈ (raiseFault s b c).chord.msgs, ∃ f, m.kind = .fault b c f s.now := by
  have hnow : (markFaulted s).now = s.now := by rw [markFaulted_frame]
  obtain ⟨m, hmsgs, hkind, -, -⟩ := chordSend_one_word (markFaulted s) (k := .fault b c (faultFrame (markFaulted s)) s.now)
    (chordUnit b).1 (chordUnit b).2 32 0 false rfl
  refine ⟨m, ?_, _, hkind⟩
  simp only [raiseFault, hrun, if_true, hnow, if_neg hnode, hmsgs, List.mem_append, List.mem_singleton, or_true]

end Sys2Proof.Machine
end

section
/-! PROOFS. Records received, the port schedule, the end of a port and a peer's halt (R434-R447). -/

namespace Sys2Proof.Machine

/-! ## Records of good codewords -/

/-- A clean flit past the slots of the skew window joins the receive buffer under the current frame (R437, R441). -/
theorem gpFlit_clean {s : State} {p : Nat} {f : Flit} (hf : f.cls = .clean) (hprog : gpProgram s p = true) (hslot : 2 ≤ slotNow s)
    (hroom : (gp s p).rx.length < 4096) :
    gpFlit s p f = setGp s p fun g => { g with rx := g.rx ++ [⟨s.ft.frame, f, s.now⟩] } := by
  have hboundary : (slotNow s == 0) = false := beq_false_of_ne (by omega)
  have hlate : decide (slotNow s ≤ 1) = false := decide_eq_false (by omega)
  simp [gpFlit, hf, hprog, hboundary, hlate, Nat.not_le.mpr hroom]

/-- An ACTIVE port takes of a good record with flit place 0 alone that flit (R433, R434). -/
theorem execGarletRecord_one {s : State} {p : Nat} {rec : BitVec 2000} (hp : p < 20) (hlive : gpLive s p = true)
    (hactive : (gp s p).tstate = 7) (hwidth : (gp s p).rxWidth = 2) (hcrc : crc8 rec.toNat 103 0 = fieldOf rec.toNat 111 104)
    (hfirst : rec.toNat.testBit 0 = true) (hrest : ∀ k, 1 ≤ k → k ≤ 5 → rec.toNat.testBit k = false) :
    exec (.garletRecord p rec false 0) s = .next (gpFlit s p (recordFlit rec.toNat 0)) := by
  have hplaces : (List.range 5).filter (fun k => rec.toNat.testBit k) = [0] := by
    simp [List.range_succ, hfirst, hrest]
  change execGarletRecord p rec false 0 s = _
  simp [execGarletRecord, onUnit, gportCount, hp, hlive, hactive, hwidth, hcrc, recordFlits, hplaces, hrest, -Nat.reducePow]

/-! ## Records of codewords that could not be corrected -/

theorem onlyReported_laneErrors (s : State) (p mask : Nat) : onlyReported s (laneErrors s p mask) :=
  List.foldlRecOn (motive := onlyReported s) _ _ (onlyReported.refl s) fun _ h _ _ => h.trans (onlyReported_countField _ _ _ _ _ _)

theorem Inv.laneErrors {s : State} (p mask : Nat) (h : Inv s) : Inv (laneErrors s p mask) :=
  Inv.foldl _ _ (fun _ _ h => h.countField _ _ _ _ _) h

/-- A lane in use is one of the port's nine. -/
theorem nth_maskLanes_lt {mask k : Nat} : nth (maskLanes 9 mask) k < 9 := by
  rw [nth, List.getD_eq_getElem?_getD]
  cases hk : (maskLanes 9 mask)[k]? with
  | none => decide
  | some l => exact List.mem_range.mp (List.mem_filter.mp (List.mem_of_getElem? hk)).1

/-- The lanes' own counters stand apart from the port's (R463). -/
theorem getReg_laneErrors (s : State) (p mask b : Nat) :
    getReg (laneErrors s p mask) b Off.GPORT_FEC_UNCORR = getReg s b Off.GPORT_FEC_UNCORR :=
  List.foldlRecOn (motive := fun t => getReg t b Off.GPORT_FEC_UNCORR = getReg s b Off.GPORT_FEC_UNCORR) _ _ rfl fun t ht k _ => by
    have hlane : nth (maskLanes 9 (gp s p).rxLanes) k < 9 := nth_maskLanes_lt
    refine (getReg_countField_ne t _ _ _ _ _ ?_ (by decide) ?_).trans ht
    · simp only [laneReg, Off.GPORT_LANE_0]
      omega
    · simp only [laneReg, Off.GPORT_LANE_0, Off.GPORT_FEC_UNCORR]
      omega

/-- The symbols of the codeword that ends in a record are counted (R463). -/
def symbolsCounted (s : State) (p n : Nat) : State :=
  if n % 2 ^ 544 = 0 then s else laneErrors (countField s (gpBlk p) Off.GPORT_FEC_CORR 31 0 1) p (n % 2 ^ 544)

/-- The codeword that ends in a record is counted (R434, R463). -/
def codewordCounted (s : State) (p n : Nat) : State :=
  if n.testBit 544 then countField (symbolsCounted s p n) (gpBlk p) Off.GPORT_FEC_UNCORR 31 0 1 else symbolsCounted s p n

/-- Nothing is taken of a record with a bit in a codeword that could not be corrected (R434). -/
theorem execGarletRecord_uncorr {s : State} {p : Nat} (rec : BitVec 2000) (n : Nat) (hp : p < 20) (hlive : gpLive s p = true)
    (htrained : 5 ≤ (gp s p).tstate) :
    exec (.garletRecord p rec true n) s = .next (errFault (codewordCounted s p n) (gpBlk p) Err.GPORT_FEC_UNCORR 0x12) := by
  change execGarletRecord p rec true n s = _
  simp only [execGarletRecord, onUnit, gportCount, hp, hlive, htrained, decide_true, Bool.and_self, if_true, codewordCounted, symbolsCounted]

theorem onlyReported_symbolsCounted (s : State) (p n : Nat) : onlyReported s (symbolsCounted s p n) := by
  unfold symbolsCounted
  split
  · exact onlyReported.refl s
  · exact (onlyReported_countField s _ _ _ _ _).trans (onlyReported_laneErrors _ _ _)

theorem Inv.symbolsCounted {s : State} (p n : Nat) (h : Inv s) : Inv (symbolsCounted s p n) := by
  unfold Machine.symbolsCounted
  split
  · exact h
  · exact (h.countField _ _ _ _ _).laneErrors _ _

theorem getReg_symbolsCounted (s : State) (p n : Nat) :
    getReg (symbolsCounted s p n) (gpBlk p) Off.GPORT_FEC_UNCORR = getReg s (gpBlk p) Off.GPORT_FEC_UNCORR := by
  unfold symbolsCounted
  split
  · rfl
  · rw [getReg_laneErrors, getReg_countField_ne _ _ _ _ _ _ (by decide) (by decide) (by decide)]

theorem onlyReported_codewordCounted (s : State) (p n : Nat) : onlyReported s (codewordCounted s p n) := by
  unfold codewordCounted
  split
  · exact (onlyReported_symbolsCounted s p n).trans (onlyReported_countField _ _ _ _ _ _)
  · exact onlyReported_symbolsCounted s p n

theorem Inv.codewordCounted {s : State} (p n : Nat) (h : Inv s) : Inv (codewordCounted s p n) := by
  unfold Machine.codewordCounted
  split
  · exact (h.symbolsCounted p n).countField _ _ _ _ _
  · exact h.symbolsCounted p n

theorem getReg_codewordCounted {s : State} {p : Nat} (n : Nat) (hp : p < 20) (h : Inv s) :
    getReg (codewordCounted s p n) (gpBlk p) Off.GPORT_FEC_UNCORR
      = min (2 ^ 32 - 1) (getReg s (gpBlk p) Off.GPORT_FEC_UNCORR + b2n (n.testBit 544)) := by
  have hlt (t : State) : getReg t (gpBlk p) Off.GPORT_FEC_UNCORR < 2 ^ 32 := getReg_lt t _ _ (by rw [regReset_fecUncorr hp]; decide)
  have hs := hlt s
  unfold codewordCounted
  split
  case isTrue hbit => rw [getReg_countField_word _ _ _ (h.symbolsCounted p n).regs (hlt _), getReg_symbolsCounted, hbit]; rfl
  case isFalse hbit =>
    rw [getReg_symbolsCounted, eq_false_of_ne_true hbit]
    exact (Nat.min_eq_right (by omega)).symm

/-! ## The port schedule -/

/-- A place of entry `i` is past (R439). -/
def placePast (s : State) (p i : Nat) : State :=
  setGp s p fun g => { g with released := Assoc.put i (some (Assoc.getD 0 i (gp s p).released + 1)) g.released }

theorem gp_placePast (s : State) (p i : Nat) :
    gp (placePast s p i) p = { (gp s p) with released := Assoc.put i (some (Assoc.getD 0 i (gp s p).released + 1)) (gp s p).released } :=
  gp_setGp_same _ _ _

/-- The flit that a place of KEY `key` in cc `t` releases: the oldest of its KEY that was there (R439). -/
def releasable (s : State) (key t : Nat) (r : RxFlit) : Bool := r.frame == s.ft.frame && r.flit.key == key && decide (r.at_ ≤ t)

/-- A place of entry `i` in cc `t` has sent the flit at place `j` of the receive buffer to router port 18 (R439). -/
def flitReleased (s : State) (p i t j : Nat) (f : Flit) : State :=
  { setGp (placePast s p i) p (fun g => { g with rx := g.rx.eraseIdx j }) with flights := flightAppend ⟨gpRouter p, 18, t, i, f⟩ s.flights }

theorem gp_flitReleased (s : State) (p i t j : Nat) (f : Flit) :
    gp (flitReleased s p i t j f) p =
      { (gp s p) with released := Assoc.put i (some (Assoc.getD 0 i (gp s p).released + 1)) (gp s p).released, rx := (gp s p).rx.eraseIdx j } := by
  change gp (setGp (placePast s p i) p fun g => { g with rx := g.rx.eraseIdx j }) p = _
  rw [gp_setGp_same, gp_placePast]

/-- With the oldest flit of its KEY at `j` a place releases that (R439). -/
theorem releaseOne_some {s : State} {p i key t j : Nat} {r : RxFlit} (hj : (gp s p).rx.findIdx (releasable s key t) = j)
    (hr : (gp s p).rx[j]? = some r) :
    releaseOne s p i key t = flitReleased s p i t j r.flit := by
  unfold releaseOne
  extract_lets n s1 k
  have hrx : (gp s1 p).rx = (gp s p).rx := by rw [gp_setGp_same]
  have hk : k = j := by
    rw [← hj, ← hrx]
    rfl
  rw [← hk] at hr ⊢
  simp only [hrx, hr]
  rfl

/-- With no flit of its KEY a place stays empty, which is a frame fault (R99, R439). -/
theorem releaseOne_none {s : State} {p i key t : Nat} (hnone : ∀ r ∈ (gp s p).rx, releasable s key t r = false) :
    releaseOne s p i key t = errFault (placePast s p i) (gpBlk p) Err.GPORT_LATE 0x02 := by
  unfold releaseOne
  extract_lets n s1 k
  have hrx : (gp s1 p).rx = (gp s p).rx := by rw [gp_setGp_same]
  have hk : k = (gp s p).rx.length := by
    rw [← List.findIdx_eq_length_of_false hnone, ← hrx]
    rfl
  simp only [hrx, hk, List.getElem?_eq_none (Nat.le_refl _)]
  rfl

/-- An entry with one place due and not yet past makes that place's release (R439). -/
theorem releaseEntry_one {s : State} {p i : Nat} {e : PortEntry} (hcome : posCc s e.slot e.cc ≤ s.now)
    (hdue : min e.count (e.rate * (s.now - posCc s e.slot e.cc + 1)) = Assoc.getD 0 i (gp s p).released + 1) :
    releaseEntry s p i e = releaseOne s p i e.key (posCc s e.slot e.cc + Assoc.getD 0 i (gp s p).released / max 1 e.rate) := by
  simp [releaseEntry, Nat.not_lt.mpr hcome, hdue]

theorem execPortRelease_one {s : State} {p : Nat} (hp : p < 20) (hopen : workOpen s (gpBlk p) = true) (hone : gpEntryCount (gpBody s p) = 1) :
    exec (.portRelease p) s = .next (releaseEntry s p 0 (gpEntry (gpBody s p) 0)) := by
  change execPortRelease p s = _
  simp [execPortRelease, onUnit, gportCount, hp, hopen, hone]

/-! ## The end of a port and a peer's halt -/

/-- A port with every release made and nothing to send is at its end-of-frame point (R443). -/
theorem execPortDone_ready {s : State} {p : Nat} (hp : p < 20) (hopen : doneOpen s (gpBlk p) = true) (hsec : (sectionOf s 8 p).isSome = true)
    (htx : (gp s p).tx = [])
    (hall : ∀ i, i < gpEntryCount (gpBody s p) → (gpEntry (gpBody s p) i).count ≤ Assoc.getD 0 i (gp s p).released) :
    exec (.portDone p) s = .next (setGp s p fun g => { g with done := true }) := by
  have hreleased : (List.range (gpEntryCount (gpBody s p))).all
      (fun i => decide ((gpEntry (gpBody s p) i).count ≤ Assoc.getD 0 i (gp s p).released)) = true := by
    simpa using hall
  change execPortDone p s = _
  simp [execPortDone, onUnit, gportCount, hp, hopen, hsec, htx, hreleased]

/-- What of a peer's halt block goes on to the root, with one more hop (R447). -/
def peerHaltOf (p : Nat) (b : BitVec 128) : ChordKind :=
  .peerHalt p (fieldOf b.toNat 47 40) (fieldOf b.toNat 111 96) (min 255 (fieldOf b.toNat 119 112 + 1)) (fieldOf b.toNat 95 48)

/-- The frame of a program that runs is marked faulted (R560). -/
def markIfRunning (s : State) : State := if running s then markFaulted s else s

theorem markIfRunning_frame (s : State) : markIfRunning s = { s with ft := (markIfRunning s).ft } := by
  unfold markIfRunning
  split
  · exact markFaulted_frame s
  · rfl

theorem execHaltBlock_first {s : State} {p : Nat} {b : BitVec 128} (hp : p < 20) (hlive : gpLive s p = true) (htrained : 5 ≤ (gp s p).tstate)
    (htype : fieldOf b.toNat 127 120 = 0x81) (hhalt : s.ft.halted = false) :
    exec (.haltBlock p b) s = .next (chordSend (markIfRunning (takeCtrl s p b)) (peerHaltOf p b) (p + 12) 32 32 0 false) := by
  have htaken : (takeCtrl s p b).ft.halted = false := hhalt
  change execHaltBlock p b s = _
  simp only [execHaltBlock, onUnit, gportCount, hp, hlive, htrained, htype, htaken, chordUnit_gpBlk hp, decide_true, beq_self_eq_true,
    Bool.and_self, Bool.false_eq_true, if_true, if_false, markIfRunning, peerHaltOf]

/-! ## The obligation -/

/-- Settles O43. Each command comes down to one operation on the port, and what that leaves gives its clause: a flit joins the
receive buffer, an error is reported beside its counter, the one place due releases a flit or raises its fault, the port is marked
done, and the halt leaves as one message. -/
theorem garletTraffic : Obligations.GarletTraffic := by
  unfold Obligations.GarletTraffic
  refine ⟨?record, ?uncorr, ?release, ?missing, ?done, ?halt⟩
  case record =>
    intro s p rec hp hlive hactive hwidth x f hcrc hfirst hrest hclean hprog hslot hroom
    refine ⟨_, (execGarletRecord_one hp hlive hactive hwidth hcrc hfirst hrest).trans (by rw [gpFlit_clean hclean hprog hslot hroom]),
      onlyPort_setGp _ _ _, by rw [gp_setGp_same]⟩
  case uncorr =>
    intro s p n rec hinv hp hlive htrained
    have hraised := raised_errFault (codewordCounted s p n) (gpBlk p) Err.GPORT_FEC_UNCORR 0x12
    have honly := (onlyReported_codewordCounted s p n).trans hraised.reported
    refine ⟨_, execGarletRecord_uncorr rec n hp hlive htrained, honly.gports, honly.mem, ?_,
      errSummary_errFault _ _ (hinv.codewordCounted p n) (by decide)⟩
    rw [hraised.reg _ _ (gpBlk_ne_ftimer hp) (by decide) (by decide), getReg_codewordCounted n hp hinv]
  case release =>
    intro s p j r hp hopen hone e n at_ hcome hdue hj hr
    refine ⟨_, execPortRelease_one hp hopen hone, ?_⟩
    rw [releaseEntry_one hcome hdue, releaseOne_some hj hr]
    exact ⟨by rw [gp_flitReleased], by rw [gp_flitReleased, Assoc.getD_put_same], rfl, rfl⟩
  case missing =>
    intro s p hinv hp hopen hone e n hcome hdue hnone
    have hempty : ∀ r ∈ (gp s p).rx, releasable s e.key (posCc s e.slot e.cc + n / max 1 e.rate) r = false := fun r hr => by
      simp only [releasable, Bool.and_eq_false_iff, beq_eq_false_iff_ne, decide_eq_false_iff_not, Nat.not_le, or_assoc]
      exact hnone r hr
    have hpast : Inv (placePast s p 0) := ⟨hinv.mem, hinv.synd, hinv.regs⟩
    refine ⟨_, execPortRelease_one hp hopen hone, ?_⟩
    rw [releaseEntry_one hcome hdue, releaseOne_none hempty]
    refine ⟨(onlyReported_errFault _ _ _ _).flights, errSummary_errFault _ _ hpast (by decide), fun hrun => ?_⟩
    have hreported := setErr_frame (placePast s p 0) (gpBlk p) Err.GPORT_LATE
    have hnow : (setErr (placePast s p 0) (gpBlk p) Err.GPORT_LATE).now = s.now := by rw [hreported]; rfl
    rw [← hnow]
    refine raiseFault_sends 0x02 ?_ (chordUnit_gpBlk_ne_hub hp)
    rw [hreported]
    exact hrun
  case done =>
    intro s p hp hopen hsec htx hall
    exact ⟨_, execPortDone_ready hp hopen hsec htx hall, onlyPort_setGp _ _ _, by rw [gp_setGp_same]⟩
  case halt =>
    intro s p b hp hlive htrained htype hhalt
    obtain ⟨m, hmsgs, hkind, hnode, hlane⟩ :=
      chordSend_one_word (markIfRunning (takeCtrl s p b)) (k := peerHaltOf p b) (p + 12) 32 32 0 false rfl
    refine ⟨_, m, execHaltBlock_first hp hlive htrained htype hhalt, ?_, hkind, hnode, hlane, ?_⟩
    · rw [hmsgs, markIfRunning_frame]
      rfl
    · rw [chordSend, setChord, markIfRunning_frame]
      rfl

end Sys2Proof.Machine
end
